-- ==== Sys2Proof/Word.lean ====
section
/-!
DEFINITION. The word types of the device's registers and structures (R7, R8): plain bit vectors.
-/
namespace Sys2Proof

/-- One byte. -/
abbrev Byte := BitVec 8
/-- A register word of BAR0 (R12: 32-bit accesses only). -/
abbrev Word := BitVec 32
/-- A 64-bit word of a descriptor, record or table entry (R8). -/
abbrev Quad := BitVec 64

/-- Port P00 to P63 (R1). -/
abbrev Port := Fin 64
/-- Host hierarchy 0 to 47 (R1). -/
abbrev Hier := Fin 48
/-- Stack S00 to S15, or slot SLOT00 to SLOT15 (R1). -/
abbrev Stack := Fin 16
/-- Slot power channel SLOT00 to SLOT15 (R1). -/
abbrev Slot := Fin 16
/-- Lane L000 to L255 (R1). -/
abbrev Lane := Fin 256
/-- Command ring 00 to 63 (R1). -/
abbrev Ring := Fin 64
/-- Data mover function 0000 to 2047 (R1). -/
abbrev Fn := Fin 2048

end Sys2Proof
end

