-- ==== Sys2Proof/Machine/Bits.lean ====
section
/-!
DEFINITION. Bit-field reading and writing (R7), byte order of structures in memory (R8), counters that wrap or
saturate (R16).
-/
namespace Sys2Proof.Machine

/-- Bits [hi:lo] of a number, both ends included (R7). -/
def bitsOf (n hi lo : Nat) : Nat := (n >>> lo) % 2 ^ (hi + 1 - lo)

/-- Bit `k` of a number (R7). -/
def bitOf (n k : Nat) : Bool := n.testBit k

/-- The field [hi:lo] of a register word (R7). -/
def fld (w : Word) (hi lo : Nat) : Nat := bitsOf w.toNat hi lo

/-- The field [hi:lo] of a quad word (R7). -/
def qfld (q : Quad) (hi lo : Nat) : Nat := bitsOf q.toNat hi lo

/-- A value placed with its least significant bit at `lo`, cut to the field [hi:lo] (R7). -/
def place (v hi lo : Nat) : Nat := (v % 2 ^ (hi + 1 - lo)) <<< lo

/-- A number with the field [hi:lo] replaced by `v` (R7). -/
def setBits (n hi lo v : Nat) : Nat := n - place (bitsOf n hi lo) hi lo + place v hi lo

/-- One bit as a number. -/
def b2n (b : Bool) : Nat := if b then 1 else 0

/-- A counter of `w` bits that wraps, one further (R16). -/
def wrapInc (w n : Nat) : Nat := (n + 1) % 2 ^ w

/-- A counter of `w` bits that wraps, `k` further (R16). -/
def wrapAdd (w n k : Nat) : Nat := (n + k) % 2 ^ w

/-- A value cut off at the greatest value of `w` bits. -/
def satBits (w n : Nat) : Nat := min n (2 ^ w - 1)

/-- The number a two's complement field of `w` bits stands for. -/
def signed (w n : Nat) : Int := if n < 2 ^ (w - 1) then Int.ofNat n else Int.ofNat n - Int.ofNat (2 ^ w)

/-- The two's complement pattern of `w` bits of a number. -/
def unsigned (w : Nat) (i : Int) : Nat := (i % Int.ofNat (2 ^ w)).toNat

/-- The `n` bytes of a number, least significant first (R8). -/
def leBytes : Nat → Nat → List Byte
  | 0, _ => []
  | n + 1, v => BitVec.ofNat 8 v :: leBytes n (v / 256)

/-- The number that bytes spell, least significant first (R8). -/
def leNat : List Byte → Nat
  | [] => 0
  | b :: bs => b.toNat + 256 * leNat bs

/-- The number that 64-bit words spell, the first one lowest (R8). -/
def quadsNat : List Quad → Nat
  | [] => 0
  | q :: qs => q.toNat + 2 ^ 64 * quadsNat qs

/-- A number as `n` 64-bit words, the lowest first (R8). -/
def natQuads : Nat → Nat → List Quad
  | 0, _ => []
  | n + 1, v => BitVec.ofNat 64 v :: natQuads n (v / 2 ^ 64)

/-- How many bits of a number are 1, among its low `n` bits. -/
def popCount : Nat → Nat → Nat
  | 0, _ => 0
  | n + 1, v => v % 2 + popCount n (v / 2)

/-- A set of bit numbers as a word. -/
def bitSet (l : List Nat) : Nat := l.foldl (fun n k => n ||| 2 ^ k) 0

end Sys2Proof.Machine
end

