-- ==== Sys2Proof/Machine/Sources.lean ====
section
/-!
DEFINITION. The error sources: their homes, classes, kinds, default severities and AER columns (R316 to R320, R370, R398).
-/
namespace Sys2Proof.Machine

/-- The severities of R323. -/
inductive Severity where
  | masked | count | note | alert | containPort | containHierarchy | containLink | deviceFatal
  deriving DecidableEq, Repr

/-- The encoding of ELG_Snnnn_SEV.SEV (R323). -/
def sevCode : Severity → Nat
  | .masked => 0
  | .count => 1
  | .note => 2
  | .alert => 3
  | .containPort => 4
  | .containHierarchy => 5
  | .containLink => 6
  | .deviceFatal => 7

/-- The severity an encoding names (R323); every encoding of the 3 bits is defined. -/
def sevOf (n : Nat) : Severity :=
  match n % 8 with
  | 0 => .masked
  | 1 => .count
  | 2 => .note
  | 3 => .alert
  | 4 => .containPort
  | 5 => .containHierarchy
  | 6 => .containLink
  | _ => .deviceFatal

/-- Where a source lives (R316). -/
inductive Home where
  | port (p : Nat)
  | hier (h : Nat)
  | stack (s : Nat)
  | device
  deriving DecidableEq, Repr

/-- The home of a source number (R316). -/
def sourceHome (n : Nat) : Home :=
  if n < 1024 then .port (n / 16)
  else if n < 1408 then .hier ((n - 1024) / 8)
  else if n < 1472 then .stack ((n - 1408) / 4)
  else .device

/-- The class of a source number (R316). -/
def sourceClass (n : Nat) : Nat :=
  if n < 1024 then n % 16
  else if n < 1408 then 16 + n % 8
  else if n < 1472 then 24 + n % 4
  else if n < 1504 then 28 + (n - 1472)
  else if n < 1520 then 60
  else if n < 1528 then 61
  else 62

/-- The number of a port source (R316). -/
def srcPort (p k : Nat) : Nat := 16 * p + k
/-- The number of a hierarchy source (R316). -/
def srcHier (h k : Nat) : Nat := 1024 + 8 * h + k
/-- The number of a stack source (R316). -/
def srcStack (s k : Nat) : Nat := 1408 + 4 * s + k

/-- The default severities of R317. -/
def portDefault (k : Nat) : Severity :=
  if k = 0 then .containPort
  else if k = 4 ∨ k = 7 ∨ k = 10 then .count
  else if k = 5 ∨ k = 9 then .alert
  else if k = 6 ∨ k = 8 then .containLink
  else if k = 15 then .masked
  else .note

/-- The default severities of R318. -/
def hierDefault (k : Nat) : Severity :=
  if k = 0 then .containPort
  else if k = 4 ∨ k = 5 then .count
  else if k = 7 then .masked
  else .note

/-- The default severities of R319. -/
def stackDefault (k : Nat) : Severity :=
  if k = 0 then .containPort else if k = 1 then .alert else .masked

/-- The default severities of R320, R370 and R398. -/
def deviceDefault (n : Nat) : Severity :=
  if n = 1472 ∨ n = 1535 then .deviceFatal
  else if n = 1473 ∨ n = 1478 ∨ n = 1480 ∨ n = 1485 ∨ n = 1487 ∨ n = 1488 ∨ n = 1492 ∨ n = 1493 ∨ n = 1494
      ∨ n = 1520 ∨ n = 1521 ∨ n = 1523 ∨ n = 1526 ∨ n = 1532 ∨ n = 1534 then .note
  else if n = 1483 ∨ n = 1490 then .count
  else if (1495 ≤ n ∧ n ≤ 1503) ∨ n = 1527 then .masked
  else .alert

/-- The default severity of a source (R317 to R320, R370, R398). -/
def sourceDefault (n : Nat) : Severity :=
  match sourceHome n with
  | .port _ => portDefault (n % 16)
  | .hier _ => hierDefault (n % 8)
  | .stack _ => stackDefault (n % 4)
  | .device => deviceDefault n

/-- Whether a source's cause is a level (R317 to R320, R370, R398): it persists and shows in ACTIVE. -/
def sourceLevel (n : Nat) : Bool :=
  match sourceHome n with
  | .port _ => n % 16 == 0
  | .hier _ => n % 8 == 0 || n % 8 == 1 || n % 8 == 3
  | .stack _ => n % 4 == 0 || n % 4 == 1
  | .device => n == 1472 || n == 1474 || n == 1476 || n == 1477 || n == 1479 || n == 1486 || n == 1487
      || n == 1520 || n == 1521 || n == 1525 || n == 1526

/-- The AER columns of R317 to R320: Uncorrectable Internal Error, the link bit of the cause, or no report. -/
inductive AerColumn where
  | uie | link | none
  deriving DecidableEq, Repr

/-- The AER column of a source (R317 to R320, R370, R398). -/
def sourceAer (n : Nat) : AerColumn :=
  match sourceHome n with
  | .port _ => if n % 16 = 0 then .uie else if 4 ≤ n % 16 ∧ n % 16 ≤ 7 then .link else .none
  | .hier _ => if n % 8 = 0 then .uie else .none
  | .stack _ => if n % 4 = 0 then .uie else .none
  | .device => if n = 1472 ∨ n = 1475 then .uie else .none

/-- A source marked reserved is never raised (R316). -/
def sourceReserved (n : Nat) : Bool :=
  match sourceHome n with
  | .port _ => n % 16 == 15
  | .hier _ => n % 8 == 7
  | .stack _ => n % 4 == 2 || n % 4 == 3
  | .device => (decide (1495 ≤ n) && decide (n ≤ 1503)) || n == 1527 || decide (1536 ≤ n)

end Sys2Proof.Machine
end

