-- ==== Sys2Proof/Machine/Table.lean ====
section
/-!
DEFINITION. Sparse tables: a list of (key, value) pairs in one canonical form, keys strictly rising and no pair whose
value is what an unlisted key reads as. Every indexed part of the device (ports, hierarchies, rings, functions, table
entries, counters, memories) is held in one.
-/
namespace Sys2Proof.Machine

/-- A sparse table: what is listed differs from the default. -/
abbrev Tbl (α : Type) := List (Nat × α)

/-- The listed value at a key. -/
def tfind {α : Type} : Tbl α → Nat → Option α
  | [], _ => none
  | (k, v) :: t, key => if key = k then some v else if key < k then none else tfind t key

/-- The value at a key, the default where nothing is listed. -/
def tget {α : Type} (d : α) (t : Tbl α) (key : Nat) : α := (tfind t key).getD d

/-- Put a listed value at a key, whatever the value. -/
def tins {α : Type} : Tbl α → Nat → α → Tbl α
  | [], key, v => [(key, v)]
  | (k, x) :: t, key, v =>
    if key < k then (key, v) :: (k, x) :: t
    else if key = k then (key, v) :: t
    else (k, x) :: tins t key v

/-- Unlist a key. -/
def tdel {α : Type} : Tbl α → Nat → Tbl α
  | [], _ => []
  | (k, x) :: t, key =>
    if key < k then (k, x) :: t
    else if key = k then t
    else (k, x) :: tdel t key

/-- Write a value at a key: the default unlists the key, so that equal tables are equal lists. -/
def tput {α : Type} [DecidableEq α] (d : α) (t : Tbl α) (key : Nat) (v : α) : Tbl α :=
  if v = d then tdel t key else tins t key v

/-- Change the value at a key. -/
def tmod {α : Type} [DecidableEq α] (d : α) (t : Tbl α) (key : Nat) (f : α → α) : Tbl α :=
  tput d t key (f (tget d t key))

/-- Write many values, in order. -/
def tputs {α : Type} [DecidableEq α] (d : α) (t : Tbl α) : List (Nat × α) → Tbl α
  | [] => t
  | (k, v) :: ps => tputs d (tput d t k v) ps

/-- Keys strictly rising, each above `lo` (when given), and no value equal to the default. -/
def twfFrom {α : Type} [DecidableEq α] (d : α) : Option Nat → Tbl α → Bool
  | _, [] => true
  | lo, (k, v) :: t =>
    (match lo with | none => true | some l => decide (l < k)) && decide (v ≠ d) && twfFrom d (some k) t

/-- The canonical form of a table. -/
def twf {α : Type} [DecidableEq α] (d : α) (t : Tbl α) : Bool := twfFrom d none t

/-- Every listed value changed, values that become the default unlisted. -/
def tmap {α : Type} [DecidableEq α] (d : α) (f : Nat → α → α) : Tbl α → Tbl α
  | [] => []
  | (k, v) :: t => if f k v = d then tmap d f t else (k, f k v) :: tmap d f t

/-- A set of numbers, listed in rising order: add one. -/
def sadd (l : List Nat) (n : Nat) : List Nat :=
  match l with
  | [] => [n]
  | m :: t => if n < m then n :: m :: t else if n = m then m :: t else m :: sadd t n

/-- A set of numbers: take one out. -/
def sdel (l : List Nat) (n : Nat) : List Nat := l.filter (fun m => m != n)

end Sys2Proof.Machine
end

