-- ==== Sys2Proof/Machine/StateCore.lean ====
section
/-!
DEFINITION. State of the device as a whole: modes (R2, R27), clocks (R25), spine time and its servo (R35 to R44), quires,
write gate and bindings (R45 to R56), the error ledger (R316 to R333).
-/
namespace Sys2Proof.Machine

/-- The eight modes of R2. -/
inductive Mode where
  | off | aux | endpaper | test | standalone | member | anchor | quiesced
  deriving DecidableEq, Repr

/-- Who sends a register access: the management function through BAR0, or a management processor through the bridge (R36, R374). -/
inductive Path where
  | mf
  | fw (proc : Fin 2)
  deriving DecidableEq, Repr

/-- A master of the management local bus (R372): a processor, the debug master, the data-plane side of the bridge. -/
inductive LocalMaster where
  | processor (k : Fin 2)
  | debug
  | dataPlane
  deriving DecidableEq, Repr

/-- What a master does at a local address (R372). -/
inductive LocalUse where
  | execute | read | write
  deriving DecidableEq, Repr

/-- Mode control (R27, R29 to R31) and the boot ROM's part of a start. -/
structure Glb where
  mode : Mode
  prevMode : Mode
  transitions : Nat
  refused : Nat
  quiesceCause : Nat
  /-- the mode from which QUIESCED was entered (R27) -/
  enteredFrom : Mode
  /-- COLD_RST_N is high (R27) -/
  coldRstHigh : Bool
  /-- VDD_AUX (with VDD_IO) is in range (R27, R406) -/
  vddAuxOk : Bool
  /-- AUX_REFCLK is present under R408 -/
  auxRefclkOk : Bool
  /-- the core clock runs and core memories are initialised (R27) -/
  coreUp : Bool
  /-- a binding has been accepted in the present start (R243) -/
  bindAccepted : Bool
  /-- a binding has completed in the present start (R27, R32, R34) -/
  firstBound : Bool
  /-- a binding has fired in the present start (R187) -/
  firstFired : Bool
  /-- malformed BAR0 accesses are counted as device event of R344; this is the block's own running number (R12) -/
  malformed : Nat
  /-- the device's 64-bit serial number (R69) -/
  serial : Nat
  deriving DecidableEq, Repr

/-- The servo states of R41. -/
inductive ServoState where
  | free | acquire | locked | holdover
  deriving DecidableEq, Repr

/-- The time references of R36 and R42. -/
inductive TimeRef where
  | none | external | fabric (port : Nat)
  deriving DecidableEq, Repr

/-- One latch set of R36, R262 and R346. -/
structure LatchSet where
  nsHi : Nat
  frac : Nat
  bitcntHi : Nat
  pmcHi : Nat
  deriving DecidableEq, Repr

/-- Spine time and its servo (R35 to R44). Times are in units of 2^-40 ns. -/
structure Spine where
  /-- NS, FRAC and the 24 further fraction bits, as one number (R35) -/
  t40 : Nat
  /-- the increment of one CCLK (R35, R40) -/
  inc : Nat
  servo : ServoState
  /-- the sum of all θ that make up y: y = yAcc / (2^40 × 64 × T) (R40) -/
  yAcc : Int
  /-- the latest θ (R39) -/
  theta : Int
  ref : TimeRef
  /-- consecutive measurements within 4 ns, and beyond 50 ns (R41) -/
  goodRun : Nat
  badRun : Nat
  /-- MTICK spent in HOLDOVER (R41) -/
  holdTicks : Nat
  holdExpired : Bool
  ppsSeen : Bool
  /-- SPINE_CLK shows edges (R37, R42) -/
  extClk : Bool
  /-- no SPINE_PPS edge came for 1.1 s (R42) -/
  ppsLost : Bool
  /-- the θ a SPINE_PPS edge forces for this MTICK (R37) -/
  ppsTheta : Option Int
  /-- MTICK without a valid time response (R42) -/
  missed : Nat
  /-- a measurement has been taken in the present MTICK (R37, R38) -/
  measured : Bool
  latchMf : LatchSet
  latchFw : LatchSet
  /-- a load waiting for SPINE_PPS (R44) -/
  loadAtPps : Option Nat
  refusedCount : Nat
  parityHold : Nat
  unqual : Nat
  late : Nat
  /-- CCLK since the last MTICK edge (R25) -/
  cclk : Nat
  /-- MTICK edges since the cold reset (R25) -/
  ticks : Nat
  deriving DecidableEq, Repr

/-- Who waits for the end of a command: a ring with the command's index and tag, a remote sender (R204), or none. -/
inductive Origin where
  | ring (r idx tag : Nat)
  | remote (port seq src : Nat)
  | none
  deriving DecidableEq, Repr

/-- The stages of R48 that an accepted binding has passed. -/
inductive BindStage where
  | pending | armed | gated | fired | released | copying
  deriving DecidableEq, Repr

/-- An accepted binding request (R47). -/
structure BindReq where
  groups : Nat
  t : Nat
  stage : BindStage
  /-- E0 was set by a forward step (R50) -/
  late : Bool
  /-- E0 in CCLK of the device's count, once a forward step has set it (R50) -/
  due : Option Nat
  /-- the shadow words found bad when the gate closed (R48 step 2) -/
  badShadow : Bool
  /-- E0 in NS once fired (R48 step 7) -/
  e0 : Nat
  origin : Origin
  deriving DecidableEq, Repr

/-- A write that waits for the write gate (R49). -/
structure GateWrite where
  off : Nat
  val : Word
  deriving DecidableEq, Repr

/-- The mirrors of one block with ROM fields (R54). -/
structure Mirror where
  seq : Nat
  /-- refreshed since the core started -/
  fresh : Bool
  deriving DecidableEq, Repr

/-- Registers and quires (R10, R45 to R56). Words are keyed by BAR0 offset; an unlisted word holds its reset value. -/
structure Regs where
  active : Tbl Word
  shadow : Tbl Word
  /-- RWI and RWL words -/
  direct : Tbl Word
  /-- the previous active quire while a fired binding has not released it (R48 step 5) -/
  old : Tbl Word
  mirror : Tbl Word
  binds : List BindReq
  gateQueue : List GateWrite
  /-- words whose parity a check has found bad (R55, R56) -/
  badActive : List Nat
  badShadow : List Nat
  badDirect : List Nat
  /-- words that an upset has made bad and no check has met yet (R55) -/
  latActive : List Nat
  latShadow : List Nat
  latDirect : List Nat
  /-- mirrors of DEC, SWC, GTH and PWR (R421) -/
  mirDec : Mirror
  mirSwc : Mirror
  mirGth : Mirror
  mirPwr : Mirror
  /-- the boot or firmware LOCK bits (R10): HVH, PWR, MGT -/
  lockHvh : Bool
  lockPwr : Bool
  lockMgt : Bool
  deriving DecidableEq, Repr

/-- The kinds of scope of R324. -/
inductive ScopeKind where
  | source | port | hierarchy | link | device
  deriving DecidableEq, Repr

/-- The PCI Express bit a "link" source sets (R331). -/
inductive LinkCause where
  | none | receiverError | badTlp | badDllp | replayTimeout | replayRollover | surpriseDown | dllProtocol
  | fcProtocol | receiverOverflow | malformedTlp | poisoned | ecrc
  deriving DecidableEq, Repr

/-- What a raise carries (R321). -/
structure RaiseInfo where
  src : Nat
  port : Option Nat
  hier : Option Nat
  vdsb : Option Nat
  aux : Nat
  block : Nat
  addr : Nat
  hdr : Nat
  cause : LinkCause
  deriving DecidableEq, Repr

/-- A ledger record (R325). `srcs` lists the sources that opened or merged into it, as R329 needs them. -/
structure Record where
  isOpen : Bool
  sev : Severity
  kind : ScopeKind
  inst : Nat
  refused : Nat
  merges : Nat
  firstSrc : Nat
  openNs : Nat
  lastNs : Nat
  classes : Nat
  port : Option Nat
  hier : Option Nat
  vdsb : Option Nat
  aux : Nat
  block : Nat
  addr : Nat
  hdr : Nat
  srcs : List Nat
  deriving DecidableEq, Repr

/-- A record that was never opened. -/
def noRecord : Record :=
  ⟨false, .masked, .source, 0, 0, 0, 0, 0, 0, 0, none, none, none, 0, 0, 0, 0, []⟩

/-- The error ledger (R325, R326, R333). -/
structure Ledger where
  records : Tbl Record
  counts : Tbl Nat
  /-- the record most recently opened under step 3 of R326, plus one -/
  search : Nat
  opened : Nat
  overflow : Nat
  refused : Nat
  unscoped : Nat
  escalated : Nat
  deriving DecidableEq, Repr

/-- The access guard's counts and last fault (R313). Slots are keyed by port number, or 64 + function. -/
structure Agd where
  faults : Tbl Nat
  splits : Tbl Nat
  lastAddr : Nat
  seq : Nat
  space : Nat
  wr : Bool
  src : Nat
  inst : Nat
  deriving DecidableEq, Repr

end Sys2Proof.Machine
end

