-- ==== Sys2Proof/Machine/StatePath.lean ====
section
/-!
DEFINITION. Packets and the data plane's state: requests as received, packets in the shared buffer, bookmarks and egress
tags (R23, R24, R424), queues and accounting (R109 to R133), the folio, routing and gathering tables (R92, R105, R136),
generations (R97), prefetch (R81) and locks (R80).
-/
namespace Sys2Proof.Machine

/-- The kinds of packet the device carries (R87, R94, R117). -/
inductive PktOp where
  | memWrite | memRead | atomic | npWrite | io | cfgRead | cfgWrite | msg | cpl
  | cMemRd | cMemWr | cMemWrPtl | ndr | drs | biSnp | biRsp
  deriving DecidableEq, Repr

/-- Completion status of PCI Express; `ok` also stands for an NDR or DRS without error. -/
inductive CplStatus where
  | ok | ur | ca | crs
  deriving DecidableEq, Repr

/-- A message's routing field (R87): to the root or bridge, broadcast, by ID, the Unlock message (R80), or one of the two
messages that the device treats by name, LTR and the PTM request (R85); a configuration request of Type 0 or, by ID, of
Type 1. -/
inductive MsgRoute where
  | toBridge | broadcast | byId (bus dev fn : Nat) | type0 (dev fn : Nat) | unlock | ltr | ptm
  deriving DecidableEq, Repr

/-- What the arrival of a TLP told of it (R124): no ECRC, one that checks, or one that does not; `badLength`: no ECRC, and a payload of
another length than its header gives. -/
inductive Ecrc where
  | none | good | bad | badLength
  deriving DecidableEq, Repr

/-- The packet was found bad as it arrived (R124). -/
def Ecrc.isBad : Ecrc → Bool
  | .bad | .badLength => true
  | _ => false

/-- The ECRC with which the packet departs: made anew where there was one (R124). -/
def Ecrc.anew : Ecrc → Ecrc
  | .none | .badLength => .none
  | _ => .good

/-- A packet's content, as it stands on a link. Sizes are in bytes. -/
structure Tlp where
  op : PktOp
  addr : BitVec 64
  /-- bytes asked for, or carried -/
  len : Nat
  /-- the byte enables of MemWrPtl (R94); of a configuration write; of a memory write whose enabled bytes are not one run, which
  PCI Express allows up to 8 bytes: bit i for byte i of the payload, 0 for all -/
  be : BitVec 64
  payload : List Byte
  reqId : BitVec 16
  tag : Nat
  /-- the TC field of PCI Express -/
  tc : Fin 8
  /-- poisoned: EP of a TLP, or the poison bit of a CXL.mem data message -/
  ep : Bool
  /-- LD-ID of a CXL multi-logical device; BI-ID of a snoop -/
  ld : Nat
  status : CplStatus
  /-- synthesised by a Stolvel device (R148) -/
  synth : Bool
  route : MsgRoute
  /-- the first 16 bytes of the protocol header; the next 16 are `hdrHi` -/
  hdr : BitVec 128
  /-- a locked read, MRdLk (R80) -/
  locked : Bool
  /-- the AT field (R315) -/
  atf : Fin 4
  /-- of a part of a read split at a folio boundary: the bytes of the read behind the part (R91); of a completion: the bytes of the
  read that are still to come from its first byte on, its byte count -/
  rest : Nat := 0
  ecrc : Ecrc := .none
  hdrHi : BitVec 128 := 0
  deriving DecidableEq, Repr

/-- The ordering types of R117. -/
inductive OrdType where
  | p | np | cpl | req | rwd | birsp | ndr | drs | bisnp
  deriving DecidableEq, Repr

/-- The buffer classes of R112. -/
inductive BufClass where
  | p | np | cpl | mreq | mrsp | mbi
  deriving DecidableEq, Repr

/-- Where a packet or request came from: a port, or the device itself (R112, R116). -/
inductive Ingress where
  | port (p : Nat)
  | device
  deriving DecidableEq, Repr

/-- What a packet's cells are charged to (R113). -/
inductive Charge where
  | pool
  | reserve (port : Nat) (cls : BufClass)
  | internal
  deriving DecidableEq, Repr

/-- A packet in the shared buffer (R109, R113, R142). -/
structure Packet where
  tlp : Tlp
  ingress : Ingress
  cls : BufClass
  tc : Nat
  group : Nat
  /-- slot and number of the generation that decode stamped (R97) -/
  slot : Nat
  gen : Nat
  cells : Nat
  charge : Charge
  /-- the further cell that a flush answer takes from the internal reserve (R131) -/
  extra : Nat
  /-- the port whose shared holding counts the packet (R113), for `pool` -/
  holder : Ingress
  /-- member copies not yet gone; those of mirror sessions count beside them (R142, R339) -/
  refs : Nat
  bookmark : Option Nat
  /-- source and destination fabric ID, when it crosses the fabric (R106) -/
  srcFid : Nat
  dstFid : Option Nat
  ttl : Nat
  hier : Option Nat
  /-- a write to a migrating folio: its context and pass parity (R169) -/
  mig : Option (Nat × Bool)
  /-- CCLK count when its header entered stage 4, for the TRANSIT histogram (R352) -/
  born : Nat
  /-- the gathering that a copied write went through (R150) -/
  gather : Option Nat
  /-- the session of the Brodoth link it came in on (R226, R227) -/
  session : Nat
  /-- it was queued in more than one copy (R142) -/
  repl : Bool
  /-- the bytes of its payload that were found bad (R124, R125): first, and end -/
  bad : Option (Nat × Nat)
  /-- a write of the data mover: function, ring and number of the request (R297) -/
  dmv : Option (Nat × Nat × Nat)
  /-- a completion made of CXL.mem data responses (R94): its cells stay those of the class MRSP (R112, R113) -/
  built : Bool
  /-- the received packet it came of, by number, and the credits that one took of its port: the parts of a request have them in
  common (R113, R114) -/
  arrival : Nat
  took : List (Nat × Nat)
  /-- a response: the bookmark it returns by, and the FLOW sessions that matched the request (R334, R338) -/
  answers : Option Nat
  flow : List Nat
  deriving DecidableEq, Repr

/-- One copy of a packet in the queue of an egress port (R117, R142). -/
structure QEntry where
  age : Nat
  pkt : Nat
  typ : OrdType
  tc : Nat
  group : Nat
  cells : Nat
  addr : BitVec 64
  ld : Option Nat
  dstFid : Option Nat
  member : Option Nat
  /-- leaves as CXL.mem messages, one for each line (R94) -/
  convert : Bool
  /-- waits until its last cell is written (R123) -/
  underrun : Bool
  /-- not eligible before this CCLK of the device's count (R208) -/
  release : Option Nat
  /-- the member's word when the request was decoded (R157) -/
  word : Quad
  deriving DecidableEq, Repr

/-- What a bookmark's request is for, when its answer does not go back to a port (R23, R77). -/
inductive Purpose where
  | host          -- answers the requester on a port
  | fabric        -- answers toward a source fabric ID
  | absorb        -- converted posted write: the Cmps are absorbed (R150)
  | prefetch (hier : Nat)
  | migRead (ctx : Nat) (granule : Nat)
  | migWrite (ctx : Nat) (granule : Nat)
  | migSettle (ctx : Nat)
  | migConfirm (ctx : Nat)
  | dmv (fn ring idx : Nat)
  | snoop         -- forwarded back-invalidate snoop (R84)
  | confirm       -- a write of the device that awaits confirmation
  | register      -- a host's access to BAR0 of a management endpoint, at work or waiting (R24, R49)
  | fetch (r : Nat)   -- a command ring's read of its memory (R263, R268)
  | cset          -- a read of a command set from host memory (R390)
  deriving DecidableEq, Repr

/-- An egress tag in use (R424): its port and number, and the member and line it stands for. -/
structure TagUse where
  port : Nat
  tag : Nat
  member : Option Nat
  line : Nat
  done : Bool
  /-- a tag of the CXL.mem tag space -/
  mem : Bool
  /-- the fabric ID the request went to -/
  dst : Option Nat
  deriving DecidableEq, Repr

/-- Where a response came from: the port and the class it carried, whether with an ECRC (R124), when its header entered stage 4 (R352), and
the received packet it is, with the credits that took (R113). -/
structure Via where
  port : Nat
  tc : Nat
  ecrc : Bool
  /-- it was found bad (R124) -/
  bad : Bool
  born : Nat
  arrival : Nat
  took : List (Nat × Nat)
  deriving DecidableEq, Repr

/-- What came of a part of a bookmark's request: an answer from outside, an expiry, or a flush before it left. -/
inductive BmResult where
  /-- a completion, or CXL.mem response: status, poison, bytes, synthesised by another Stolvel device (R148), and how it came -/
  | answer (status : CplStatus) (poison : Bool) (data : List Byte) (synth : Bool) (via : Via)
  /-- the timer of R77, or an answer "as on expiry" (R126, R131, R328) -/
  | expired
  /-- the request was flushed, or could not be sent, before it left (R131, R132); with what its header cell is charged to, in which the
  answer is built -/
  | flushed (cell : Option (Charge × Ingress))
  /-- drained at the end of R31 -/
  | quiesced
  /-- this device answers in the place of the target, which R148 counts as a synthesised response: the part could not be sent (R93, R105),
  was found bad (R126), or its link went down after it (R131 step 6); else as on expiry -/
  | synthesised
  deriving DecidableEq, Repr

/-- A member's part in a merge (R147). -/
structure MergePart where
  member : Nat
  pending : Bool
  success : Bool
  /-- the member was ACTIVE at decode: its outcome counts in S and N (R149) -/
  active : Bool
  /-- the member's word of the entry when the request was decoded (R157) -/
  word : Quad
  deriving DecidableEq, Repr

/-- A line that came back for a converted read, not yet returned to the requester (R428). -/
structure LineData where
  line : Nat
  data : List Byte
  poison : Bool
  via : Via
  deriving DecidableEq, Repr

/-- A bookmark (R23, R24, R77, R147, R152). -/
structure Bookmark where
  purpose : Purpose
  /-- its own number -/
  num : Nat
  /-- the FLOW sessions that matched its request (R338) -/
  flow : List Nat
  /-- charged to a port (R23); none: to the device or the data mover -/
  port : Option Nat
  dmv : Bool
  fromReserve : Bool
  ingress : Ingress
  hier : Option Nat
  tlp : Tlp
  srcFid : Nat
  slot : Nat
  gen : Nat
  tc : Nat
  group : Nat
  /-- timer value in µs (R77) -/
  timer : Nat
  quarantined : Bool
  /-- the requester's completions are discarded (R73); what comes of a copy request is absorbed (R176) -/
  discard : Bool
  tags : List TagUse
  /-- the ports the request left through, or is queued to -/
  ports : List Nat
  gather : Option Nat
  merge : List MergePart
  /-- MIN_ACK at decode (R149) -/
  minAck : Nat
  /-- the latest issue of a mirrored or prefetch read has a failover timer (R151) -/
  timed : Bool
  /-- members already tried (R152) -/
  tried : List Nat
  /-- bytes already returned to the requester (R152, R428) -/
  returned : Nat
  lines : List LineData
  /-- the line of the request that line 0 of the latest issue is (R152) -/
  lineBase : Nat
  /-- target address of the request at the member or target, and whether it was converted (R94) -/
  target : BitVec 64
  converted : Bool
  /-- a write to a migrating folio: its context and pass parity (R169) -/
  mig : Option (Nat × Bool)
  /-- an Unsupported Request ends the read after its allowed part (R312) -/
  guardEnd : Bool
  /-- folio index, for a mirrored read's reissue (R139, R152) -/
  folio : Nat
  /-- CCLK count at allocation, for the ROUNDTRIP and MERGE histograms (R352) -/
  born : Nat
  deriving DecidableEq, Repr

/-- A packet as received: its port, content, and what a Brodoth header carries of it. -/
structure Rx where
  port : Nat
  tlp : Tlp
  srcFid : Nat
  dstFid : Option Nat
  ttl : Nat
  tc : Nat
  /-- the logical device that a packet on the fabric names behind its remote edge (R92) -/
  ld : Option Nat
  /-- CCLK count when its header first entered stage 4, once it did (R336, R352) -/
  first : Option Nat := none
  /-- the number of the received packet, and the credits it took of its port (R113, R114), which its parts have in common -/
  arrival : Nat := 0
  took : List (Nat × Nat) := []
  deriving DecidableEq, Repr

/-- What came of a packet before the mark that makes it void (R127): its content, its fabric header on a fabric port, and the ports that
were sending it already with how many bytes of its payload each had sent. -/
structure VoidRx where
  tlp : Tlp
  src : Fin 4096
  dst : Option (Fin 4096)
  ttl : Fin 16
  tc : Fin 8
  ld : Option (Fin 16)
  sent : List (Fin 64 × Nat)
  deriving DecidableEq, Repr

/-- One copy of a packet for one egress port (R142). -/
structure Copy where
  port : Nat
  typ : OrdType
  addr : BitVec 64
  ld : Option Nat
  dstFid : Option Nat
  member : Option Nat
  convert : Bool
  release : Option Nat
  word : Quad
  deriving DecidableEq, Repr

/-- A late fault (R124): the ECRC does not check, the payload differs in length, the ingress link went down before the tail, or a
payload cell cannot be corrected. -/
inductive LateKind where
  | ecrc | length | linkDown | cell
  deriving DecidableEq, Repr

/-- What befalls a packet as it is sent: nothing, an underrun (R123), a late fault after `got` good payload bytes (R124), a
double-bit error of its header cell (R111). -/
inductive SendFate where
  | whole | underrun | late (got : Nat) (kind : LateKind) | header
  deriving DecidableEq, Repr

/-- A reason for which a packet is held before its decode: no bookmark (R24), a migration's hold (R173), or an earlier held
packet of the same ingress. -/
inductive HoldReason where
  | noBookmark | migration (ctx : Nat) | behind
  deriving DecidableEq, Repr

/-- A packet held before its decode (R24, R173). -/
structure HeldRx where
  reason : HoldReason
  rx : Rx
  deriving DecidableEq, Repr

/-- A request held after its decode, behind a lock or under NP_LIMIT (R80, R128): it is not decoded again (R99). -/
structure HeldOut where
  pkt : Packet
  copies : List Copy
  deriving DecidableEq, Repr

/-- Prefetched data of one stream of a hierarchy (R81, R82). -/
structure Prefetch where
  hier : Nat
  /-- host address of the first byte and the length -/
  addr : Nat
  len : Nat
  /-- none while in flight -/
  data : Option (List Byte)
  gen : Nat
  bookmark : Nat
  /-- the memory it was read from, for overlapping writes (R82): port or edge, logical device, and address there -/
  tgtPort : Nat
  tgtFid : Option Nat
  tgtLd : Option Nat
  tgtAddr : Nat
  /-- the folio it was decoded through, and the offset there: a write to these bytes of the folio overlaps it too, wherever the folio
  has moved meanwhile (R82, R178) -/
  folio : Option (Nat × Nat)
  deriving DecidableEq, Repr

/-- The read stream of a hierarchy, for R81: the end of its last read, and whether two reads were adjacent. -/
structure Stream where
  nextAddr : Nat
  running : Bool
  deriving DecidableEq, Repr

/-- The gathering entry's eight words (R136). -/
structure GEntry where
  w0 : Quad
  w1 : Quad
  w2 : Quad
  w3 : Quad
  w4 : Quad
  w5 : Quad
  w6 : Quad
  w7 : Quad
  deriving DecidableEq, Repr

/-- Why a member's part of a merge failed (R148). -/
inductive MergeFail where
  | status | synth | timer | flushed | quiesced
  deriving DecidableEq, Repr

/-- A gathering's running counts (R163, R145, R149, R152): the failures of merges by reason, in the order of MergeFail, and the poison
that each member returned; and the generation that the latest GATHER_WRITE began (R157). -/
structure GCounts where
  loss : Nat
  failover : Nat
  dropped : Nat
  failures : List Nat
  late : Nat
  poison : List Nat
  written : Nat
  deriving DecidableEq, Repr

/-- A generation slot (R97): its newest generation number. -/
structure GenSlot where
  used : Bool
  gen : Nat
  deriving DecidableEq, Repr

/-- Per-port state of the switch core (R113, R115, R121, R131, R133). -/
structure SwPort where
  /-- the reserves in force, in the order P, NP, CPL, MREQ, MRSP, MBI (R112, R115) -/
  rsv : List Nat
  flushing : Bool
  held : Bool
  /-- deficits of the classes and, per class, of the share groups (R121) -/
  classDeficit : Tbl Nat
  groupDeficit : Tbl Nat
  /-- the class and, per class, the group the round robin stands at -/
  classAt : Nat
  groupAt : Tbl Nat
  /-- the hierarchy that holds a lock of this egress port (R80) -/
  lock : Option Nat
  /-- a host or device port's flow control (R113, R114): per credit type, what was advertised at initialisation, what has been received
  since, and the total last told to the partner -/
  fcInit : List Nat
  fcRcvd : List Nat
  fcTold : List Nat
  /-- the number of the last packet received anywhere before that initialisation -/
  fcSince : Nat
  deriving DecidableEq, Repr

/-- A port of the switch core that nothing has touched: the reset reserves of R135. -/
def swPort0 : SwPort := ⟨[640, 128, 640, 320, 256, 64], false, false, [], [], 0, [], none, [], [], [], 0⟩

/-- A command that waits for a generation slot or a fence (R99 to R102, R162). -/
inductive FenceKind where
  | slot | drain | completion | gather (g : Nat)
  deriving DecidableEq, Repr

/-- A command waiting on fences, with the generation it advanced to. -/
structure FenceWait where
  origin : Origin
  gen : Nat
  kinds : List FenceKind
  /-- result to report -/
  result : Nat
  /-- MTICK edges counted when the wait began (R101) -/
  since : Nat
  deriving DecidableEq, Repr

/-- The data plane (R87 to R162). -/
structure DataPath where
  packets : Tbl Packet
  nextPkt : Nat
  nextAge : Nat
  queues : Tbl (List QEntry)
  swPorts : Tbl SwPort
  bookmarks : Tbl Bookmark
  heldRx : List HeldRx
  heldOut : List HeldOut
  prefetch : List Prefetch
  streams : Tbl Stream
  folio : Tbl (BitVec 128)
  route : Tbl Quad
  gather : Tbl GEntry
  /-- entries whose check code fails beyond correction (R95, R138) -/
  failFolio : List Nat
  failRoute : List Nat
  failGather : List Nat
  gcounts : Tbl GCounts
  gen : Nat
  /-- the CCLK of the latest advance (R97) -/
  genAt : Option Nat
  slots : List GenSlot
  slotAt : Nat
  fences : List FenceWait
  /-- the model's own numbering of received packets -/
  arrivals : Nat
  overcommit : Bool
  /-- hierarchies whose active windows conflict (R89) -/
  windowConflict : List Nat
  /-- the change instant of the routing entry of an ID, in CCLK of the device's count (R208) -/
  routeChanged : Tbl Nat
  deriving DecidableEq, Repr

/-- The zero gathering entry: TYPE INVALID (R137). -/
def gEntry0 : GEntry := ⟨0, 0, 0, 0, 0, 0, 0, 0⟩

/-- No counts. -/
def gCounts0 : GCounts := ⟨0, 0, 0, [0, 0, 0, 0, 0], 0, [0, 0, 0], 0⟩

/-- A packet content with nothing in it. -/
def tlp0 : Tlp :=
  ⟨.msg, 0, 0, 0, [], 0, 0, 0, false, 0, .ok, false, .toBridge, 0, false, 0, 0, .none, 0⟩

end Sys2Proof.Machine
end

