-- ==== Sys2Proof/Machine/StateMig.lean ====
section
/-!
DEFINITION. State of the migration engine (R164 to R179) and of the heat engine (R180 to R184).
-/
namespace Sys2Proof.Machine

/-- The context states of R170. -/
inductive MigPhase where
  | idle | copy | final | fence
  deriving DecidableEq, Repr

/-- The statuses with which a migration ends (R177), and none. -/
inductive MigEnd where
  | none | done | fenceExpired | aborted | noConverge | holdExpired | sourceError | destError | entryError | quiesced
  | memberLost
  deriving DecidableEq, Repr

/-- The steps of a pass (R171, R166 step 4): waiting for the first fence, settling, copying, confirming. -/
inductive PassStep where
  | waitFence | settle | copying | confirm
  deriving DecidableEq, Repr

/-- A migration's target: KIND PORT, LD or FABRIC with its fields (R92, R164). -/
structure MigTarget where
  kind : Nat
  port : Nat
  ld : Nat
  fid : Nat
  remoteLd : Bool
  dpa : Nat
  deriving DecidableEq, Repr

/-- A migration context (R164 to R179, R185). Bitmaps are numbers whose bit b is granule b. -/
structure MigCtx where
  phase : MigPhase
  step : PassStep
  resync : Bool
  folio : Nat
  /-- the source entry as copied at acceptance (R166 step 1); none when it sets no MIGRATING (R179) -/
  entry : BitVec 128
  marked : Bool
  src : MigTarget
  dst : MigTarget
  gather : Nat
  member : Nat
  /-- the member read from in RESYNC mode (R179) -/
  srcMember : Nat
  rate : Nat
  pass : Nat
  /-- MIG_CTL as taken on entry into the present state (R170) -/
  ctl : Word
  dirty : Nat
  dirtyCount : Nat
  /-- granules still to copy in this pass, and those copied but not confirmed (R171, R174) -/
  todo : Nat
  todoCount : Nat
  unconfirmed : Nat
  unconfirmedCount : Nat
  parity : Bool
  abandons : Nat
  poisons : Nat
  last : MigEnd
  granules : Nat
  /-- the generation whose completion fence is awaited (R166 step 4, R175) -/
  fenceGen : Nat
  /-- MTICK edges counted when that wait began (R101) -/
  fenceSince : Nat
  origin : Origin
  /-- CCLK count on entry into FINAL, for the HOLD histogram (R352) -/
  finalAt : Nat
  /-- the settle reads of this pass have been issued (R169), and its confirmation read (R172) -/
  settleIssued : Bool
  confirmIssued : Bool
  /-- settle reads still to be issued: source ID, class and group of each (R169, R172) -/
  settleTodo : List (Nat × Nat × Nat)
  deriving DecidableEq, Repr

/-- No target. -/
def migTarget0 : MigTarget := ⟨0, 0, 0, 0, false, 0⟩

/-- An idle context (R185 reset values). -/
def migCtx0 : MigCtx :=
  ⟨.idle, .waitFence, false, 0, 0, false, migTarget0, migTarget0, 0, 0, 0, 0, 0, 0, 0, 0, 0, 0, 0, 0, false, 0, 0,
    .none, 0, 0, 0, .none, 0, false, false, []⟩

/-- One heat count: reads and writes (R183). -/
structure HeatCount where
  reads : Nat
  writes : Nat
  deriving DecidableEq, Repr

/-- No heat. -/
def heat0 : HeatCount := ⟨0, 0⟩

/-- A counter bank (R181): folio counts, and leaf counts keyed 128 × slot + leaf. -/
structure HeatBank where
  folios : Tbl HeatCount
  leaves : Tbl HeatCount
  /-- the watch slots as used in the epoch (R182) -/
  watch : Tbl Word
  start : Nat
  fin : Nat
  seq : Nat
  sat : Bool
  extended : Bool
  deriving DecidableEq, Repr

/-- An empty bank. -/
def bank0 : HeatBank := ⟨[], [], [], 0, 0, 0, false, false⟩

/-- The heat engine (R180 to R185). -/
structure Heat where
  isOpen : Bool
  /-- the bank that counts, and the closed bank being written -/
  cur : HeatBank
  closed : HeatBank
  writing : Bool
  seq : Nat
  missed : Nat
  fault : Nat
  /-- the next boundary in NS -/
  boundary : Nat
  /-- of the report being written: its hierarchy and address, and the stretches still to be issued (R183, R184) -/
  hier : Nat
  base : Nat
  left : List (Nat × Nat)
  deriving DecidableEq, Repr

/-- A line read by a context that waits until its 512-byte write is whole (R172). -/
structure CopyLine where
  ctx : Nat
  granule : Nat
  line : LineData
  deriving DecidableEq, Repr

/-- A copy write that waits for a bookmark of the shared pool (R172, R178): its context, granule, place there, data and poison. -/
structure CopyWrite where
  ctx : Nat
  granule : Nat
  off : Nat
  data : List Byte
  poison : Bool
  deriving DecidableEq, Repr

/-- Migration and heat (R164 to R185). -/
structure Mig where
  ctxs : Tbl MigCtx
  heat : Heat
  copyBuf : List CopyLine
  writes : List CopyWrite
  deriving DecidableEq, Repr

end Sys2Proof.Machine
end

