-- ==== Sys2Proof/Machine/StateLink.lean ====
section
/-!
DEFINITION. State of the stacks, lanes and port link layers (R241 to R262).
-/
namespace Sys2Proof.Machine

/-- The supervisor states of R253. -/
inductive Sup where
  | off | detect | train | held | up
  deriving DecidableEq, Repr

/-- A stack (R250, R252). -/
structure StackState where
  refclkOk : Bool
  calDone : Bool
  /-- calibration was begun in this start and has not ended (R252) -/
  calibrating : Bool
  deriving DecidableEq, Repr

/-- A stack after reset: no clock seen, not calibrated. -/
def stack0 : StackState := ⟨false, false, false⟩

/-- The supervisor and link layer status of a port (R253 to R257). -/
structure PortLink where
  sup : Sup
  /-- 4 × stack + sub-port, while the port is provided (R242) -/
  prov : Option Nat
  rate : Nat
  width : Nat
  actWidth : Nat
  flit : Bool
  cxlIo : Bool
  cxlMem : Bool
  flit68 : Bool
  /-- the latency-optimised 256-byte flit is in use (R247) -/
  lowLat : Bool
  /-- crosslink resolution made this end the upstream port of its link (R248) -/
  crossUp : Bool
  /-- the flow-control scaling negotiated, factor 4^n (R114) -/
  fcScale : Nat
  brodoth : Bool
  dllActive : Bool
  belowTarget : Bool
  cacheOffered : Bool
  /-- logical devices of the partner, as it told in training; 0 when it is no CXL multi-logical device (R63) -/
  lds : Nat
  /-- whether the port has trained in this start, and whether it then carried CXL.mem (R94) -/
  trained : Bool
  lastMem : Bool
  /-- the effective rate cap of R254 -/
  cap : Option Nat
  /-- failed trainings counted toward PLK_TRAIN_CTL.RETRY (R254) -/
  fails : Nat
  /-- PLK_Pnn_CTL and PLK_Pnn_EQ as the last entry into TRAIN took them (R244) -/
  trainCtl : Word
  trainEq : Word
  /-- Recovery is pending or runs (R255) -/
  recovering : Bool
  inL1 : Bool
  rxErr : Nat
  replays : Nat
  trainFail : Nat
  recovery : Nat
  /-- PERST_Pnn_N is asserted -/
  perst : Bool
  deriving DecidableEq, Repr

/-- A port that has done nothing. -/
def port0 : PortLink :=
  { sup := .off, prov := none, rate := 0, width := 0, actWidth := 0, flit := false, cxlIo := false, cxlMem := false, flit68 := false,
    lowLat := false, crossUp := false, fcScale := 0, brodoth := false, dllActive := false, belowTarget := false, cacheOffered := false, lds := 0,
    trained := false, lastMem := false, cap := none, fails := 0, trainCtl := 0, trainEq := 0, recovering := false, inL1 := false,
    rxErr := 0, replays := 0, trainFail := 0, recovery := 0, perst := false }

/-- The margin states of R259. -/
inductive MarginState where
  | idle | running | passed | failed | aborted | busy
  deriving DecidableEq, Repr

/-- A lane: its transmitter, its margin sampler (R258, R259) and its checker (R262). -/
structure LaneState where
  /-- the rate that the transmitter runs at, and LNC_Sss_TXCTL.EDGE as its last rate change took it (R244, R251) -/
  txRate : Nat
  edge : Nat
  /-- the sampler's offset in steps (R258, R259) -/
  marginSteps : Nat
  margin : MarginState
  marginErrors : Nat
  /-- the port whose lane is measured, or whose capability path holds the sampler (R259) -/
  marginPort : Option Nat
  /-- the capability path holds the sampler (R259) -/
  capHolds : Bool
  /-- where the capability's margin in progress tells its errors: hierarchy, function and lane of the port; and its error count limit
  (R258, PCI Express) -/
  capAt : Option (Nat × Nat × Nat)
  capLimit : Nat
  locked : Bool
  lockLoss : Nat
  errCnt : Nat
  bitCnt : Nat
  deriving DecidableEq, Repr

/-- A lane that has done nothing: its transmitter has the edges of TXCTL's reset value; the error count limit of the capability is 4, as
PCI Express has it (PRESUMED, log 88). -/
def lane0 : LaneState := ⟨0, 1, 0, .idle, 0, none, false, none, 4, false, 0, 0, 0⟩

/-- A pattern that a lane sends (R260 to R262): PATTERN, SQ_HALF, INVERT, the user pattern, and the stack's rate and preset. -/
structure LanePattern where
  sel : Nat
  half : Nat
  invert : Bool
  user : BitVec 64
  rate : Nat
  preset : Nat
  deriving DecidableEq, Repr

/-- What a lane's transmitter sends: for its port, or, on a test-owned stack, electrical idle, received data sent back, a pattern
(R260). -/
inductive LaneOut where
  | port | idle | echo
  | pattern (x : LanePattern)
  deriving DecidableEq, Repr

/-- Stacks, ports and lanes. -/
structure Links where
  stackStates : Tbl StackState
  ports : Tbl PortLink
  lanes : Tbl LaneState
  /-- LNC_START (R243) -/
  loaded : Bool
  loadsRefused : Nat
  deriving DecidableEq, Repr

end Sys2Proof.Machine
end

