-- ==== Sys2Proof/Machine/StateHosts.lean ====
section
/-!
DEFINITION. State of the host hierarchies: presentation, resets, presence, configuration headers and MSI-X tables (R57 to
R80).
-/
namespace Sys2Proof.Machine

/-- A hierarchy (R57 to R76). Configuration words are keyed 1,024 × function + word, with function 0 the vUSB, 1 the
management endpoint and 2 + v vDSB v; an unlisted word holds its reset value. Number 48 stands for the endpoint that P00
presents in ENDPAPER (R59). -/
structure HierState where
  /-- presented on its port (R62) -/
  active : Bool
  onPort : Nat
  conflict : Bool
  /-- the ATTACH words in force, of the vDSBs that are presented for themselves (R57), and the vDSBs that lose their
  target (R62) -/
  attach : Tbl Word
  lost : List Nat
  /-- the causes of IN_RESET (R73) -/
  rstPerst : Bool
  rstLink : Bool
  rstSbr : Bool
  rstEnded : Bool
  /-- headers are being reinitialised (R75) -/
  reinit : Bool
  /-- vDSBs that report presence (R63), and the target each has (R64) -/
  present : List Nat
  targets : Tbl Word
  cfg : Tbl Word
  /-- MSI-X table words keyed 4 × entry + word, and the pending bits (R68, R423) -/
  msix : Tbl Word
  pba : List Nat
  deriving DecidableEq, Repr

/-- The words of an MSI-X table entry after reset: only the mask bit of the control word is set (PCI Express). -/
def msixReset (k : Nat) : Word := if k % 4 = 3 then 1 else 0

/-- A hierarchy that was never presented. -/
def hier0 : HierState := ⟨false, 0, false, [], [], false, false, false, false, false, [], [], [], [], []⟩

end Sys2Proof.Machine
end

