-- ==== Sys2Proof/Machine/StateDmv.lean ====
section
/-!
DEFINITION. State of the data mover and its functions (R280 to R305).
-/
namespace Sys2Proof.Machine

/-- The states of a data mover function (R304). -/
inductive FnPhase where
  | disabled | enabled | draining | resetting
  deriving DecidableEq, Repr

/-- The states of a data mover ring (R305); MASTER_OFF is kept beside them. -/
inductive DmvPhase where
  | disabled | running | draining | stopped | noResource
  deriving DecidableEq, Repr

/-- What a request of a function is for (R289): a descriptor, a list read of an operand (the second one when `b`), a data read,
a write that awaits Cmps, a confirming read. -/
inductive DmvUse where
  | fetch
  | sgl (b : Bool)
  | read (b : Bool)
  | write
  | confirm
  deriving DecidableEq, Repr

/-- A request of a function that awaits answers: its number, ring, use, descriptor index, operand offset, length, bytes
returned or Cmps still awaited, and data so far (R289, R297). -/
structure DmvReq where
  key : Nat
  ring : Nat
  use : DmvUse
  idx : Nat
  off : Nat
  len : Nat
  got : Nat
  data : List Byte
  deriving DecidableEq, Repr

/-- Bytes of an operand that came back, at their offset (R296). -/
structure DmvChunk where
  off : Nat
  data : List Byte
  poison : Bool
  deriving DecidableEq, Repr

/-- An operand (R293): pieces known, bytes they cover, the next list entry's address, entries read, and whether the list is read
to its end. -/
structure DmvOperand where
  pieces : List (Nat × Nat)
  cover : Nat
  next : Nat
  entries : Nat
  fin : Bool
  asked : Bool
  deriving DecidableEq, Repr

/-- A target that a zero-length read must confirm, until it has (R297): what it is, the lowest operand offset written there, the address of
the last write. -/
structure DmvTarget where
  what : Nat
  off : Nat
  addr : Nat
  deriving DecidableEq, Repr

/-- A descriptor in progress (R292, R296 to R298): its index and words, operands, offsets issued, offset taken in order, data
that came back, the digest state, first difference, first poisoned byte, first failure with its offset, targets to confirm,
whether the confirming reads have begun, and its status and result once it has completed. -/
structure DmvDesc where
  idx : Nat
  words : List Quad
  src : DmvOperand
  dst : DmvOperand
  rdA : Nat
  rdB : Nat
  taken : Nat
  chunksA : List DmvChunk
  chunksB : List DmvChunk
  crc : Nat
  differ : Option Nat
  poisonAt : Option Nat
  fail : Option (Nat × Nat)
  targets : List DmvTarget
  confirming : Bool
  /-- targets whose confirming read still waits for a bookmark (R23) -/
  toConfirm : List DmvTarget
  finished : Option (Nat × Nat)
  /-- CCLK count at its start, for the DESCRIPTOR histogram (R352) -/
  born : Nat
  deriving DecidableEq, Repr

/-- A data mover ring: its set-up words (SQ base low and high, CQ base low and high, CTL), indices, descriptors in progress in ring
order, the descriptor fetched ahead (R265, R291, R305). -/
structure DmvRing where
  sqLo : Nat
  sqHi : Nat
  cqLo : Nat
  cqHi : Nat
  ctl : Word
  phase : DmvPhase
  p : Nat
  c : Nat
  w : Nat
  h : Nat
  errCause : Nat
  errIdx : Nat
  /-- MASTER_OFF shows until the function's Bus Master Enable is 1 again (R299) -/
  masterOff : Bool
  fetched : Option (List Quad)
  fetching : Bool
  descs : List DmvDesc
  deriving DecidableEq, Repr

/-- A ring after reset. -/
def dmvRing0 : DmvRing := ⟨0, 0, 0, 0, 0, .disabled, 0, 0, 0, 0, 0, 0, false, none, false, []⟩

/-- A data mover function (R280, R286 to R288). -/
structure DmvFn where
  phase : FnPhase
  hier : Option Nat
  allocFail : Bool
  /-- the squash under way ends in DISABLED (R300) -/
  ends : Bool
  /-- step 2 of R300 is done -/
  cleared : Bool
  /-- reservation of ring contexts and vectors, and Table Size (R286 to R288) -/
  ringsRes : Nat
  vecsRes : Nat
  vecLimit : Nat
  rings : Tbl DmvRing
  msix : Tbl Word
  pba : List Nat
  /-- entries backed in elastic mode -/
  backed : List Nat
  reqs : List DmvReq
  /-- MTICK since the drain began -/
  drainAge : Nat
  deficit : Nat
  ringAt : Nat
  /-- earliest time of the next request under RATE, in 1/1000 CCLK -/
  nextAt : Nat
  deriving DecidableEq, Repr

/-- A function that is not enabled. -/
def dmvFn0 : DmvFn := ⟨.disabled, none, false, false, false, 0, 0, 0, [], [], [], [], [], 0, 0, 0, 0⟩

/-- The data mover. -/
structure Dmv where
  fns : Tbl DmvFn
  /-- configuration words of the functions, keyed 1,024 × function + word (R281, R282) -/
  cfg : Tbl Word
  /-- the mode sampled at F0000's enable (R285) -/
  elastic : Bool
  squashed : Nat
  drained : Nat
  allocFails : Nat
  noResource : Nat
  nextKey : Nat
  nextAt : Nat
  fnAt : Nat
  /-- a write that a migration holds at stage 4, by function, ring and address: the data mover's packets wait behind it (R173) -/
  held : Option (Nat × Nat × Nat)
  deriving DecidableEq, Repr

/-- The data mover at core initialisation. -/
def dmv0 : Dmv := ⟨[], [], false, 0, 0, 0, 0, 0, 0, 0, none⟩

end Sys2Proof.Machine
end

