-- ==== Sys2Proof/Machine/StateWire.lean ====
section
/-!
DEFINITION. What crosses the device's boundary beside data-plane packets: fabric management packets (R190 to R205), Brodoth
flits and their link slots (R213 to R223), and the outcome of a training (R245).
-/
namespace Sys2Proof.Machine

/-- What a port offers its partner as training begins (R245 to R248): the greatest rate, FLIT mode, the capabilities of Flex Bus mode
where it offers CXL (R247), the Alternate Protocol Vendor ID and details where it offers Brodoth (R248), crosslink, the clocking mode,
equalisation bypass, the presets that it requests as a downstream port (R246), and what R256 supports beside these: precoding,
no-equalisation mode, and the Data Link Feature exchange with its scaled flow control. -/
structure TrainOffer where
  maxRate : Nat
  flit : Bool
  cxlIo : Bool
  cxlMem : Bool
  cxlCache : Bool
  flit68 : Bool
  lowLat : Bool
  protocol : Option (Nat × Nat)
  crosslink : Bool
  clkMode : Nat
  eqBypass : Bool
  presets : Option Nat
  precoding : Bool
  noEq : Bool
  linkFeature : Bool
  deriving DecidableEq, Repr

/-- What training settled, as the partner and the lanes allow (R245, R247, R248); `lowLat` the latency-optimised 256-byte flit, and
`crossUp` that crosslink resolution made this end the upstream port. -/
structure TrainResult where
  rate : Nat
  width : Nat
  flit : Bool
  cxlIo : Bool
  cxlMem : Bool
  cxlCache : Bool
  flit68 : Bool
  brodoth : Bool
  lds : Nat
  lowLat : Bool
  crossUp : Bool
  /-- the flow-control scaling negotiated by the Data Link Feature exchange: factor 4^n; 0 also for none (R114, R256) -/
  fcScale : Fin 3
  deriving DecidableEq, Repr

/-- What a slot channel's converter measured over one MTICK (R355, R360): mean current in mA, mean Vds and VOUT in mV, mean
power in mW, and whether the gate is fully enhanced. -/
structure SlotMeas where
  slot : Fin 16
  current : Fin 65536
  vds : Fin 65536
  vout : Fin 65536
  power : Fin 1048576
  enhanced : Bool
  deriving DecidableEq, Repr

/-- A function whose Bus Master Enable a host writes (R72, R299): function f of a hierarchy (0 the vUSB, 1 the management endpoint,
2 + v vDSB v; hierarchy 48 is the endpoint of P00 in ENDPAPER), or a data mover function. -/
inductive MasterFn where
  | host (h : Fin 49) (f : Fin 66)
  | mover (fn : Fin 2048)
  deriving DecidableEq, Repr

/-- The blocks that have a lock (R10). -/
inductive LockBlock where
  | hvh | pwr | mgt
  deriving DecidableEq, Repr

/-- Who waits at a fence that expires (R101): a waiting command by its place, or a migration context. -/
inductive FenceRef where
  | command (k : Nat)
  | context (c : Fin 64)
  deriving DecidableEq, Repr

/-- What has a LO word that latches its upper bits (R346): a counter, a threshold value, or bin b of a histogram. -/
inductive PmcPlace where
  | counter (n : Fin 8192)
  | threshold (n : Fin 512)
  | bin (h : Fin 256) (b : Fin 32)
  deriving DecidableEq, Repr

/-- A word of a register whose parity an upset has made bad (R55): in the active or the shadow quire, or a word of RWI or RWL
fields. -/
inductive UpsetKind where
  | active | shadow | direct
  deriving DecidableEq, Repr

/-- A word whose parity an upset made bad: its BAR0 offset, and whether it came after the scrubber had passed the word. -/
structure Upset where
  kind : UpsetKind
  off : Fin 67108864
  late : Bool
  deriving DecidableEq, Repr

/-- What was lost of a time reference (R42): SPINE_CLK, SPINE_PPS, or the answers of the upstream neighbour. -/
inductive LostSignal where
  | clk | pps | fabric
  deriving DecidableEq, Repr

/-- The tables whose entries carry a check code (R95, R138). -/
inductive CheckedTable where
  | folio | route | gather
  deriving DecidableEq, Repr

/-- An upset of a table entry (R95, R138): the bits of the stored codeword, CHECK included, that flip; in a gathering those of one
of its eight words. -/
structure TableError where
  table : CheckedTable
  index : Fin 524288
  word : Fin 8
  bits : List (Fin 128)
  deriving DecidableEq, Repr

/-- What a lane's checker compared while locked (R262): bits, and how many of them were wrong. -/
structure Compared where
  lane : Fin 256
  bits : Nat
  errors : Nat
  deriving DecidableEq, Repr

/-- What the device measures or meets over one MTICK (R25): CCLK from the edge to the rise of SPINE_CLK (R37); upsets of
words and tables (R55, R95, R138), buffer words corrected (R111), errors of the code SRAM and the scratchpad, corrected, and
uncorrectable with the master that met it (R372); the hottest sensor in °C + 64 (R416); the feeds and VBUS in mV, the slots (R355, R366); the checkers (R262). -/
structure TickIn where
  spineClk : Option (Fin 1024)
  upsets : List Upset
  tables : List TableError
  bufferFixes : Nat
  sramFixes : Nat
  sramError : Option LocalMaster
  temp : Fin 256
  feedA : Fin 65536
  feedB : Fin 65536
  vbus : Fin 65536
  slots : List SlotMeas
  lanes : List Compared
  deriving DecidableEq, Repr

/-- A fabric management packet (R191): its header, and its body as 64-bit words, the lowest bytes first. `path` and `ret` are
the 48-bit fields PATH and RETURN. -/
structure Fmp where
  version : Fin 16
  typ : Fin 16
  hopPtr : Fin 16
  hopCount : Fin 16
  seq : Fin 65536
  path : BitVec 48
  ret : BitVec 48
  source : Quad
  dest : Quad
  body : List Quad
  deriving DecidableEq, Repr

/-- A HELLO body (R196). -/
structure Hello where
  hops : Fin 16
  anchored : Bool
  state : Fin 8
  port : Fin 64
  prio : Fin 256
  nonce : Fin 65536
  seq : Fin 65536
  serial : Quad
  deriving DecidableEq, Repr

/-- A credit update (R215): channel, cumulative header and data credit. -/
structure CreditUpd where
  ch : Fin 64
  hdr : Fin 65536
  data : Fin 65536
  deriving DecidableEq, Repr

/-- A link slot (R215). -/
structure LinkSlot where
  an : Fin 4
  anSeq : Fin 4096
  fb : Bool
  u0 : Option CreditUpd
  u1 : Option CreditUpd
  xoff : BitVec 49
  deriving DecidableEq, Repr

/-- A Brodoth packet header (R217). -/
structure Bph where
  proto : Fin 8
  tc : Fin 8
  bclass : Fin 8
  synth : Bool
  phs : Bool
  plen : Fin 1024
  ttl : Fin 16
  dest : Fin 4096
  src : Fin 4096
  deriving DecidableEq, Repr

/-- One 16-byte slot of a DATA flit (R217, R219): empty, the start of a packet, a protocol header slot with what it tells
(the request or response, and the logical device named behind the remote edge), or payload. -/
inductive FlitSlot where
  | null
  | start (h : Bph)
  | header (t : Tlp) (ld : Option Nat)
  | data (bytes : List Byte)
  deriving DecidableEq, Repr

/-- A sequenced flit as the replay buffer keeps it (R214, R216): without its link slot, CRC and FEC. -/
inductive SeqFlit where
  | data (seq : Nat) (mark : Nat) (slots : List FlitSlot)
  | mgmt (seq : Nat) (mark : Nat) (words : List Quad)
  deriving DecidableEq, Repr

/-- The link control messages of R222 to R237. Initial credits are pairs of header and data credits, one for each channel. -/
inductive LinkMsg where
  | initId (port : Nat) (fbReq : Bool) (serial : Nat) (width : Nat)
  | initCredit (port : Nat) (fbReq : Bool) (serial : Nat) (width : Nat) (adv : List (Nat × Nat))
  | initDone (port : Nat) (fbReq : Bool) (serial : Nat) (width : Nat) (adv : List (Nat × Nat))
  | timeReq (id : Nat)
  | timeRsp (id hops state t2 t3 : Nat)
  | linkReset
  deriving DecidableEq, Repr

/-- The common part of an init message (R223), with the advertisement where the message carries one. -/
structure InitMsg where
  version : Fin 256
  port : Fin 64
  fbReq : Bool
  serial : Quad
  width : Fin 256
  adv : List (Fin 65536 × Fin 65536)
  deriving DecidableEq, Repr

end Sys2Proof.Machine
end

