-- ==== Sys2Proof/Machine/StateFabric.lean ====
section
/-!
DEFINITION. State of fabric mode (R186 to R212) and of the Brodoth links (R213 to R240).
-/
namespace Sys2Proof.Machine

/-- FAB_STATUS.STATE (R198, R212). -/
inductive FabState where
  | isolated | electing | joined | anchored | far
  deriving DecidableEq, Repr

/-- The last HELLO of a port (R197): its sender and body, MTICK since it came, whether it has lapsed, and MTICK since this
device last sent a HELLO there with the backoff still to pass, and whether it sent one in this MTICK (R199). -/
structure FabPort where
  hello : Option (Quad × Hello)
  age : Nat
  lapsed : Bool
  backoff : Nat
  sinceSent : Nat
  due : Bool
  sentNow : Bool
  deriving DecidableEq, Repr

/-- A fabric port that has heard and sent nothing. -/
def fabPort0 : FabPort := ⟨none, 0, false, 0, 0, false, false⟩

/-- The heartbeat of an anchor, known by serial and nonce (R197): its newest BEST_SEQ, MTICK since it advanced, lapsed. -/
structure Beat where
  serial : Quad
  nonce : Nat
  seq : Nat
  age : Nat
  lapsed : Bool
  deriving DecidableEq, Repr

/-- A best candidate (R197): candidacy, hops, and the port of the chosen advertisement (none: the device itself). -/
structure Cand where
  prio : Nat
  serial : Quad
  hops : Nat
  port : Option Nat
  anchored : Bool
  nonce : Nat
  deriving DecidableEq, Repr

/-- The state of the device's REPORTs (R201). -/
structure ReportState where
  /-- MTICK edges until a scheduled REPORT leaves -/
  due : Option Nat
  /-- the SEQ of the outstanding REPORT and the MTICK since it left -/
  out : Option (Nat × Nat)
  w : Nat
  sent : Nat
  /-- MTICK since the last refresh -/
  refresh : Nat
  /-- the fields of R200 other than REPORT_SEQ as last looked at -/
  last : List Quad
  deriving DecidableEq, Repr

/-- A remote command in progress (R204): where its CMD_RSP goes. -/
structure RemoteCmd where
  seq : Nat
  port : Nat
  source : Quad
  path : BitVec 48
  hopCount : Nat
  deriving DecidableEq, Repr

/-- A command sent to a remote device (R203, R272): its SEQ, the ring and index it came from, its RTO and MTICK since it was
sent. -/
structure SentCmd where
  seq : Nat
  ring : Nat
  idx : Nat
  rto : Nat
  age : Nat
  deriving DecidableEq, Repr

/-- The states of R224. -/
inductive BflPhase where
  | down | held | id | credit | done | active
  deriving DecidableEq, Repr

/-- A packet or FMP of which later slots are still to come (R219, R221). -/
structure PartialPkt where
  bph : Bph
  tlp : Option (Tlp × Option Nat)
  left : Nat
  bytes : List Byte
  /-- it found no cell in fall-back (R236) -/
  drop : Bool
  deriving DecidableEq, Repr

/-- An FMP partly received (R221): the words so far, and how many are still to come. -/
structure PartialFmp where
  words : List Quad
  left : Nat
  deriving DecidableEq, Repr

/-- The Brodoth link of a fabric port (R213 to R240). Credit counters are keyed by channel. -/
structure BflPort where
  phase : BflPhase
  /-- counts entries into ACTIVE: packets remember the session they came in -/
  session : Nat
  partnerPort : Nat
  partnerSerial : Nat
  partnerWidth : Nat
  partnerFb : Bool
  partnerAdv : List (Nat × Nat)
  ownAdv : List (Nat × Nat)
  /-- BFL_Pnn_CTL as the last initialisation took it -/
  ctl : Word
  usedH : Tbl Nat
  usedD : Tbl Nat
  limH : Tbl Nat
  limD : Tbl Nat
  rcvH : Tbl Nat
  rcvD : Tbl Nat
  /-- ALLOC as last told, and the channels U0 and U1 stand at (R227) -/
  toldH : Tbl Nat
  toldD : Tbl Nat
  u0At : Nat
  u1At : Nat
  /-- NEXT, and whether a NAK is pending (R229, R231) -/
  next : Nat
  nakPending : Bool
  /-- the next link slot carries the NAK (R231); NEXT and FB as the last link slot told them (R216, R235) -/
  nakDue : Bool
  toldNext : Nat
  toldFb : Bool
  /-- SEQ of the next sequenced flit, and the flits not acknowledged (R229, R232) -/
  seq : Nat
  replay : List SeqFlit
  /-- the place in `replay` of the flit that a replay in progress resends next (R232) -/
  replayAt : Option Nat
  starts : Nat
  fbRx : Bool
  fbTx : Bool
  /-- XOFF as received, and as sent (R236) -/
  xoffIn : Nat
  xoffOut : Nat
  rtt : Nat
  /-- the latest TIME_REQ: its REQ_ID and t1 (R237) -/
  reqId : Nat
  req : Option Nat
  /-- TIME_REQs that wait for a flit boundary: REQ_ID, t2, and CCLK from t2 to t3 (R234, R237) -/
  timeDue : List (Nat × Nat × Nat)
  crcErr : Nat
  nakSent : Nat
  replays : Nat
  resets : Nat
  duplicates : Nat
  tailBad : Nat
  overflow : Nat
  discarded : Nat
  part : Option PartialPkt
  partFmp : Option PartialFmp
  /-- FMPs waiting for credit of channel 48 (R226, R234) -/
  waiting : List Fmp
  /-- slots that wait for a DATA flit, each with its MARK bit (R219), and for a MGMT flit, each of two words with its MARK bit (R221) -/
  txSlots : List (FlitSlot × Bool)
  txMgmt : List (List Quad × Bool)
  /-- flits sent since the last MGMT flit, at most 3 (R234) -/
  sinceMgmt : Nat
  deriving DecidableEq, Repr

/-- A Brodoth link that has done nothing. -/
def bfl0 : BflPort :=
  { phase := .down, session := 0, partnerPort := 0, partnerSerial := 0, partnerWidth := 0, partnerFb := false, partnerAdv := [],
    ownAdv := [], ctl := 0, usedH := [], usedD := [], limH := [], limD := [], rcvH := [], rcvD := [], toldH := [], toldD := [],
    u0At := 0, u1At := 0, next := 0, nakPending := false, nakDue := false, toldNext := 0, toldFb := false, seq := 0, replay := [],
    replayAt := none, starts := 0, fbRx := false, fbTx := false, xoffIn := 0, xoffOut := 0, rtt := 0, reqId := 0, req := none,
    timeDue := [], crcErr := 0, nakSent := 0, replays := 0, resets := 0, duplicates := 0, tailBad := 0, overflow := 0, discarded := 0,
    part := none, partFmp := none, waiting := [], txSlots := [], txMgmt := [], sinceMgmt := 3 }

/-- Fabric mode. -/
structure Fabric where
  /-- a binding of unit 100 that is not the first of the start has reached E0 (R187) -/
  latched : Bool
  /-- ports whose active fabric ID is lost to another edge (R189), and whether a collision was found -/
  idLost : List Nat
  /-- the upstream fabric port (R193, R197) and the neighbour's HOPS as it told them -/
  upstream : Option Nat
  upHops : Nat
  st : FabState
  ports : Tbl FabPort
  beats : List Beat
  best : Option Cand
  /-- the own NONCE and heartbeat count as anchor (R195, R198), MTICK since the last heartbeat, and since the own candidacy
  became best -/
  nonce : Nat
  bestSeq : Nat
  sinceBeat : Nat
  settle : Nat
  report : ReportState
  elections : Nat
  refused : Nat
  dropped : Nat
  busy : Nat
  /-- FAB_DISC_IDX.PROD, and PROD when the last MSI-X was sent (R202) -/
  prod : Nat
  prodTold : Nat
  remotes : List RemoteCmd
  sentCmds : List SentCmd
  nextSeq : Nat
  links : Tbl BflPort
  deriving DecidableEq, Repr

/-- Fabric mode at reset. -/
def fabric0 : Fabric :=
  ⟨false, [], none, 0, .isolated, [], [], none, 0, 0, 0, 0, ⟨none, none, 0, 0, 0, []⟩, 0, 0, 0, 0, 0, 0, [], [], 0, []⟩

end Sys2Proof.Machine
end

