-- ==== Sys2Proof/Machine/StateRings.lean ====
section
/-!
DEFINITION. State of the command rings (R263 to R279).
-/
namespace Sys2Proof.Machine

/-- The states of a ring (R279); MASTER_OFF shows while a running ring's endpoint has Bus Master Enable 0 (R278). -/
inductive RingPhase where
  | disabled | running | draining | stopped
  deriving DecidableEq, Repr

/-- A command taken, with what it needs for its completion (R266). -/
structure Waiting where
  idx : Nat
  tag : Nat
  irq : Bool
  opcode : Nat
  /-- a remote command: the PATH and serial it was sent to, and its SEQ (R203, R272) -/
  remote : Bool
  /-- a command received from the fabric: the port it came in on, and its SOURCE (R204) -/
  port : Nat
  src : Nat
  /-- CCLK count at its taking, for the CMD histogram (R352) -/
  born : Nat
  deriving DecidableEq, Repr

/-- A completion held while Bus Master Enable is 0 (R278): its STATUS, RESULT and command. -/
structure HeldCpl where
  cmd : Waiting
  status : Nat
  result : Nat
  deriving DecidableEq, Repr

/-- The staged half of a GATHER_WRITE (R276): gathering and words W0 to W3. -/
structure StagedHalf where
  gather : Nat
  words : List Quad
  deriving DecidableEq, Repr

/-- A descriptor on its way from ring memory, with its operand data (R263, R268). -/
structure Fetch where
  /-- the descriptor's words, once they have come -/
  q : Option (List Quad)
  /-- the bytes that have come of what is being read: the descriptor, then its operand data -/
  got : List Byte
  /-- the bookmark of the read under way -/
  bm : Option Nat
  failed : Bool
  deriving DecidableEq, Repr

/-- A command ring (R264 to R266, R275 to R279). The indices are free running, modulo 65,536. -/
structure Ring where
  phase : RingPhase
  p : Nat
  c : Nat
  w : Nat
  h : Nat
  errCause : Nat
  errIdx : Nat
  waits : List Waiting
  held : List HeldCpl
  staged : Option StagedHalf
  /-- the descriptor that the ring is fetching -/
  fetch : Option Fetch
  /-- the endpoint was reset: completions are discarded while the ring drains (R278) -/
  discard : Bool
  deriving DecidableEq, Repr

/-- A ring after reset. -/
def ring0 : Ring := ⟨.disabled, 0, 0, 0, 0, 0, 0, [], [], none, none, false⟩

/-- A command that has passed its check stage and waits for its effect stage (R268). -/
structure Cmd where
  origin : Origin
  /-- Q0 to Q7 -/
  q : List Quad
  /-- operand data read from ring memory -/
  data : List Quad
  deriving DecidableEq, Repr

/-- A QUIRE_STAGE whose effect stage stands at a closed gate (R49, R274): the pairs that wait for room in the queue, how many fields
kept their values so far, and the offsets of the writes that stand in the queue; it ends with the last of them in the shadow quire
(R271). -/
structure Staging where
  origin : Origin
  pairs : List (Nat × Nat)
  kept : Nat
  queued : List Nat
  deriving DecidableEq, Repr

/-- The command rings. -/
structure Rings where
  rings : Tbl Ring
  /-- commands between their check and effect stages, in the order of R268 -/
  checked : List Cmd
  /-- the first of them waits for a generation slot (R102) -/
  slotWait : Bool
  /-- an effect stage that stands at a closed gate (R49) -/
  staging : Option Staging
  /-- remote commands that came while a remote FENCE waits, in arrival order (R204, R273) -/
  remoteHeld : List (Origin × List Quad)
  setupDrops : Nat
  lateRsp : Nat
  resetDrops : Nat
  /-- the ring whose turn it is (R268) -/
  turn : Nat
  deriving DecidableEq, Repr

end Sys2Proof.Machine
end

