-- ==== Sys2Proof/Machine/StateObs.lean ====
section
/-!
DEFINITION. State of observation (R334 to R340, R353) and of the performance counters (R341 to R354).
-/
namespace Sys2Proof.Machine

/-- Where ring memory lies (R263): host memory behind a management endpoint, the management local bus, or nowhere (a command
from a remote device). -/
inductive RingMem where
  | host (hier : Nat)
  | localBus
  | nowhere
  deriving DecidableEq, Repr

/-- A capture of a port (R335): its memory and ring base, the selection words Q5 to Q7, records written, matches counted for
SAMPLE by direction, records dropped since the last one written. -/
structure Capture where
  running : Bool
  mem : RingMem
  base : Nat
  q5 : Quad
  q6 : Quad
  q7 : Quad
  w : Nat
  seenIn : Nat
  seenOut : Nat
  drops : Nat
  deriving DecidableEq, Repr

/-- No capture. -/
def capture0 : Capture := ⟨false, .nowhere, 0, 0, 0, 0, 0, 0, 0, 0⟩

/-- A record in the capture queue (R336): its port and words, and, when its capture was replaced by a later start, the old
ring it still goes to: memory, base, index and size (R337). -/
structure CapRecord where
  port : Nat
  words : List Quad
  old : Option (RingMem × Nat × Nat × Nat)
  /-- the packet, which may yet be found bad (R336) -/
  pkt : Option Nat
  deriving DecidableEq, Repr

/-- A capture stop that waits for the port's queued records (R337). -/
structure CapStop where
  port : Nat
  origin : Origin
  deriving DecidableEq, Repr

/-- A mirror copy in a session's queue at an analysis port (R339, R340). -/
structure MirCopy where
  out : Nat
  words : List Quad
  payload : List Byte
  cells : Nat
  /-- the packet whose cells it shares (R142) -/
  pkt : Option Nat
  deriving DecidableEq, Repr

/-- A mirror session (R338 to R340). -/
structure Session where
  queue : List MirCopy
  /-- copies sent since EN last became 1 -/
  k : Nat
  sent : Nat
  drops : Nat
  /-- copies dropped since the last header -/
  since : Nat
  wasEn : Bool
  deriving DecidableEq, Repr

/-- A session that has done nothing. -/
def session0 : Session := ⟨[], 0, 0, 0, 0, false⟩

/-- What an instant does (R347): SNAPSHOT with FIRST, COUNT, its memory and ADDR (none: inline), FREEZE, THAW. -/
inductive InstantAct where
  | snapshot (first count : Nat) (mem : RingMem) (addr : Option Nat)
  | freeze
  | thaw
  deriving DecidableEq, Repr

/-- A pending instant (R347). -/
structure Instant where
  act : InstantAct
  tns : Nat
  origin : Origin
  deriving DecidableEq, Repr

/-- Counters, threshold values and bins as a freeze copies them (R348). -/
structure PmcValues where
  counts : Tbl Nat
  thr : Tbl Nat
  bins : Tbl Nat
  deriving DecidableEq, Repr

/-- Observation and performance counters. Bins are keyed 32 × histogram + bin. -/
structure Obs where
  caps : Tbl Capture
  queue : List CapRecord
  stops : List CapStop
  sessions : Tbl Session
  /-- per analysis port, the session served last (R340) -/
  turn : Tbl Nat
  thr : Tbl Nat
  bins : Tbl Nat
  frozen : Option PmcValues
  freezeNs : Nat
  instants : List Instant
  snaps : Nat
  deriving DecidableEq, Repr

/-- Observation at core initialisation. -/
def obs0 : Obs := ⟨[], [], [], [], [], [], [], none, 0, [], 0⟩

end Sys2Proof.Machine
end

