-- ==== Sys2Proof/Machine/StatePower.lean ====
section
/-!
DEFINITION. State of the feed controller, the slot power manager (R355 to R371) and the thermal sensors (R416).
-/
namespace Sys2Proof.Machine

/-- The states of a slot channel (R358). -/
inductive SlotPhase where
  | off | empty | inserting | pending | precharge | ramp | on | faultWait | latched | contained
  deriving DecidableEq, Repr

/-- A slot channel (R356 to R365). Ages count MTICK edges. -/
structure SlotChan where
  phase : SlotPhase
  present : Bool
  cause : Nat
  retries : Nat
  trips : Nat
  pgRaces : Nat
  gate : Bool
  pchg : Bool
  pwrgd : Bool
  /-- SLOTss_PERST_N is asserted -/
  perst : Bool
  /-- CFG, LIM, THERM and TAU as taken at the last entry into PENDING, or in OFF -/
  cfg : Word
  lim : Word
  therm : Word
  tau : Word
  /-- age of the state's own timer: debounce, pre-charge, ramp, PWRGD held, retry wait -/
  age : Nat
  /-- age of the fault timer, while it runs; it was started since the last MTICK edge -/
  fault : Option Nat
  faultFresh : Bool
  /-- PWRGD was first asserted at the last MTICK edge -/
  pgFresh : Bool
  /-- consecutive evaluations at which the condition of the state held -/
  evals : Nat
  /-- age since PWRGD, while the release of PERST is scheduled -/
  release : Option Nat
  /-- MTICK of presence held, and of absence -/
  held : Nat
  absent : Option Nat
  /-- it was LATCHED at containment (R365) -/
  wasLatched : Bool
  /-- EN = 0 was written: the gates turn off at the next MTICK edge at least 100 µs later; the time of the write in CCLK of the
  always-on clock (R358) -/
  closing : Option Nat
  /-- T1 and T2 of R360 in units of 2^-32 K -/
  t1 : Nat
  t2 : Nat
  current : Nat
  vds : Nat
  deriving DecidableEq, Repr

/-- A channel after cold reset, with the reset words of its registers (R371). -/
def slot0 : SlotChan :=
  ⟨.off, false, 0, 0, 0, 0, false, false, false, true, 0x0000324B, 0x41104019, 0x5008966E, 0x001444B5, 0, none, false, false, 0, none, 0,
    none, false, none, 0, 0, 0, 0⟩

/-- The states of the feed controller (R366); `b` says feed B, `fresh` that the ramp came from NONE. -/
inductive FeedPhase where
  | none
  | ramp (b fresh : Bool)
  | on (b : Bool)
  | brk (b : Bool)
  deriving DecidableEq, Repr

/-- One feed (R366): good, MTICK in its window, MTICK it has been good, MTICK it is still barred, last voltage in mV. -/
structure Feed where
  good : Bool
  inWindow : Nat
  goodFor : Nat
  barred : Option Nat
  mv : Nat
  deriving DecidableEq, Repr

/-- A feed at cold reset. -/
def feed0 : Feed := ⟨false, 0, 0, none, 0⟩

/-- Power entry and slot power. -/
structure Power where
  slots : Tbl SlotChan
  /-- present group G (R357), and MTICK since it first admitted a channel in this start -/
  stage : Nat
  admitted : Option Nat
  /-- VIN is below VIN_UV (R364); last VBUS in mV -/
  vinLow : Bool
  vbus : Nat
  /-- a channel waits for budget (R356) -/
  budgetWait : Bool
  feedA : Feed
  feedB : Feed
  feed : FeedPhase
  feedAge : Nat
  feedEvals : Nat
  switches : Nat
  warns : Nat
  warn : Bool
  /-- when PWR_WARN_N was asserted, in CCLK of the always-on clock -/
  warnAt : Nat
  /-- the active feed is below WARN (R368) -/
  belowWarn : Bool
  /-- MTICK since PRIMARY was last changed (R366) -/
  primaryFor : Nat
  mainGood : Bool
  /-- GLB_THERM_STATUS (R416) -/
  temp : Nat
  tripCount : Nat
  tripped : Bool
  deriving DecidableEq, Repr

/-- Power entry at cold reset. -/
def power0 : Power :=
  ⟨[], 0, none, false, 0, false, feed0, feed0, .none, 0, 0, 0, 0, false, 0, false, 0, false, 0, 0, false⟩

end Sys2Proof.Machine
end

