-- ==== Sys2Proof/Machine/StateMgmt.lean ====
section
/-!
DEFINITION. State of the management complex (R372 to R399) and of the test access port (R418): fuses, flash, colophon, start,
command sets, sensors, bridge, attestation, out-of-band port.
-/
namespace Sys2Proof.Machine

/-- The life-cycle states of R389, in the encoding of R387. -/
inductive LifeCycle where
  | blank | provision | deployed | returned | retired
  deriving DecidableEq, Repr

/-- A key slot of the fuses (R390): its digest once programmed, and whether it is revoked. -/
structure KeySlot where
  digest : Option Nat
  revoked : Bool
  deriving DecidableEq, Repr

/-- A key slot never programmed. -/
def keySlot0 : KeySlot := ⟨none, false⟩

/-- One-time programmable memory (R389, R390). -/
structure Otp where
  lc : LifeCycle
  slots : Tbl KeySlot
  floor : Nat
  deriving DecidableEq, Repr

/-- A colophon record (R387) without its CRC, which follows from it. IMAGE is coded as there; `bad` says that the record was
torn as it was written, so that its CRC fails (R386). -/
structure ColoRec where
  seq : Nat
  event : Nat
  mode : Nat
  lc : Nat
  image : Nat
  pref : Bool
  trial : Bool
  fails : Nat
  cause : Nat
  starts : Nat
  failed : Nat
  ns : Nat
  mticks : Nat
  source : Nat
  version : Nat
  svn : Nat
  floor : Nat
  meas : Nat
  serial : Nat
  bad : Bool
  deriving DecidableEq, Repr

/-- The record that stands for an erased place; a place that holds it is not listed. -/
def coloRec0 : ColoRec := ⟨0, 0, 0, 0, 0, false, false, 0, 0, 0, 0, 0, 0, 0, 0, 0, 0, 0, 0, true⟩

/-- Where the start stands (R27, R381, R382): the boot ROM verifies an image; firmware runs; the 100 ms wait after a failure;
the wait after a loss of the main rails; the boot ROM serves ENDPAPER. -/
inductive BootPhase where
  | idle | rom | firmware | failWait | lossWait | endpaper
  deriving DecidableEq, Repr

/-- The start under way (R27, R381, R382). Images are coded as in R387: 0 A, 1 B, 2 none. -/
structure Boot where
  phase : BootPhase
  /-- the image being verified, or running -/
  image : Nat
  /-- the other image was tried after the first choice failed (R382) -/
  second : Bool
  /-- source 1,531 is held for core initialisation (R382) -/
  held : Bool
  /-- START_BEGIN of this start is not undone yet (R381, R387) -/
  counted : Bool
  /-- the image that runs was preferred on trial (R382) -/
  onTrial : Bool
  /-- MTICK since the start began, and since the present wait, PWR_MAIN_EN, or PWR_MAIN_GOOD -/
  mticks : Nat
  wait : Nat
  pll : Bool
  /-- mode byte, VERSION, SVN and measurement of the running image (R379, R387) -/
  plan : Nat
  version : Nat
  svn : Nat
  meas : Nat
  /-- measurement 4 as the boot ROM recorded it when the image was run (R382, R393) -/
  security : Option Nat
  deriving DecidableEq, Repr

/-- No start under way. -/
def boot0 : Boot := ⟨.idle, 2, false, false, false, false, 0, 0, false, 0, 0, 0, 0, none⟩

/-- The operations of MGT_FLASH_CMD (R399). -/
inductive FlashOp where
  | read | program | erase
  deriving DecidableEq, Repr

/-- One command of a command set (R390). -/
structure CsetCmd where
  op : Nat
  arg : Nat
  data : List Byte
  deriving DecidableEq, Repr

/-- A command set being read (R390): from host memory by the management endpoint of a hierarchy, or from the local bus; what has come, the
bookmark of the read at work, and whether a read failed. -/
structure CsetRead where
  host : Option Nat
  addr : Nat
  len : Nat
  got : List Byte
  bm : Option Nat
  failed : Bool
  deriving DecidableEq, Repr

/-- A BAR0 access that waits while the bridge is locked (R376), or for a write gate (R49): of a host through the management
function, with the bookmark of a non-posted one (R23), of the data mover to it (function, ring and number of the request), or of a management-side master. -/
inductive WaitAcc where
  | host (h off : Nat) (rx : Rx) (bm : Option Nat)
  | dmv (fn ring key h off : Nat) (t : Tlp)
  | write (path : Path) (off : Nat) (w : Nat)
  | read (path : Path) (off : Nat)
  /-- the debug master: an offset, and the word of a write -/
  | debug (off : Nat) (w : Option Nat)
  deriving DecidableEq, Repr

/-- A transport of SPDM (R394). -/
inductive Transport where
  | doe | mctp
  deriving DecidableEq, Repr

/-- The state of an SPDM connection (R394, R395): how far it is negotiated, its session, and the digest that the last signed
response signed outside a session and in it, as free values' numbers. -/
structure Spdm where
  version : Bool
  caps : Bool
  algs : Bool
  handshake : Bool
  session : Bool
  keys : Nat
  signed : Option Nat
  signedIn : Option Nat
  deriving DecidableEq, Repr

/-- An SPDM connection that has not begun. -/
def spdm0 : Spdm := ⟨false, false, false, false, false, 0, none, none⟩

/-- What the SPDM responder answers (R394, R395): the response of a request, or ERROR with its code. Digests are free values'
numbers. -/
inductive SpdmRsp where
  | version | capabilities | algorithms | digests
  | certificate (slot off len : Nat)
  | challengeAuth (digest : Nat)
  | measurements (list : List (Nat × Nat)) (digest : Option Nat)
  | keyExchange (digest : Nat)
  | finish | heartbeatAck | keyUpdateAck | endSessionAck
  | pqSig (digest : Nat)
  | pqChain
  | error (code : Nat)
  deriving DecidableEq, Repr

/-- What the out-of-band port answers to a command of R397: 32-bit or 64-bit words, or a vendor error. -/
inductive OobRsp where
  | words (l : List Nat)
  | accepted
  | vendorError
  deriving DecidableEq, Repr

/-- The instructions of the test access port (R418). -/
inductive TapInstr where
  | idcode | bypass | sample | extest | clamp | highz | extestPulse | extestTrain | dbgSelect
  deriving DecidableEq, Repr

/-- The output pins that have boundary cells (R403, R418). -/
inductive Pin where
  | slotGate (k : Fin 16)
  | slotPchg (k : Fin 16)
  | slotPwrgd (k : Fin 16)
  | slotPerst (k : Fin 16)
  | feedaGate | feedbGate | mainEn | warnN | thermTripN | oobAlertN | oobScl | oobSda | spiClk | spiCsN
  | spiIo (k : Fin 4)
  | laneTx (k : Fin 256)
  deriving DecidableEq, Repr

/-- The management complex. Memories hold bytes; flash bytes are kept as their difference from the erased value. -/
structure Mgmt where
  otp : Otp
  flash : Tbl Byte
  colo : Tbl ColoRec
  /-- place of the newest record, and whether one was ever written -/
  coloAt : Option Nat
  coloQueue : List ColoRec
  coloReady : Bool
  coloData : Option ColoRec
  boot : Boot
  startRefused : Nat
  /-- a slot is being verified: B, on trial (R383) -/
  verifying : Option (Bool × Bool)
  flashOp : Option (FlashOp × Nat)
  flashRefused : Nat
  flashError : Bool
  csetQ : List CsetCmd
  csetBusy : Bool
  csetRead : Option CsetRead
  csetResult : Nat
  csetApplied : Nat
  nonce : Nat
  oobSet : List Byte
  /-- latches T0, T1, VGLITCH_CORE, VGLITCH_AUX, CGLITCH as bits 0 to 4 (R399) -/
  latches : List Nat
  tampers : Nat
  glitches : Nat
  keysGone : Bool
  debugOn : Bool
  denied : Nat
  /-- the processor that holds the bridge (R376) -/
  brgLock : Option (Fin 2)
  lockLimits : Nat
  retries : Nat
  waiting : List WaitAcc
  /-- single-bit errors of the code SRAM and the scratchpad corrected (R372) -/
  memFixes : Nat
  sram : Tbl Byte
  spad : Tbl Byte
  spdmDoe : Spdm
  spdmMctp : Spdm
  oobAddr : Option Nat
  tap : TapInstr
  cells : List (Pin × Bool)
  deriving DecidableEq, Repr

/-- The management complex as manufactured. -/
def mgmt0 : Mgmt :=
  { otp := ⟨.blank, [], 0⟩, flash := [], colo := [], coloAt := none, coloQueue := [], coloReady := false, coloData := none,
    boot := boot0, startRefused := 0, verifying := none, flashOp := none, flashRefused := 0, flashError := false, csetQ := [],
    csetBusy := false, csetRead := none, csetResult := 0, csetApplied := 0, nonce := 0, oobSet := [], latches := [], tampers := 0, glitches := 0,
    keysGone := false, debugOn := false, denied := 0, brgLock := none, lockLimits := 0, retries := 0, waiting := [], memFixes := 0, sram := [],
    spad := [], spdmDoe := spdm0, spdmMctp := spdm0, oobAddr := none, tap := .idcode, cells := [] }

end Sys2Proof.Machine
end

