-- ==== Sys2Proof/Syntax.lean ====
section
/-!
DEFINITION. The commands of the device: one constructor for each row of the table of operations and events, with what the
step is told from outside (which port, which register value, which packet, which measured or drawn value).
-/
namespace Sys2Proof
open Sys2Proof.Machine

/-- A command (a row of the table of operations and events). -/
inductive Instr where
  /-- COLD_RST_N_LOW (R27): COLD_RST_N goes low and passes its filter, so every domain resets and the device goes to OFF. -/
  | coldRstNLow
  /-- VDD_AUX_OUT_OF_RANGE (R27): VDD_AUX, or VDD_IO under R406, leaves its range and the device goes to OFF with all domains
  reset. -/
  | vddAuxOutOfRange (torn : Bool)
  /-- AUX_REFCLK_LOST (R408): AUX_REFCLK shows no edge for more than 2 µs, which is treated as COLD_RST_N low. -/
  | auxRefclkLost
  /-- COLD_RST_N_RISE (R27): COLD_RST_N rises with VDD_AUX in range: OFF goes to AUX, the always-on PLL locks, OOB_SEL is
  sampled and the boot ROM begins a start. -/
  | coldRstNRise (oobSel : Bool)
  /-- IMAGE_VERIFY_DONE (R382): Verification of a copied Dzicor image completes: the boot ROM hands both processors to it,
  tries the other image, or fails the start with BOTH_IMAGES_BAD. -/
  | imageVerifyDone (ed : Bool) (pq : Bool) (memErr : Bool)
  /-- MAIN_POWER_ENABLE (R369): A write of PWR_MAIN_CTL.EN drives PWR_MAIN_EN; EN = 1 has no effect while
  GLB_THERM_STATUS.TRIPPED is 1. -/
  | mainPowerEnable (path : Path) (en : Bool)
  /-- MAIN_POWER_GOOD (R27): PWR_MAIN_GOOD asserts, satisfying the main-rail condition of the start. -/
  | mainPowerGood
  /-- MAIN_POWER_TIMEOUT (R27): PWR_MAIN_GOOD is not asserted within 100 ms of PWR_MAIN_EN, so the start fails, the main rails
  are disabled and a new start is scheduled 100 ms later. -/
  | mainPowerTimeout
  /-- CORE_PLL_LOCKED (R27): The core PLL locks and CCLK runs phase-aligned with MPCLK. -/
  | corePllLocked
  /-- CORE_PLL_TIMEOUT (R27): The core PLL is not locked within 1 ms, so the start fails with cause CORE_PLL. -/
  | corePllTimeout
  /-- CORE_INITIALISED (R27): Core memories are initialised at generation 0 and the device enters TEST, STANDALONE or MEMBER
  as the start plan selects. -/
  | coreInitialised
  /-- FIRST_BINDING_TIMEOUT (R27): The first binding has not completed 900 ms after the start began, so the start fails and
  the device returns to AUX. -/
  | firstBindingTimeout
  /-- NEW_START_AFTER_FAIL (R27): The 100 ms wait after a failed start ends and the device begins a new start by itself. -/
  | newStartAfterFail
  /-- MAIN_POWER_LOST (R27): PWR_MAIN_GOOD deasserts: the device goes to AUX, records the main power loss and does not count a
  failed start. -/
  | mainPowerLost
  /-- QUIESCE_FOR_REMOVAL (R31): GLB_MODE_CTL.REQ = 1 enters QUIESCED with cause 1, refuses new work and sends LEAVE; it is
  refused where R27 does not allow it. -/
  | quiesceForRemoval (path : Path)
  /-- QUIESCE_FOR_FIRMWARE (R31): GLB_MODE_CTL.REQ = 2 enters QUIESCED with cause 2, refusing new work and letting outstanding
  bookmarks complete. -/
  | quiesceForFirmware (path : Path)
  /-- RESUME (R27): GLB_MODE_CTL.REQ = 3 leaves QUIESCED for the mode it was entered from, unless a DEVICE-FATAL record is
  open. -/
  | resume (path : Path)
  /-- RESTART (R27): GLB_MODE_CTL.REQ = 4 in QUIESCED, TEST or ENDPAPER disables the main rails and begins a new start. -/
  | restart (path : Path)
  /-- QUIESCE_DRAIN_TIMEOUT (R31): 50 ms after entry into QUIESCED with cause 1 or 2, every bookmark still in use is answered
  and freed. -/
  | quiesceDrainTimeout
  /-- MTICK (R25): The 250,000-MPCLK count expires and the MTICK edge drives mirror refreshes, servo measurements, scrubbing,
  slot evaluation and the other per-MTICK work. -/
  | mtick (x : TickIn)
  /-- SPINE_PPS_EDGE (R37): A SPINE_PPS rising edge marks a second, corrects θ when it is off by more than P/2, and performs a
  pending load at PPS. -/
  | spinePpsEdge
  /-- REFERENCE_LOST (R42): A time reference is lost under R42 and the servo goes to HOLDOVER with r = y. -/
  | referenceLost (x : LostSignal)
  /-- HOLDOVER_EXPIRED (R41): Time in HOLDOVER reaches SPN_HOLDOVER_LIMIT.LIMIT; HOLDOVER_EXPIRED is set and its source is
  raised. -/
  | holdoverExpired
  /-- SPN_TIME_LO_READ (R36): A read of SPN_TIME_LO returns NS[31:0] and latches NS[63:32] and FRAC into the requester's latch
  set. -/
  | spnTimeLoRead (path : Path)
  /-- TIME_LOAD_NOW (R44): SPN_TIME_SET_CTL.ACT = 0b10 loads spine time now, as a step; it is refused while the time comes
  from the fabric. -/
  | timeLoadNow (path : Path)
  /-- TIME_LOAD_AT_PPS (R44): SPN_TIME_SET_CTL.ACT = 0b01 arms a load of the written value plus EXT_DELAY at the next
  SPINE_PPS edge. -/
  | timeLoadAtPps (path : Path)
  /-- SPN_UNIT_GROUP_WRITE (R46): A write to SPN_UNIT_GROUP_k moves quire units between binding groups, refusing each field
  whose old or new group has a pending binding. -/
  | spnUnitGroupWrite (path : Path) (k : Fin 47) (w : Word)
  /-- QUIRE_BIND (R47): A binding request for groups G at instant T is decided as MODE, NOT_ALIGNED, LATE, FAR, GROUP_BUSY or
  accepted. -/
  | quireBind
  /-- QUIRE_BIND_WITHDRAW (R47): A QUIRE_BIND with WITHDRAW = 1 withdraws a pending binding of exactly the same G and T before
  T − 1,000 ns. -/
  | quireBindWithdraw
  /-- BINDING_ARM (R48): Local spine time reaches T − 1,000 ns and the binding is armed, so withdrawal is no longer accepted.
  -/
  | bindingArm (t : Nat)
  /-- WRITE_GATE_CLOSE (R48): 16 CCLK before E0 the write gate closes on every unit of the armed groups and shadow parity is
  sampled. -/
  | writeGateClose (t : Nat)
  /-- SHADOW_PARITY (R48): One CCLK before E0 a sampled parity error cancels the whole request, which completes as
  SHADOW_PARITY. -/
  | shadowParity (t : Nat)
  /-- BINDING_FIRE (R48): At E0 the active selector flips in every unit of every group bound at T, and the checks that run at
  a binding take place. -/
  | bindingFire (t : Nat)
  /-- OLD_QUIRE_RELEASE (R48): 18 CCLK after E0 the last header decided under the old quire has left stage 5 and the previous
  active quire is released. -/
  | oldQuireRelease (t : Nat)
  /-- COPY_FORWARD_BEGIN (R48): 32 CCLK after E0 the new active quire begins to be copied into the new shadow quire. -/
  | copyForwardBegin (t : Nat)
  /-- BINDING_COMPLETE (R48): Copy-forward completes, the write gate opens, queued writes are applied, pending bits clear and
  the request completes as BOUND. -/
  | bindingComplete (t : Nat)
  /-- REGISTER_WRITE (R10): A BAR0 or bridge write to a register with no row of its own lands in the shadow quire or acts at
  once, as its access code says. -/
  | registerWrite (path : Path) (off : Fin 67108864) (w : Word)
  /-- BLOCK_LOCK (R10): Writing 1 to HVH_LOCK, PWR_LOCK or MGT_LOCK makes every RWL field of the block read only until cold
  reset. -/
  | blockLock (path : Path) (b : LockBlock)
  /-- START_LOAD (R243): LNC_START.LOAD = 1 copies the shadow quires of units 107 to 186 into the active quires before the
  first binding, or is refused. -/
  | startLoad (path : Path)
  /-- CONFIG_REQUEST (R66): A host configuration read or write to the vUSB, a vDSB, the management endpoint, a data mover
  function or a target below a vDSB is answered, retried or forwarded. -/
  | configRequest (p : Fin 64) (t : Tlp)
  /-- SECONDARY_BUS_RESET (R73): Setting Secondary Bus Reset in the vUSB or a vDSB resets the vDSBs and applies the reset
  outcomes of R74. -/
  | secondaryBusReset (h : Fin 48) (f : Fin 66) (on : Bool)
  /-- RETRAIN_LINK (R65): Retrain Link in a vDSB of TYPE PORT starts Recovery on the device port. -/
  | retrainLink (h : Fin 48) (v : Fin 64)
  /-- LINK_DISABLE (R255): Link Disable in a vDSB of TYPE PORT disables the device port and keeps it OFF until cleared. -/
  | linkDisable (h : Fin 48) (v : Fin 64) (on : Bool)
  /-- DPC_TRIGGER (R76): A host-enabled or software DPC trigger contains the vDSB. -/
  | dpcTrigger (h : Fin 48) (v : Fin 64) (reason : Fin 4)
  /-- DPC_TRIGGER_STATUS_CLEAR (R76): The host clears DPC Trigger Status: a PORT link retrains, other types report presence
  again, unless a ledger record still contains it. -/
  | dpcTriggerStatusClear (h : Fin 48) (v : Fin 64)
  /-- BUS_MASTER_ENABLE_CLEAR (R72): Clearing Bus Master Enable gates the function's or bridge's requests from the edge of R66
  and stops its rings as MASTER_OFF. -/
  | busMasterEnableClear (x : MasterFn)
  /-- BUS_MASTER_ENABLE_SET (R299): Setting Bus Master Enable again writes held completions, issues held writes and reruns
  stopped descriptors. -/
  | busMasterEnableSet (x : MasterFn)
  /-- INITIATE_FUNCTION_LEVEL_RESET (R302): A function-level reset of a data mover function squashes it and leaves it enabled.
  -/
  | initiateFunctionLevelReset (fn : Fin 2048)
  /-- VF_ENABLE_CLEAR (R302): The home host clears VF Enable, so every virtual function is squashed and disabled. -/
  | vfEnableClear
  /-- SQUASH_QUEUE_CLEARED (R300): Within 2 µs of a squash, every request of the function still queued in the device has been
  removed. -/
  | squashQueueCleared (fn : Fin 2048)
  /-- SQUASH_COMPLETE (R300): Ring contexts, MSI-X entries and page registers are reset, and the function answers
  configuration requests again. -/
  | squashComplete (fn : Fin 2048)
  /-- DRAIN_COMPLETE (R301): The last descriptor of a draining function completes and the function becomes DISABLED. -/
  | drainComplete (fn : Fin 2048)
  /-- DRAIN_TIMEOUT (R301): DMV_CTL.DRAIN_TO passes before a drain finishes, so the function is squashed. -/
  | drainTimeout (fn : Fin 2048)
  /-- PERST_ASSERT (R73): PERST_Pnn_N asserts on a host port, resetting its hierarchy and sending the port to OFF. -/
  | perstAssert (p : Fin 64)
  /-- PERST_DEASSERT (R73): PERST_Pnn_N deasserts, ending IN_RESET and letting the port leave OFF. -/
  | perstDeassert (p : Fin 64)
  /-- HOT_RESET_RECEIVED (R73): A hot reset received on a host port resets its hierarchy. -/
  | hotResetReceived (p : Fin 64)
  /-- HIERARCHY_RRS_END (R75): Header reinitialisation ends, at most 2 ms after the reset ends, and configuration requests are
  answered normally again. -/
  | hierarchyRrsEnd (h : Fin 48)
  /-- HOST_MEMORY_REQUEST (R88): A memory request from a host port is decoded, guarded, converted or split, and enqueued,
  refused or answered. -/
  | hostMemoryRequest (p : Fin 64) (t : Tlp)
  /-- CXL_MEM_REQUEST (R84): A host CXL.mem request is routed by the folio table with a bookmark, or answered as unmapped, not
  permitted or poison. -/
  | cxlMemRequest (p : Fin 64) (t : Tlp)
  /-- IO_REQUEST (R67): An I/O request from any host is answered with Unsupported Request. -/
  | ioRequest (p : Fin 64) (rid : BitVec 16) (tag : Fin 16384)
  /-- MESSAGE_RECEIVED (R87): A message from a host or device port is routed by its routing field or to the owning hierarchy.
  -/
  | messageReceived (p : Fin 64) (t : Tlp)
  /-- DEVICE_PORT_REQUEST (R104): A memory request from a device port goes upstream under DEC_Pnn_UPk.MODE, to a peer, or is
  refused. -/
  | devicePortRequest (p : Fin 64) (t : Tlp)
  /-- BISNP_RECEIVED (R84): A back-invalidate snoop from an expander is forwarded with a bookmark to the host port that its
  BI-ID names. -/
  | bisnpReceived (p : Fin 64) (t : Tlp)
  /-- FABRIC_PACKET_RECEIVED (R106): A data-plane packet from a fabric port is routed by destination fabric ID, delivered to
  the internal edge, or dropped. -/
  | fabricPacketReceived (p : Fin 64) (src : Fin 4096) (dst : Fin 4096) (ttl : Fin 16) (tc : Fin 8) (ld : Option (Fin 16)) (t : Tlp)
  /-- COMPLETION_RECEIVED (R424): A completion or CXL.mem response is matched by egress tag to its bookmark, member and line,
  and then returned, merged or failed over. -/
  | completionReceived (p : Fin 64) (t : Tlp)
  /-- LOCKED_READ (R80): An MRdLk is accepted and locks its egress port for the hierarchy, waits for the lock, or is refused
  with Unsupported Request. -/
  | lockedRead (p : Fin 64) (t : Tlp)
  /-- UNLOCK (R80): The host's Unlock message is forwarded and frees the lock. -/
  | unlock (p : Fin 64)
  /-- LOCK_EXPIRED (R80): HVH_TIMER_CTL.LOCK_LIMIT expires; the device sends Unlock, raises lock-expired and counts the event.
  -/
  | lockExpired (p : Fin 64)
  /-- PREFETCH_LIFE_EXPIRED (R82): Prefetched data is not hit within PF_LIFE and is discarded and counted. -/
  | prefetchLifeExpired (h : Fin 48) (addr : BitVec 64)
  /-- COMPLETION_TIMEOUT (R77): A bookmark timer expires and the requester receives Completer Abort, poison or nothing, with a
  completion-timeout source raised. -/
  | completionTimeout (b : Fin 65536)
  /-- QUARANTINE_END (R78): The quarantine of an expired bookmark ends, and the bookmark and its egress tag return to the
  pool. -/
  | quarantineEnd (b : Fin 65536)
  /-- EGRESS_SEND (R121): An egress link can accept a packet and its arbiter chooses and sends one eligible head. -/
  | egressSend (p : Fin 64) (starved : List OrdType) (choice : Nat) (fate : SendFate)
  /-- NULLIFIED_PACKET_RECEIVED (R127): A packet nullified by its partner, or tail-marked on a Brodoth link, is treated as
  never sent and counted. -/
  | nullifiedPacketReceived (p : Fin 64) (part : Option VoidRx)
  /-- ROUTE_HOLD_RELEASE (R208): The release time of a packet held after a route change is reached and it becomes eligible. -/
  | routeHoldRelease (p : Fin 64)
  /-- LINK_DOWN (R253): The LTSSM leaves L0 and Recovery for Detect or Disabled, a link-down event. -/
  | linkDown (p : Fin 64)
  /-- FLUSH_COMPLETE (R131): Every cell of a flushed port is freed and FLUSHING returns to 0, releasing a HELD link. -/
  | flushComplete (p : Fin 64)
  /-- PORT_BOOKMARKS_ANSWERED (R131): Within 12 µs of a flush, every bookmark whose request left through the port is answered
  as on expiry and quarantined. -/
  | portBookmarksAnswered (p : Fin 64)
  /-- DRAIN_FENCE_CLEAR (R99): No packet older than generation g remains, so a waiting table write completes. -/
  | drainFenceClear
  /-- COMPLETION_FENCE_CLEAR (R100): Every bookmark stamped older than g has been freed, so a completion-fenced command or
  migration step proceeds. -/
  | completionFenceClear
  /-- FENCE_EXPIRED (R101): DEC_FENCE_CTL.LIMIT passes before a fence clears; the command completes FENCE_EXPIRED and raises
  fence-expired. -/
  | fenceExpired (x : FenceRef)
  /-- GENERATION_SLOT_FREED (R102): Fewer than 14 generation slots are live, so a command waiting for a slot proceeds. -/
  | generationSlotFreed
  /-- SQ_DOORBELL (R265): A CMR_Rrr_SQ_DB write advances P, or is refused and stops the ring with BAD_DOORBELL. -/
  | sqDoorbell (path : Path) (r : Fin 64) (idx : Fin 65536)
  /-- CQ_DOORBELL (R265): A CMR_Rrr_CQ_DB write advances H, or is refused and stops the ring. -/
  | cqDoorbell (path : Path) (r : Fin 64) (idx : Fin 65536)
  /-- RING_ENABLE (R265): Writing CMR_Rrr_CTL.EN = 1 sets all four indices to 0 and starts the ring. -/
  | ringEnable (path : Path) (r : Fin 64) (ctl : BitVec 31)
  /-- RING_DISABLE (R278): Writing EN = 0 stops descriptor taking and drains the ring to DISABLED. -/
  | ringDisable (path : Path) (r : Fin 64)
  /-- DESCRIPTOR_FETCHED (R268): A fetched descriptor passes through the check stage in ring order, or the ring stops with
  FETCH_ERROR. -/
  | descriptorFetched (r : Fin 64)
  /-- NOP (R271): The command ring NOP completes at once with SUCCESS. -/
  | nop
  /-- FENCE (R273): FENCE holds its ring until every earlier command of the ring has completed. -/
  | fence
  /-- QUIRE_STAGE (R274): QUIRE_STAGE checks the offset and value pairs, then writes them in list order into shadow quires. -/
  | quireStage
  /-- FOLIO_WRITE (R96): FOLIO_WRITE checks 1 to 64 folio entries, writes them in ascending order and completes under its
  fence. -/
  | folioWrite
  /-- FOLIO_READ (R271): FOLIO_READ returns folio entries as they stand, inline or written to host memory. -/
  | folioRead
  /-- ROUTE_WRITE (R108): ROUTE_WRITE checks and writes one fabric routing entry and completes under the drain fence. -/
  | routeWrite
  /-- GATHER_WRITE (R161): GATHER_WRITE checks and writes a 512-bit gathering entry at one edge and completes under its
  fences. -/
  | gatherWrite
  /-- GATHER_STAGE_HALF (R276): An inline GATHER_WRITE with PART 0b00 stages words W0 to W3 for its ring. -/
  | gatherStageHalf
  /-- MIGRATE_START (R164): MIGRATE_START checks and starts a FOLIO-mode or RESYNC-mode migration in a context, completing
  when it ends. -/
  | migrateStart
  /-- MIGRATE_ABORT (R170): MIGRATE_ABORT ends a context in COPY or FINAL, restoring the source entry, or is refused
  NOT_ACTIVE. -/
  | migrateAbort
  /-- SNAPSHOT (R349): SNAPSHOT with ACT SNAPSHOT schedules an instant at which live counter values are taken and written. -/
  | snapshot
  /-- FREEZE (R348): SNAPSHOT with ACT FREEZE schedules an instant at which counters, thresholds and bins are copied into a
  frozen view. -/
  | freeze
  /-- THAW (R348): SNAPSHOT with ACT THAW schedules an instant at which reads return live values again. -/
  | thaw
  /-- LEDGER_READ (R271): LEDGER_READ takes ledger records, each in one CCLK, and returns them inline or to host memory. -/
  | ledgerRead
  /-- LEDGER_CLEAR (R329): LEDGER_CLEAR closes a record and releases its containment, or is refused as CAUSE_PRESENT or
  NOT_OPEN. -/
  | ledgerClear
  /-- CAPTURE_START (R337): CAPTURE_CTL start sets a port's capture selection, ring and indices. -/
  | captureStart
  /-- CAPTURE_STOP (R337): CAPTURE_CTL stop ends matching and completes after the last queued record is written. -/
  | captureStop
  /-- REMOTE_COMMAND (R272): A descriptor with HOP_COUNT ≠ 0 is sent as a CMD from an anchored device, or refused. -/
  | remoteCommand
  /-- REMOTE_TIMEOUT (R272): No CMD_RSP arrives within RTO MTICK and the descriptor completes with REMOTE_TIMEOUT. -/
  | remoteTimeout (seq : Fin 65536)
  /-- PMC_INSTANT (R347): A scheduled SNAPSHOT, FREEZE or THAW instant is reached, or moved by a forward step, and is taken.
  -/
  | pmcInstant (t : Nat)
  /-- PMC_CNT_LO_READ (R346): A read of a counter, threshold or bin LO word latches its upper bits from the view in force. -/
  | pmcCntLoRead (path : Path) (x : PmcPlace)
  /-- BITCNT_LO_READ (R262): A read of LNC_Lnnn_BITCNT_LO latches bits [47:32] into the requester's latch set. -/
  | bitcntLoRead (path : Path) (l : Fin 256)
  /-- COPY_PASS_COMPLETE (R171): Every copy write of a pass is confirmed; the context goes to FINAL, starts another pass, or
  ends NO_CONVERGE. -/
  | copyPassComplete (c : Fin 64)
  /-- GRANULE_COPY (R172): Within its rate and bookmark limits, the engine issues source reads and destination writes for the
  next granule. -/
  | granuleCopy (c : Fin 64)
  /-- SETTLE_COMPLETE (R169): The settle of the previous pass parity completes and copying of the pass begins. -/
  | settleComplete (c : Fin 64)
  /-- FLIP_EDGE (R175): The final copy writes are confirmed, the folio entry is replaced at one edge and held writes are
  released under the new entry. -/
  | flipEdge (c : Fin 64)
  /-- HOLD_EXPIRED (R174): The hold timer reaches HOLD_MAX: the final step is abandoned and a new pass begins, or the
  migration ends HOLD_EXPIRED. -/
  | holdExpired (c : Fin 64)
  /-- HEAT_EPOCH_BOUNDARY (R181): Spine time crosses an epoch boundary; counting moves to the other bank and the closed bank's
  report begins. -/
  | heatEpochBoundary
  /-- HEAT_REPORT_COMPLETE (R184): A heat report's writes end with Q0 rewritten with VALID = 1. -/
  | heatReportComplete
  /-- MERGE_TIMER_EXPIRED (R151): A merge timer expires, every pending member counts as failed, and the merge is decided. -/
  | mergeTimerExpired (b : Fin 65536)
  /-- FAILOVER_TIMER_EXPIRED (R152): A failover timer expires, the member moves to LOST and the read is reissued. -/
  | failoverTimerExpired (b : Fin 65536)
  /-- HELLO (R197): A received HELLO updates the port's advertisement, the best candidate and the election state. -/
  | hello (p : Fin 64) (f : Fmp)
  /-- ADVERTISEMENT_LAPSE (R197): A port's advertisement, or an anchor's sequence, lapses after DEAD × HELLO MTICK. -/
  | advertisementLapse (p : Fin 64) (anchor : Bool)
  /-- ELECTION_SETTLED (R198): The own candidacy stays best for SETTLE MTICK and the device enters ANCHOR. -/
  | electionSettled
  /-- REPORT_SEND (R201): A scheduled REPORT leaves on the upstream port at its drawn MTICK edge. -/
  | reportSend
  /-- REPORT (R194): A received REPORT is relayed upstream, or kept at the anchor as a discovery ring record with REPORT_ACK
  or REPORT_BUSY. -/
  | report (p : Fin 64) (f : Fmp)
  /-- REPORT_ACK (R201): A REPORT_ACK ends the outstanding REPORT and resets W. -/
  | reportAck (p : Fin 64) (f : Fmp)
  /-- REPORT_BUSY (R201): A REPORT_BUSY doubles W and reschedules the REPORT. -/
  | reportBusy (p : Fin 64) (f : Fmp)
  /-- REPORT_TIMEOUT (R201): No answer arrives within W MTICK, so W doubles and the REPORT is sent again. -/
  | reportTimeout
  /-- LEAVE (R202): A received LEAVE is relayed upstream, or recorded in the anchor's discovery ring. -/
  | leave (p : Fin 64) (f : Fmp)
  /-- CMD (R204): A CMD is accepted and executed as an unrestricted command, or refused with a channel status. -/
  | cmd (p : Fin 64) (f : Fmp)
  /-- CMD_RSP (R203): A CMD_RSP with matching SEQ completes the issuing descriptor, or is discarded as late. -/
  | cmdRsp (p : Fin 64) (f : Fmp)
  /-- DATA_FLIT (R230): A DATA flit is accepted in sequence and its packets counted, or discarded as a duplicate or gap. -/
  | dataFlit (p : Fin 64) (sq : Fin 4096) (mark : Nat) (slots : List FlitSlot) (l : LinkSlot)
  /-- MGMT_FLIT (R221): A MGMT flit is accepted in sequence and its FMPs delivered, or discarded as a duplicate or gap. -/
  | mgmtFlit (p : Fin 64) (sq : Fin 4096) (mark : Nat) (ws : List Quad) (l : LinkSlot)
  /-- IDLE_FLIT (R230): An IDLE flit's link slot is used, and a NAK is sent when its SEQ shows a lost flit. -/
  | idleFlit (p : Fin 64) (sq : Fin 4096) (l : LinkSlot)
  /-- BAD_FLIT (R230): A flit whose CRC fails after FEC is discarded and counted, and a NAK is called for. -/
  | badFlit (p : Fin 64) (reserved : Option (Fin 4096 × LinkSlot))
  /-- ACK (R232): An ACK removes acknowledged flits from the replay buffer. -/
  | ack (p : Fin 64) (a : Fin 4096)
  /-- NAK (R232): A NAK removes acknowledged flits and starts a replay from the flit after AN_SEQ, or after REPLAY_MAX forces
  a full link reset. -/
  | nak (p : Fin 64) (a : Fin 4096)
  /-- CREDIT_UPDATE (R226): A newer cumulative credit value replaces LIMIT, and one out of range is a credit error. -/
  | creditUpdate (p : Fin 64) (u : CreditUpd)
  /-- XOFF_MAP (R236): A link slot with FB = 1 puts the transmitter in fall-back and sets XOFF per channel. -/
  | xoffMap (p : Fin 64) (m : BitVec 49)
  /-- NAK_TIMER_EXPIRED (R231): The NAK timer expires with NEXT unchanged and the NAK is sent again. -/
  | nakTimerExpired (p : Fin 64)
  /-- REPLAY_TIMER_EXPIRED (R232): The replay timer expires and all outstanding flits are replayed, or a full link reset
  follows at REPLAY_MAX. -/
  | replayTimerExpired (p : Fin 64)
  /-- INIT_ID (R224): INIT_ID received in ID moves the port to CREDIT. -/
  | initId (p : Fin 64) (sq : Fin 4096) (l : LinkSlot) (m : InitMsg)
  /-- INIT_CREDIT (R224): INIT_CREDIT received records the partner's advertisement and moves the port to DONE. -/
  | initCredit (p : Fin 64) (sq : Fin 4096) (l : LinkSlot) (m : InitMsg)
  /-- INIT_DONE (R224): INIT_DONE received in DONE makes the port ACTIVE, sets the counters and sends a TIME_REQ; in ACTIVE an
  init message causes a full link reset. -/
  | initDone (p : Fin 64) (sq : Fin 4096) (l : LinkSlot) (m : InitMsg)
  /-- INIT_TIMEOUT (R224): The init timer expires, the init-timeout source is raised and a full link reset follows. -/
  | initTimeout (p : Fin 64)
  /-- TIME_REQ (R237): A TIME_REQ received is answered with a TIME_RSP carrying t2 and t3 within 1 µs. -/
  | timeReq (p : Fin 64) (sq : Fin 4096) (l : LinkSlot) (id : Fin 256) (delay : Nat)
  /-- TIME_RSP (R38): A matching TIME_RSP gives t1 to t4, from which θ, D, RTT and HOPS are computed for the servo. -/
  | timeRsp (p : Fin 64) (sq : Fin 4096) (l : LinkSlot) (id : Fin 256) (hopsState : Fin 256) (t2 : BitVec 80) (t3 : BitVec 80)
  /-- LINK_RESET (R239): A LINK_RESET received causes a full link reset. -/
  | linkReset (p : Fin 64) (sq : Fin 4096) (l : LinkSlot)
  /-- BFL_PORT_RESET (R239): BFL_Pnn_CMD.RESET starts a full link reset of the fabric port. -/
  | bflPortReset (path : Path) (p : Fin 64)
  /-- REFCLK_LOST (R250): REFCLK_Sss shows no edge for 2 µs; REFCLK_OK goes to 0 and the stack's ports go to OFF. -/
  | refclkLost (k : Fin 16)
  /-- REFCLK_RESTORED (R250): The stack clock runs for 1 ms, REFCLK_OK returns to 1 and ports leave OFF. -/
  | refclkRestored (k : Fin 16)
  /-- CALIBRATION_DONE (R252): Calibration of a stack's lanes completes and CAL_DONE becomes 1. -/
  | calibrationDone (k : Fin 16)
  /-- RECEIVER_DETECTED (R253): In DETECT a receiver is detected and the port enters TRAIN with its train timer started. -/
  | receiverDetected (p : Fin 64)
  /-- LINK_TRAINED (R253): The LTSSM reaches L0 with an acceptable result, and the port goes UP or HELD and starts its data
  link layer. -/
  | linkTrained (p : Fin 64) (r : TrainResult)
  /-- TRAIN_TIMEOUT (R253): The train timer expires, or the result is unacceptable: a failed training is counted and the rate
  cap may step down. -/
  | trainTimeout (p : Fin 64) (r : Option TrainResult)
  /-- RECOVERY_COMPLETE (R253): Recovery completes in L0 while UP and RECOVERY is incremented. -/
  | recoveryComplete (p : Fin 64) (rate : Fin 16) (width : Fin 32)
  /-- PORT_RETRAIN (R254): PLK_Pnn_CMD.RETRAIN clears the rate cap and, in UP, starts Recovery to the highest rate. -/
  | portRetrain (path : Path) (p : Fin 64)
  /-- L0P_REQUEST (R257): A partner's L0p request is accepted to a new width when L0P_EN = 1. -/
  | l0pRequest (p : Fin 64) (width : Fin 32)
  /-- ASPM_L1_ENTRY (R257): A device port accepts its partner's L1 entry and leaves at the first queued packet. -/
  | aspmL1Entry (p : Fin 64)
  /-- MARGIN_STOP (R259): A margin command of TYPE stop returns the offset to zero and STATE to IDLE. -/
  | marginStop (path : Path) (l : Fin 256) (w : BitVec 30)
  /-- MARGIN_TIMING (R259): A margin command of TYPE timing starts a timing-offset measurement, or ends BUSY or ABORTED. -/
  | marginTiming (path : Path) (l : Fin 256) (w : BitVec 30)
  /-- MARGIN_VOLTAGE (R259): A margin command of TYPE voltage starts a voltage-offset measurement, or ends BUSY or ABORTED. -/
  | marginVoltage (path : Path) (l : Fin 256) (w : BitVec 30)
  /-- MARGIN_DONE (R259): A margin measurement ends after DWELL as PASSED or FAILED, or aborts when the port leaves UP. -/
  | marginDone (l : Fin 256) (errors : Nat)
  /-- INJECT (R262): LNC_Lnnn_TCMD.INJECT inverts one transmitted bit. -/
  | inject (path : Path) (l : Fin 256)
  /-- CLEAR (R262): LNC_Lnnn_TCMD.CLEAR sets ERRCNT, BITCNT and LOCKLOSS to zero. -/
  | clear (path : Path) (l : Fin 256)
  /-- CHECKER_LOCK (R262): A checker sees 64 error-free bits and declares lock. -/
  | checkerLock (l : Fin 256)
  /-- CHECKER_LOCK_LOSS (R262): 32 or more of 64 bits mismatch, so the checker drops lock and increments LOCKLOSS. -/
  | checkerLockLoss (l : Fin 256) (bits : Nat) (errors : Nat)
  /-- DMV_SQ_DOORBELL (R291): A data mover ring's SQ doorbell advances P, or is refused and stops the ring. -/
  | dmvSqDoorbell (fn : Fin 2048) (k : Fin 64) (idx : Fin 65536)
  /-- DMV_CQ_DOORBELL (R291): A data mover ring's CQ doorbell advances H, or is refused and stops the ring. -/
  | dmvCqDoorbell (fn : Fin 2048) (k : Fin 64) (idx : Fin 65536)
  /-- DMV_RING_ENABLE (R288): Writing DMV_Kkk_CTL.EN = 1 takes a ring context, or sets NO_RESOURCE. -/
  | dmvRingEnable (fn : Fin 2048) (k : Fin 64)
  /-- DMV_RING_DISABLE (R291): Writing DMV_Kkk_CTL.EN = 0 drains the data mover ring to DISABLED. -/
  | dmvRingDisable (fn : Fin 2048) (k : Fin 64)
  /-- MSIX_MASK_WRITE (R288): Unmasking or masking a function's MSI-X entry backs or releases a vector in elastic mode. -/
  | msixMaskWrite (fn : Fin 2048) (e : Fin 256) (masked : Bool)
  /-- DESCRIPTOR_START (R296): A data mover descriptor starts when the in-progress and FENCE limits allow. -/
  | descriptorStart (fn : Fin 2048) (k : Fin 64)
  /-- DMV_NOP (R292): Data mover NOP completes with RESULT zero. -/
  | dmvNop
  /-- COPY (R292): COPY reads SRC and writes DST for LENGTH bytes. -/
  | copy
  /-- FILL (R292): FILL writes the 8-byte PATTERN repeatedly over DST. -/
  | fill
  /-- COMPARE (R292): COMPARE reads both operands and reports the first differing byte. -/
  | compare
  /-- DIGEST (R294): DIGEST computes CRC-32C or CRC-64 over SRC, optionally chained and checked. -/
  | digest
  /-- COPY_DIGEST (R294): COPY_DIGEST copies SRC to DST and digests the bytes copied. -/
  | copyDigest
  /-- CAPTURE_RECORD_WRITE (R335): A queued capture record is written to its ring, or dropped in STOP mode when the ring is
  full. -/
  | captureRecordWrite
  /-- MIRROR_COPY_SEND (R340): A queued mirror copy leaves its analysis port as a posted write into the session window. -/
  | mirrorCopySend (p : Fin 64) (cred : Bool)
  /-- SLOT_ENABLE (R358): Writing PWR_SLOTss_CTL.EN = 1 moves the channel from OFF to EMPTY outside ENDPAPER. -/
  | slotEnable (path : Path) (k : Fin 16)
  /-- SLOT_DISABLE (R358): Writing EN = 0 asserts PERST, turns the gates off after at least 100 µs, and sends the channel to
  OFF. -/
  | slotDisable (path : Path) (k : Fin 16)
  /-- REARM (R358): Writing REARM leaves LATCHED for PENDING or EMPTY and clears RETRIES. -/
  | rearm (path : Path) (k : Fin 16)
  /-- SLOT_PRESENCE_SEEN (R358): A card is seen in an EMPTY slot and the presence debounce starts. -/
  | slotPresenceSeen (k : Fin 16)
  /-- SLOT_PRESENCE_LOST (R362): Presence is lost: the channel powers down to EMPTY where R362 says, and the absence timer
  starts. -/
  | slotPresenceLost (k : Fin 16)
  /-- SLOT_DEBOUNCE_DONE (R358): Presence has held for PRES_DEB and the channel goes to PENDING. -/
  | slotDebounceDone (k : Fin 16)
  /-- PCHG_TIMEOUT (R358): The pre-charge timer expires and the channel trips with cause PCHG_TIMEOUT. -/
  | pchgTimeout (k : Fin 16)
  /-- RAMP_TIMEOUT (R358): The 16-MTICK ramp timer expires and the channel trips with cause RAMP_TIMEOUT. -/
  | rampTimeout (k : Fin 16)
  /-- OVERCURRENT (R358): The fault timer expires while the current is held at ILIM and the channel trips with cause
  OVERCURRENT. -/
  | overcurrent (k : Fin 16)
  /-- SHORT (R358): The comparator finds current at or above 2 × ILIM and the channel trips with cause SHORT. -/
  | short (k : Fin 16)
  /-- SLOT_UNDERVOLTAGE (R364): VIN falls below VIN_UV by comparator and active channels return to PENDING without a retry. -/
  | slotUndervoltage
  /-- SLOT_RETRY_TIMER_EXPIRED (R358): The retry timer has expired with Tj at or below TJ_RESTART and presence held, so the
  channel goes to PENDING and RETRIES increments. -/
  | slotRetryTimerExpired (k : Fin 16)
  /-- SLOT_PERST_RELEASE (R359): 160 MTICK after power-good, SLOTss_PERST_N is released. -/
  | slotPerstRelease (k : Fin 16)
  /-- GOOD_RESET (R358): PWRGD has held for GOOD_RESET seconds without a trip and RETRIES is cleared. -/
  | goodReset (k : Fin 16)
  /-- ABSENCE_TIMEOUT (R362): A card stays absent for 200 ms: RETRIES clears, and FAULT_WAIT or LATCHED goes to EMPTY. -/
  | absenceTimeout (k : Fin 16)
  /-- FEED_GOOD (R366): A feed stays in its window for 8 MTICK and becomes good, which may ramp it from NONE. -/
  | feedGood (feedB : Bool)
  /-- FEED_NOT_GOOD (R366): A feed stays out of its window for 1 µs; the active gate turns off into BREAK when the other feed
  is good. -/
  | feedNotGood (feedB : Bool)
  /-- FEED_RAMP_TIMEOUT (R366): VBUS does not reach the feed within 16 MTICK, so the gate turns off and the feed is barred for
  1 s. -/
  | feedRampTimeout
  /-- FEED_BAR_END (R366): The 1,600-MTICK bar of a faulted feed ends. -/
  | feedBarEnd (feedB : Bool)
  /-- BREAK_DEAD_TIME_END (R366): BBM µs after the old gate turned off, the other feed's gate is driven and the switch is
  counted. -/
  | breakDeadTimeEnd
  /-- FEED_REVERT (R366): The primary feed is good for RETURN_DEB with REVERT = 1, so the load moves back to it through BREAK.
  -/
  | feedRevert
  /-- WARN_RELEASE (R368): After WARN_MIN with no cause present, PWR_WARN_N is released at an MTICK edge. -/
  | warnRelease
  /-- PREFER (R383): MGT_START_CTL PREFER_x verifies slot x and appends a PREFERENCE record. -/
  | prefer (path : Path) (slotB : Bool)
  /-- TRIAL (R383): MGT_START_CTL TRIAL_x verifies slot x and appends a PREFERENCE record with TRIAL = 1. -/
  | trial (path : Path) (slotB : Bool)
  /-- CLEAR_FAILS (R383): CLEAR_FAILS in ENDPAPER appends FAILS_CLEARED with FAILS = 0, and is refused elsewhere. -/
  | clearFails (path : Path)
  /-- PREFERENCE_VERIFIED (R383): The slot verification of PREFER or TRIAL ends and its record is appended or the write
  refused. -/
  | preferenceVerified (ed : Bool) (pq : Bool)
  /-- READ_PAGE (R384): MGT_FLASH_CMD READ_PAGE reads a 256-byte page into the buffer. -/
  | readPage (path : Path) (a : Fin 16777216)
  /-- PROGRAM_PAGE (R384): MGT_FLASH_CMD PROGRAM_PAGE programs a page in an image slot, or is refused. -/
  | programPage (path : Path) (a : Fin 16777216)
  /-- ERASE_SECTOR (R384): MGT_FLASH_CMD ERASE_SECTOR erases a 4 KiB sector in an image slot, or is refused. -/
  | eraseSector (path : Path) (a : Fin 16777216)
  /-- FLASH_OP_DONE (R384): A flash operation finishes, clearing BUSY and setting ERROR on failure. -/
  | flashOpDone (err : Bool)
  /-- FLASH_OP_OVERRUN (R384): A flash operation overruns its time and ERROR is set. -/
  | flashOpOverrun
  /-- COLOPHON_APPEND (R386): A queued colophon record is written at the next SEQ, with background sector erase. -/
  | colophonAppend
  /-- COLOPHON_SELECT (R399): Writing MGT_COLO_IDX.BACK selects a colophon record for reading. -/
  | colophonSelect (path : Path) (back : Fin 1024)
  /-- COLOPHON_READY (R399): The selected record is loaded into MGT_COLO_Dk and READY becomes 1. -/
  | colophonReady
  /-- CSET_SUBMIT (R390): A command set is read, checked whole, applied in order, and the NONCE is redrawn. -/
  | csetSubmit (ed : Bool) (pq : Bool)
  /-- ADVANCE (R389): ADVANCE programs the new life-cycle state, wipes the secure region, appends LIFECYCLE and restarts. -/
  | advance
  /-- PROGRAM_SLOT (R390): PROGRAM_SLOT programs a key digest into an OTP key slot. -/
  | programSlot
  /-- REVOKE_SLOT (R390): REVOKE_SLOT revokes a key slot unless none usable would remain. -/
  | revokeSlot
  /-- RAISE_FLOOR (R390): RAISE_FLOOR raises the OTP SVN floor. -/
  | raiseFloor
  /-- DEBUG_ENABLE (R390): DEBUG_ENABLE enables the debug master in DEPLOYED until cold reset. -/
  | debugEnable
  /-- TAMPER (R391): A TAMPER input goes low and is latched; a record is appended and the secure region may be wiped. -/
  | tamper (k : Fin 2)
  /-- VOLTAGE_GLITCH (R391): A VDD_CORE or VDD_AUX excursion is recorded and the secure region wiped; a start in the boot ROM
  fails. -/
  | voltageGlitch (aux : Bool)
  /-- CLOCK_GLITCH (R391): An MPCLK period out of bounds is recorded and the secure region wiped. -/
  | clockGlitch
  /-- DEBUG_ACCESS (R392): A debug master access is served or denied by life-cycle state, and a denial is counted and raised.
  -/
  | debugAccess (a : Word) (w : Option Word)
  /-- BRIDGE_LOCK_OPEN (R376): BRG_LOCK = 1 gives the locking processor sole use of the data-plane register path. -/
  | bridgeLockOpen (proc : Fin 2)
  /-- BRIDGE_LOCK_CLOSE (R376): BRG_LOCK = 0 closes the locked sequence. -/
  | bridgeLockClose (proc : Fin 2)
  /-- BRIDGE_LOCK_LIMIT (R376): A locked sequence is still open after 400 MPCLK, so the bridge closes it and counts it. -/
  | bridgeLockLimit
  /-- BRIDGE_READ_TIMEOUT (R374): A bridge read has no completion after 64 µs; it receives an error and source 1,533 is
  raised. -/
  | bridgeReadTimeout
  /-- CROSSING_RETRY (R377): A management-side request that lost a crossing is reissued after its drawn wait. -/
  | crossingRetry
  /-- GET_VERSION (R394): The SPDM responder answers GET_VERSION. -/
  | getVersion (t : Transport)
  /-- GET_CAPABILITIES (R394): The SPDM responder answers GET_CAPABILITIES. -/
  | getCapabilities (t : Transport)
  /-- NEGOTIATE_ALGORITHMS (R394): The SPDM responder answers NEGOTIATE_ALGORITHMS. -/
  | negotiateAlgorithms (t : Transport)
  /-- GET_DIGESTS (R394): The SPDM responder returns certificate chain digests. -/
  | getDigests (t : Transport)
  /-- GET_CERTIFICATE (R394): The SPDM responder returns the slot 0 certificate chain. -/
  | getCertificate (t : Transport) (slot : Fin 8) (off : Fin 65536) (len : Fin 65536)
  /-- CHALLENGE (R394): The SPDM responder answers CHALLENGE with an Ed25519-signed response. -/
  | challenge (t : Transport)
  /-- GET_MEASUREMENTS (R393): The SPDM responder returns the SHA-384 measurements, signed. -/
  | getMeasurements (t : Transport) (secured : Bool) (k : Fin 256) (sign : Bool)
  /-- KEY_EXCHANGE (R394): The SPDM responder performs secp384r1 key exchange for a session. -/
  | keyExchange (t : Transport)
  /-- FINISH (R394): The SPDM responder completes session establishment. -/
  | finish (t : Transport)
  /-- HEARTBEAT (R394): The SPDM responder answers HEARTBEAT. -/
  | heartbeat (t : Transport)
  /-- KEY_UPDATE (R394): The SPDM responder updates session keys. -/
  | keyUpdate (t : Transport)
  /-- END_SESSION (R394): The SPDM responder ends a secured session. -/
  | endSession (t : Transport)
  /-- GET_PQ_SIG (R395): A vendor-defined GET_PQ_SIG returns the ML-DSA-65 signature over the last signed response's digest.
  -/
  | getPqSig (t : Transport) (secured : Bool)
  /-- GET_PQ_CHAIN (R395): A vendor-defined GET_PQ_CHAIN returns the ML-DSA-65 certificate chain. -/
  | getPqChain (t : Transport)
  /-- READ_STATUS (R397): The out-of-band READ_STATUS returns the mode, feed, life-cycle and boot status. -/
  | readStatus
  /-- READ_COLOPHON (R397): The out-of-band READ_COLOPHON returns the colophon record selected by BACK. -/
  | readColophon (back : Fin 1024)
  /-- SUBMIT_CSET (R397): The out-of-band SUBMIT_CSET delivers a command set in pieces and applies it. -/
  | submitCset (piece : List Byte) (last : Bool) (ed : Bool) (pq : Bool)
  /-- MODE_REQUEST (R397): The out-of-band MODE_REQUEST acts as GLB_MODE_CTL.REQ within a secured SPDM session. -/
  | modeRequest (secured : Bool) (req : Fin 8)
  /-- READ_LEDGER (R397): The out-of-band READ_LEDGER returns one 64-byte ledger record while the core runs. -/
  | readLedger (r : Fin 256)
  /-- READ_COUNTER (R397): The out-of-band READ_COUNTER returns one event counter value while the core runs. -/
  | readCounter (n : Fin 8192)
  /-- TAP_RESET (R418): TRST_N or Test-Logic-Reset resets the test access port and returns the pins to functional use. -/
  | tapReset
  /-- BYPASS (R418): The TAP instruction BYPASS selects the bypass register. -/
  | bypass
  /-- IDCODE (R418): The TAP IDCODE instruction returns 0x0725_69D3. -/
  | idcode
  /-- SAMPLE_PRELOAD (R418): The TAP SAMPLE/PRELOAD instruction captures and preloads boundary cells. -/
  | samplePreload (cells : List (Pin × Bool))
  /-- EXTEST (R418): The TAP EXTEST instruction drives pins from boundary cells, except the observe-only cells. -/
  | extest
  /-- CLAMP (R418): The TAP CLAMP instruction holds pins at boundary values with bypass selected. -/
  | clamp
  /-- HIGHZ (R418): The TAP HIGHZ instruction places the driven pins in high impedance. -/
  | highz
  /-- EXTEST_PULSE (R418): The IEEE 1149.6 EXTEST_PULSE instruction tests the AC-coupled lanes. -/
  | extestPulse
  /-- EXTEST_TRAIN (R418): The IEEE 1149.6 EXTEST_TRAIN instruction tests the AC-coupled lanes with pulse trains. -/
  | extestTrain
  /-- DBG_SELECT (R418): The vendor TAP instruction DBG_SELECT selects the debug master under R392. -/
  | dbgSelect
  /-- AUX_REFCLK_RESTORED (R408): AUX_REFCLK has run for 1 ms within R412 after a loss, so the reset latch releases and the
  device may leave OFF for AUX. -/
  | auxRefclkRestored (oobSel : Bool)
  /-- VDD_AUX_IN_RANGE (R27): VDD_AUX, with VDD_IO, returns to its range while COLD_RST_N is already high, so OFF goes to AUX
  and a start begins. -/
  | vddAuxInRange (oobSel : Bool)
  /-- FEED_BELOW_WARN (R368): The active feed falls below PWR_FEED_THR.WARN while still good, and PWR_WARN_N is asserted
  within 1 µs with WARNS counted and source 1,523 raised. -/
  | feedBelowWarn
  /-- CURRENT_REACHES_ILIM (R363): A slot channel's current reaches ILIM in RAMP or ON, the gate holds it there and the fault
  timer starts, withdrawing PWRGD within 1 µs if it was asserted since the last MTICK edge. -/
  | currentReachesIlim (k : Fin 16)
  /-- LTSSM_RETURNS_TO_DETECT (R253): While a port is in TRAIN its LTSSM returns to Detect and finds no receiver, so the
  supervisor goes to DETECT without counting a failed training. -/
  | ltssmReturnsToDetect (p : Fin 64)
  /-- CORRECTABLE_LINK_ERROR (R317): A PCI Express or CXL link of a port reports a receiver error, bad TLP, bad DLLP, replay
  timer timeout or REPLAY_NUM rollover, raising source p = 4 and logging AER. -/
  | correctableLinkError (p : Fin 64) (c : LinkCause)
  /-- UNCORRECTABLE_LINK_ERROR (R317): A PCI Express or CXL link of a port reports a data link or flow control protocol error,
  receiver overflow or malformed TLP, raising source p = 6 whose CONTAIN-LINK default retrains the port. -/
  | uncorrectableLinkError (p : Fin 64) (c : LinkCause)
  /-- ENTDAA (R396): On the out-of-band port in I3C mode, the device takes part in ENTDAA and receives its dynamic address. -/
  | entdaa (a : Fin 128)
  /-- SETDASA (R396): On the out-of-band port in I3C mode, SETDASA assigns the dynamic address from MGT_OOB_CTL.ADDR. -/
  | setdasa
  /-- MCTP_CONTROL_MESSAGE (R396): An MCTP control message arriving over the SMBus or I3C binding is answered by the boot ROM
  or Dzicor firmware. -/
  | mctpControlMessage (cmd : Fin 256)
  deriving DecidableEq, Repr

end Sys2Proof
end

