-- ==== Sys2Proof/Decode.lean ====
section
/-!
DEFINITION. Decoding: the rows of the table of operations and events give no bits, so no word spells a command.
-/
namespace Sys2Proof

/-- The command that a word of the table's bits spells: the table gives no row bits. -/
def decodeTableWord (_nbits _w : Nat) : Option Instr := none

end Sys2Proof
end

