-- ==== Sys2Proof/Config.lean ====
section
/-!
DEFINITION. What the spec leaves open: constants without a body, one for each open value. A free value is applied to the
operands it depends on, or to the running number `freeCtr` of the state for a value that is new at every use.
-/
namespace Sys2Proof.Config

/-- The free choice number `n` of a use that the spec leaves open, for draws and choices that are new each time. -/
opaque freeNat : Nat → Nat

/-- The bytes of poisoned data, which the spec gives no value. -/
opaque poisonByte : Nat → Byte

/-- The bytes of a partial CXL.mem write that its byte enables leave out (R94): the spec does not say what they hold. -/
opaque padByte : Nat → Byte

/-- SHA-384 as a number of 384 bits (R379, R393): only its equality with itself is ever used. -/
opaque sha384 : List Byte → Nat

/-- Measurements 1, 3 and 4 of R393, by index and what of the state they measure: the spec does not say which bytes are hashed. -/
opaque measurement : Nat → List Byte → Nat

/-- The bus number that the host of P00 gives its link in ENDPAPER (R59): the endpoint there has no register that holds it. -/
opaque endpaperBus : Nat → Nat

/-- The words of the boot ROM (R372), by address: the spec gives its contents no value. -/
opaque romWord : Nat → Word

/-- The 8-byte CRC of PCI Express 6.x FLIT mode over bytes 0 to 241 of a flit (R213): a published standard that the spec names without
stating it. -/
opaque flitCrc : List Byte → BitVec 64

/-- The 6-byte FEC of PCI Express 6.x FLIT mode over bytes 0 to 249 of a flit (R213): likewise. -/
opaque flitFec : List Byte → BitVec 48

/-- The bits with which a lane's pattern generator starts (R260, R261), by lane and place in the shift register. -/
opaque patternStart : Nat → Nat → Bool

end Sys2Proof.Config
end

