-- ==== Sys2Proof/Machine/Registers.lean ====
section
/-!
DEFINITION. Every register of the management function's BAR0 (R419, R421): where it lies, its quire unit (R45), and its
fields with their access codes (R10), reset values (R17) and reserved encodings (R14).
-/
namespace Sys2Proof.Machine

/-- The access codes of R10. -/
inductive Access where
  | rwq | rwi | ro | rom | wos | rwl
  deriving DecidableEq, Repr

/-- The quire unit of a register (R45): none, one for all, or one per first suffix. -/
inductive UnitOf where
  | none
  | one (unit : Nat)
  | per (first : Nat)
  deriving DecidableEq, Repr

/-- The registers of BAR0, one name for all the places of a repeated register (R421). -/
inductive RegName where
  | glbModeStatus
  | glbModeCtl
  | glbThermStatus
  | spnTimeLo
  | spnTimeHi
  | spnTimeFrac
  | spnStatus
  | spnOffset
  | spnSrcCtl
  | spnExtDelay
  | spnHoldoverLimit
  | spnTimeSetLo
  | spnTimeSetHi
  | spnTimeSetCtl
  | spnBindPending
  | spnCounts
  | spnViewCtl
  | spnAsym
  | spnUnitGroup
  | lncCfg
  | lncTxctl
  | lncTest
  | lncStatus
  | lncStart
  | lncPgen
  | lncUserLo
  | lncUserHi
  | lncTcmd
  | lncPchk
  | lncErrcnt
  | lncBitcntLo
  | lncBitcntHi
  | lncMarginCmd
  | lncMarginStatus
  | plkCtl
  | plkEq
  | plkCmd
  | plkStatus
  | plkErrcnt
  | plkTrainCtl
  | bflCtl
  | bflCmd
  | bflStatus
  | bflErrcnt
  | bflDropcnt
  | bflCrsel
  | bflCrval
  | bflGlbCtl
  | hvhCtl
  | hvhStatus
  | hvhPresentLo
  | hvhPresentHi
  | hvhAttach
  | hvhGlbCtl
  | hvhLock
  | hvhTimerCtl
  | decBaseLo
  | decBaseHi
  | decFirst
  | decFwCtl
  | decUp
  | decEcmpCtl
  | decFenceCtl
  | decGen
  | decFenceStatus
  | decMirrorAge
  | swcRsv0
  | swcRsv1
  | swcRsv2
  | swcLimit
  | swcEgr
  | swcTcmap
  | swcClass
  | swcArb0
  | swcArb1
  | swcOcc
  | swcShocc
  | swcStatus
  | swcShare
  | swcIntClass
  | swcPool
  | swcRsvStatus
  | swcMirrorAge
  | gthStatus
  | gthMark
  | gthTimerCtl
  | gthOcc
  | gthMirrorAge
  | migCStatus
  | migCProgress
  | migCResult
  | migCCopied
  | migCtl
  | migLimit
  | migHeatCtl
  | migHeatBaseLo
  | migHeatBaseHi
  | migHeatStatus
  | migHeatEpoch
  | migWatch
  | fabCtl
  | fabTimer
  | fabReroute
  | fabIdCtl
  | fabStatus
  | fabAnchorLo
  | fabAnchorHi
  | fabCounts
  | fabDiscBaseLo
  | fabDiscBaseHi
  | fabDiscCtl
  | fabDiscIdx
  | fabPCtl
  | cmrSqDb
  | cmrCqDb
  | cmrSqBaseLo
  | cmrSqBaseHi
  | cmrCqBaseLo
  | cmrCqBaseHi
  | cmrCtl
  | cmrStatus
  | cmrErr
  | cmrIdx
  | cmrCounts
  | dmvCtl
  | dmvPool
  | dmvCounts
  | dmvFCtl
  | dmvFAlloc
  | dmvFRate
  | dmvFStatus
  | agdPBaseLo
  | agdPBaseHi
  | agdPLimitLo
  | agdPLimitHi
  | agdFBaseLo
  | agdFBaseHi
  | agdFLimitLo
  | agdFLimitHi
  | agdPCounts
  | agdFCounts
  | agdLastLo
  | agdLastHi
  | agdLastInfo
  | agdHCnt
  | elgSev
  | elgSStatus
  | elgCtl
  | elgSlotOff
  | elgStatus
  | elgCounts
  | elgOpenMap
  | obsCapStat
  | obsCapCons
  | obsCtl
  | obsFlow
  | obsCells
  | obsAloLo
  | obsAloHi
  | obsAhiLo
  | obsAhiHi
  | obsWbaseLo
  | obsWbaseHi
  | obsStat
  | obsDrops
  | pmcCntLo
  | pmcCntHi
  | pmcSel0
  | pmcSel1
  | pmcThrSel
  | pmcThrValLo
  | pmcThrValHi
  | pmcHistSel0
  | pmcHistSel1
  | pmcHistBinLo
  | pmcHistBinHi
  | pmcStatus
  | pmcFreezeNsLo
  | pmcFreezeNsHi
  | pwrSlotCtl
  | pwrSlotCfg
  | pwrSlotLim
  | pwrSlotTherm
  | pwrSlotTau
  | pwrSlotStatus
  | pwrSlotMeas
  | pwrSlotRetry
  | pwrSlotCommon
  | pwrSlotBudget
  | pwrFeedCtl
  | pwrFeedThr
  | pwrFeedStatus
  | pwrMainCtl
  | pwrLock
  | pwrMirrorAge
  | mgtLcStatus
  | mgtBootStatus
  | mgtStartCtl
  | mgtLock
  | mgtFlashCmd
  | mgtFlashStatus
  | mgtColoIdx
  | mgtCsetAddrLo
  | mgtCsetAddrHi
  | mgtCsetCtl
  | mgtCsetStatus
  | mgtCsetNonceLo
  | mgtCsetNonceHi
  | mgtTamperCtl
  | mgtTamperStatus
  | mgtDbgStatus
  | mgtBrgStatus
  | mgtOobCtl
  | mgtFlashBuf
  | mgtColoD
  deriving DecidableEq, Repr

/-- A field: its bits, access code, reset value and reserved encodings (ranges, both ends included). A reserved field
has no encodings to write (R13). -/
structure FieldRow where
  hi : Nat
  lo : Nat
  acc : Access
  reset : Nat
  held : Bool
  bad : List (Nat × Nat)
  deriving DecidableEq, Repr

/-- A register: the offset of its first place, and up to two suffixes, each with a count and a stride. -/
structure RegRow where
  name : RegName
  base : Nat
  n1 : Nat
  s1 : Nat
  n2 : Nat
  s2 : Nat
  unit : UnitOf
  fields : List FieldRow
  deriving DecidableEq, Repr

/-- A field software may write or read. -/
def fr (hi lo : Nat) (acc : Access) (reset : Nat) (bad : List (Nat × Nat)) : FieldRow :=
  ⟨hi, lo, acc, reset, true, bad⟩

/-- A reserved field (R13): it reads zero, and a write to it is ignored. -/
def rz (hi lo : Nat) (acc : Access) : FieldRow := ⟨hi, lo, acc, 0, false, []⟩

/-- The GLB window (R419, R421; fields of R29, R30, R416). -/
def regsGlb : List RegRow := [
  ⟨.glbModeStatus, 0x40, 1, 0x4, 1, 0x4, .none,
    [fr 31 24 .ro 0x0 [], fr 23 16 .ro 0x0 [], rz 15 12 .ro, fr 11 9 .ro 0x0 [], fr 8 8 .ro 0x0 [], rz 7 6 .ro,
     fr 5 3 .ro 0x0 [], fr 2 0 .ro 0x1 []]⟩,
  ⟨.glbModeCtl, 0x44, 1, 0x4, 1, 0x4, .none,
    [rz 31 4 .wos, fr 3 0 .wos 0x0 [(5, 15)]]⟩,
  ⟨.glbThermStatus, 0x80, 1, 0x4, 1, 0x4, .none,
    [fr 31 24 .ro 0x0 [], fr 23 16 .ro 0x0 [], rz 15 1 .ro, fr 0 0 .ro 0x0 []]⟩]

/-- The SPN window (R419, R421; fields of R36, R37, R39, R42, R44, R46, R47, R53, R54). -/
def regsSpn : List RegRow := [
  ⟨.spnTimeLo, 0x100000, 1, 0x4, 1, 0x4, .none,
    [fr 31 0 .ro 0x0 []]⟩,
  ⟨.spnTimeHi, 0x100004, 1, 0x4, 1, 0x4, .none,
    [fr 31 0 .ro 0x0 []]⟩,
  ⟨.spnTimeFrac, 0x100008, 1, 0x4, 1, 0x4, .none,
    [rz 31 16 .ro, fr 15 0 .ro 0x0 []]⟩,
  ⟨.spnStatus, 0x100010, 1, 0x4, 1, 0x4, .none,
    [rz 31 20 .ro, fr 19 16 .ro 0x0 [], rz 15 12 .ro, fr 11 10 .ro 0x0 [], fr 9 9 .ro 0x0 [], fr 8 8 .ro 0x0 [],
     rz 7 3 .ro, fr 2 0 .ro 0x0 []]⟩,
  ⟨.spnOffset, 0x100014, 1, 0x4, 1, 0x4, .none,
    [fr 31 0 .ro 0x0 []]⟩,
  ⟨.spnSrcCtl, 0x100020, 1, 0x4, 1, 0x4, .none,
    [rz 31 3 .rwi, fr 2 2 .rwi 0x1 [], fr 1 1 .rwi 0x0 [], fr 0 0 .rwi 0x0 []]⟩,
  ⟨.spnExtDelay, 0x100024, 1, 0x4, 1, 0x4, .none,
    [rz 31 16 .rwi, fr 15 0 .rwi 0x0 []]⟩,
  ⟨.spnHoldoverLimit, 0x100028, 1, 0x4, 1, 0x4, .none,
    [rz 31 16 .rwi, fr 15 0 .rwi 0x640 []]⟩,
  ⟨.spnTimeSetLo, 0x100030, 1, 0x4, 1, 0x4, .none,
    [fr 31 0 .rwi 0x0 []]⟩,
  ⟨.spnTimeSetHi, 0x100034, 1, 0x4, 1, 0x4, .none,
    [fr 31 0 .rwi 0x0 []]⟩,
  ⟨.spnTimeSetCtl, 0x100038, 1, 0x4, 1, 0x4, .none,
    [rz 31 2 .wos, fr 1 0 .wos 0x0 [(3, 3)]]⟩,
  ⟨.spnBindPending, 0x100040, 1, 0x4, 1, 0x4, .none,
    [fr 31 0 .ro 0x0 []]⟩,
  ⟨.spnCounts, 0x100044, 1, 0x4, 1, 0x4, .none,
    [fr 31 24 .ro 0x0 [], fr 23 16 .ro 0x0 [], fr 15 8 .ro 0x0 [], fr 7 0 .ro 0x0 []]⟩,
  ⟨.spnViewCtl, 0x100048, 1, 0x4, 1, 0x4, .none,
    [rz 31 2 .rwi, fr 1 1 .rwi 0x0 [], fr 0 0 .rwi 0x0 []]⟩,
  ⟨.spnAsym, 0x100100, 64, 0x4, 1, 0x4, .none,
    [rz 31 16 .rwi, fr 15 0 .rwi 0x0 []]⟩,
  ⟨.spnUnitGroup, 0x100200, 47, 0x4, 1, 0x4, .none,
    [rz 31 29 .rwi, fr 28 24 .rwi 0x0 [], rz 23 21 .rwi, fr 20 16 .rwi 0x0 [], rz 15 13 .rwi, fr 12 8 .rwi 0x0 [],
     rz 7 5 .rwi, fr 4 0 .rwi 0x0 []]⟩]

/-- The LNC window (R419, R421; fields of R241, R243, R251, R252, R259, R260, R262). -/
def regsLnc : List RegRow := [
  ⟨.lncCfg, 0x200000, 16, 0x100, 1, 0x4, (.per 107),
    [fr 31 31 .rwq 0x0 [], rz 30 30 .rwq, fr 29 28 .rwq 0x0 [(3, 3)], fr 27 24 .rwq 0x0 [], fr 23 18 .rwq 0x0 [],
     fr 17 12 .rwq 0x0 [], fr 11 6 .rwq 0x0 [], fr 5 0 .rwq 0x0 []]⟩,
  ⟨.lncTxctl, 0x200004, 16, 0x100, 1, 0x4, (.per 107),
    [rz 31 2 .rwq, fr 1 0 .rwq 0x1 []]⟩,
  ⟨.lncTest, 0x200008, 16, 0x100, 1, 0x4, (.per 107),
    [rz 31 12 .rwq, fr 11 8 .rwq 0x6 [(11, 15)], rz 7 6 .rwq, fr 5 4 .rwq 0x0 [(3, 3)], rz 3 3 .rwq,
     fr 2 0 .rwq 0x0 [(6, 7)]]⟩,
  ⟨.lncStatus, 0x20000c, 16, 0x100, 1, 0x4, .none,
    [rz 31 3 .ro, fr 2 2 .ro 0x0 [], fr 1 1 .ro 0x0 [], fr 0 0 .ro 0x0 []]⟩,
  ⟨.lncStart, 0x20f000, 1, 0x4, 1, 0x4, .none,
    [fr 31 24 .ro 0x0 [], rz 23 2 .ro, fr 1 1 .ro 0x0 [], fr 0 0 .wos 0x0 []]⟩,
  ⟨.lncPgen, 0x210000, 256, 0x40, 1, 0x4, .none,
    [rz 31 15 .rwi, fr 14 10 .rwi 0x0 [], fr 9 9 .rwi 0x0 [], fr 8 8 .rwi 0x0 [], fr 7 7 .rwi 0x0 [], rz 6 4 .rwi,
     fr 3 0 .rwi 0x0 [(8, 15)]]⟩,
  ⟨.lncUserLo, 0x210004, 256, 0x40, 1, 0x4, .none,
    [fr 31 0 .rwi 0x0 []]⟩,
  ⟨.lncUserHi, 0x210008, 256, 0x40, 1, 0x4, .none,
    [fr 31 0 .rwi 0x0 []]⟩,
  ⟨.lncTcmd, 0x21000c, 256, 0x40, 1, 0x4, .none,
    [rz 31 2 .wos, fr 1 1 .wos 0x0 [], fr 0 0 .wos 0x0 []]⟩,
  ⟨.lncPchk, 0x210010, 256, 0x40, 1, 0x4, .none,
    [fr 31 24 .ro 0x0 [], rz 23 2 .ro, fr 1 1 .ro 0x0 [], fr 0 0 .ro 0x0 []]⟩,
  ⟨.lncErrcnt, 0x210014, 256, 0x40, 1, 0x4, .none,
    [fr 31 0 .ro 0x0 []]⟩,
  ⟨.lncBitcntLo, 0x210018, 256, 0x40, 1, 0x4, .none,
    [fr 31 0 .ro 0x0 []]⟩,
  ⟨.lncBitcntHi, 0x21001c, 256, 0x40, 1, 0x4, .none,
    [fr 31 0 .ro 0x0 []]⟩,
  ⟨.lncMarginCmd, 0x210020, 256, 0x40, 1, 0x4, .none,
    [fr 31 30 .rwi 0x0 [(3, 3)], fr 29 29 .rwi 0x0 [], fr 28 22 .rwi 0x0 [], rz 21 16 .rwi,
     fr 15 8 .rwi 0x1 [(0, 0)], fr 7 0 .rwi 0x0 []]⟩,
  ⟨.lncMarginStatus, 0x210024, 256, 0x40, 1, 0x4, .none,
    [fr 31 16 .ro 0x0 [], rz 15 3 .ro, fr 2 0 .ro 0x0 []]⟩]

/-- The PLK window (R419, R421; fields of R246, R255, R262). -/
def regsPlk : List RegRow := [
  ⟨.plkCtl, 0x300000, 64, 0x100, 1, 0x4, (.per 123),
    [fr 31 29 .rwq 0x0 [(5, 7)], fr 28 26 .rwq 0x5 [(6, 6), (7, 7)], fr 25 25 .rwq 0x1 [], fr 24 24 .rwq 0x0 [],
     fr 23 23 .rwq 0x0 [], fr 22 22 .rwq 0x0 [], fr 21 21 .rwq 0x0 [], fr 20 20 .rwq 0x0 [],
     fr 19 18 .rwq 0x0 [(3, 3)], fr 17 17 .rwq 0x0 [], rz 16 0 .rwq]⟩,
  ⟨.plkEq, 0x300004, 64, 0x100, 1, 0x4, (.per 123),
    [rz 31 16 .rwq, fr 15 12 .rwq 0x6 [(11, 15)], fr 11 8 .rwq 0x7 [(11, 15)], fr 7 4 .rwq 0x7 [(11, 15)],
     fr 3 0 .rwq 0x7 [(11, 15)]]⟩,
  ⟨.plkCmd, 0x300008, 64, 0x100, 1, 0x4, .none,
    [rz 31 1 .wos, fr 0 0 .wos 0x0 []]⟩,
  ⟨.plkStatus, 0x30000c, 64, 0x100, 1, 0x4, .none,
    [rz 31 28 .ro, fr 27 25 .ro 0x0 [], fr 24 22 .ro 0x0 [], fr 21 17 .ro 0x0 [], fr 16 12 .ro 0x0 [],
     fr 11 11 .ro 0x0 [], fr 10 10 .ro 0x0 [], fr 9 9 .ro 0x0 [], fr 8 8 .ro 0x0 [], fr 7 7 .ro 0x0 [],
     fr 6 6 .ro 0x0 [], fr 5 5 .ro 0x0 [], fr 4 4 .ro 0x0 [], fr 3 3 .ro 0x0 [], fr 2 2 .ro 0x0 [], rz 1 0 .ro]⟩,
  ⟨.plkErrcnt, 0x300010, 64, 0x100, 1, 0x4, .none,
    [fr 31 24 .ro 0x0 [], fr 23 16 .ro 0x0 [], fr 15 8 .ro 0x0 [], fr 7 0 .ro 0x0 []]⟩,
  ⟨.plkTrainCtl, 0x304000, 1, 0x4, 1, 0x4, .none,
    [rz 31 16 .rwi, fr 15 8 .rwi 0x14 [(0, 0)], rz 7 4 .rwi, fr 3 0 .rwi 0x3 [(0, 0)]]⟩]

/-- The BFL window (R419, R421; fields of R240). -/
def regsBfl : List RegRow := [
  ⟨.bflCtl, 0x400000, 64, 0x100, 1, 0x4, (.one 187),
    [fr 31 31 .rwq 0x0 [], rz 30 28 .rwq, fr 27 24 .rwq 0x4 [(0, 0)], fr 23 16 .rwq 0x8 [(0, 0)],
     fr 15 8 .rwq 0x8 [(0, 0)], rz 7 0 .rwq]⟩,
  ⟨.bflCmd, 0x400004, 64, 0x100, 1, 0x4, .none,
    [rz 31 1 .wos, fr 0 0 .wos 0x0 []]⟩,
  ⟨.bflStatus, 0x400008, 64, 0x100, 1, 0x4, .none,
    [fr 31 20 .ro 0x0 [], fr 19 19 .ro 0x0 [], fr 18 18 .ro 0x0 [], fr 17 17 .ro 0x0 [], fr 16 6 .ro 0x0 [],
     rz 5 3 .ro, fr 2 0 .ro 0x0 []]⟩,
  ⟨.bflErrcnt, 0x40000c, 64, 0x100, 1, 0x4, .none,
    [fr 31 24 .ro 0x0 [], fr 23 16 .ro 0x0 [], fr 15 8 .ro 0x0 [], fr 7 0 .ro 0x0 []]⟩,
  ⟨.bflDropcnt, 0x400010, 64, 0x100, 1, 0x4, .none,
    [fr 31 24 .ro 0x0 [], fr 23 16 .ro 0x0 [], fr 15 8 .ro 0x0 [], fr 7 0 .ro 0x0 []]⟩,
  ⟨.bflCrsel, 0x400014, 64, 0x100, 1, 0x4, .none,
    [rz 31 7 .rwi, fr 6 6 .rwi 0x0 [], fr 5 0 .rwi 0x0 [(49, 63)]]⟩,
  ⟨.bflCrval, 0x400018, 64, 0x100, 1, 0x4, .none,
    [fr 31 16 .ro 0x0 [], fr 15 0 .ro 0x0 []]⟩,
  ⟨.bflGlbCtl, 0x404000, 1, 0x4, 1, 0x4, (.one 187),
    [rz 31 16 .rwq, fr 15 8 .rwq 0x8 [(0, 0)], fr 7 0 .rwq 0x20 [(0, 3)]]⟩]

/-- The HVH window (R419, R421; fields of R60, R61). -/
def regsHvh : List RegRow := [
  ⟨.hvhCtl, 0x500000, 48, 0x4000, 1, 0x4, (.per 0),
    [fr 31 31 .rwq 0x0 [], fr 30 25 .rwq 0x0 [], fr 24 24 .rwq 0x0 [], fr 23 23 .rwq 0x0 [], rz 22 22 .rwq,
     fr 21 19 .rwq 0x3 [(5, 7)], fr 18 16 .rwq 0x0 [], rz 15 0 .rwq]⟩,
  ⟨.hvhStatus, 0x500004, 48, 0x4000, 1, 0x4, .none,
    [rz 31 5 .ro, fr 4 4 .ro 0x0 [], fr 3 3 .ro 0x0 [], fr 2 2 .ro 0x0 [], fr 1 1 .ro 0x0 [], fr 0 0 .ro 0x0 []]⟩,
  ⟨.hvhPresentLo, 0x500008, 48, 0x4000, 1, 0x4, .none,
    [fr 31 0 .ro 0x0 []]⟩,
  ⟨.hvhPresentHi, 0x50000c, 48, 0x4000, 1, 0x4, .none,
    [fr 31 0 .ro 0x0 []]⟩,
  ⟨.hvhAttach, 0x500100, 48, 0x4000, 64, 0x4, (.per 0),
    [fr 31 31 .rwq 0x0 [], fr 30 28 .rwq 0x0 [(5, 7)], fr 27 27 .rwq 0x0 [], rz 26 17 .rwq, fr 16 16 .rwq 0x0 [],
     fr 15 12 .rwq 0x0 [], fr 11 0 .rwq 0x0 []]⟩,
  ⟨.hvhGlbCtl, 0x5c0000, 1, 0x4, 1, 0x4, .none,
    [rz 31 14 .rwl, fr 13 8 .rwl 0x3f [(48, 62)], rz 7 6 .rwl, fr 5 0 .rwl 0x3f [(48, 62)]]⟩,
  ⟨.hvhLock, 0x5c0004, 1, 0x4, 1, 0x4, .none,
    [rz 31 1 .rwl, fr 0 0 .rwl 0x0 []]⟩,
  ⟨.hvhTimerCtl, 0x5c0008, 1, 0x4, 1, 0x4, .none,
    [rz 31 16 .rwi, fr 15 12 .rwi 0x4 [(0, 0)], rz 11 11 .rwi, fr 10 8 .rwi 0x3 [], rz 7 7 .rwi,
     fr 6 4 .rwi 0x1 [(5, 7)], rz 3 3 .rwi, fr 2 0 .rwi 0x2 [(5, 7)]]⟩]

/-- The DEC window (R419, R421; fields of R54, R89, R104, R108). -/
def regsDec : List RegRow := [
  ⟨.decBaseLo, 0x600000, 48, 0x1000, 16, 0x10, (.per 48),
    [fr 31 28 .rwq 0x0 [], rz 27 0 .rwq]⟩,
  ⟨.decBaseHi, 0x600004, 48, 0x1000, 16, 0x10, (.per 48),
    [fr 31 0 .rwq 0x0 []]⟩,
  ⟨.decFirst, 0x600008, 48, 0x1000, 16, 0x10, (.per 48),
    [rz 31 19 .rwq, fr 18 0 .rwq 0x0 []]⟩,
  ⟨.decFwCtl, 0x60000c, 48, 0x1000, 16, 0x10, (.per 48),
    [fr 31 31 .rwq 0x0 [], rz 30 20 .rwq, fr 19 0 .rwq 0x0 [(524289, 1048575)]]⟩,
  ⟨.decUp, 0x630000, 64, 0x40, 16, 0x4, (.one 96),
    [rz 31 14 .rwq, fr 13 12 .rwq 0x0 [(3, 3)], fr 11 0 .rwq 0x0 []]⟩,
  ⟨.decEcmpCtl, 0x631000, 1, 0x4, 1, 0x4, (.one 96),
    [rz 31 9 .rwq, fr 8 0 .rwq 0x0 []]⟩,
  ⟨.decFenceCtl, 0x631004, 1, 0x4, 1, 0x4, .none,
    [rz 31 8 .rwi, fr 7 0 .rwi 0x10 [(0, 0)]]⟩,
  ⟨.decGen, 0x631008, 1, 0x4, 1, 0x4, .none,
    [fr 31 0 .ro 0x0 []]⟩,
  ⟨.decFenceStatus, 0x63100c, 1, 0x4, 1, 0x4, .none,
    [rz 31 28 .rom, fr 27 24 .rom 0x0 [], fr 23 20 .rom 0x0 [], fr 19 0 .rom 0x0 []]⟩,
  ⟨.decMirrorAge, 0x6ffffc, 1, 0x4, 1, 0x4, .none,
    [fr 31 24 .ro 0x0 [], rz 23 20 .ro, fr 19 0 .ro 0xfffff []]⟩]

/-- The SWC window (R419, R421; fields of R54, R135). -/
def regsSwc : List RegRow := [
  ⟨.swcRsv0, 0x700000, 64, 0x400, 1, 0x4, (.one 97),
    [fr 31 16 .rwq 0x80 [], fr 15 0 .rwq 0x280 []]⟩,
  ⟨.swcRsv1, 0x700004, 64, 0x400, 1, 0x4, (.one 97),
    [fr 31 16 .rwq 0x140 [], fr 15 0 .rwq 0x280 []]⟩,
  ⟨.swcRsv2, 0x700008, 64, 0x400, 1, 0x4, (.one 97),
    [fr 31 16 .rwq 0x40 [], fr 15 0 .rwq 0x100 []]⟩,
  ⟨.swcLimit, 0x70000c, 64, 0x400, 1, 0x4, (.one 97),
    [fr 31 20 .rwq 0x400 [(0, 0), (2049, 4095)], fr 19 0 .rwq 0x10000 []]⟩,
  ⟨.swcEgr, 0x700010, 64, 0x400, 1, 0x4, (.one 97),
    [fr 31 31 .rwq 0x0 [], rz 30 20 .rwq, fr 19 0 .rwq 0x20000 []]⟩,
  ⟨.swcTcmap, 0x700014, 64, 0x400, 1, 0x4, (.one 97),
    [rz 31 24 .rwq, fr 23 0 .rwq 0xfac688 []]⟩,
  ⟨.swcClass, 0x700018, 64, 0x400, 1, 0x4, (.one 97),
    [rz 31 9 .rwq, fr 8 6 .rwq 0x0 [], fr 5 0 .rwq 0x0 []]⟩,
  ⟨.swcArb0, 0x700020, 64, 0x400, 1, 0x4, (.one 97),
    [fr 31 31 .rwq 0x0 [], fr 30 24 .rwq 0x10 [], fr 23 23 .rwq 0x0 [], fr 22 16 .rwq 0x10 [], fr 15 15 .rwq 0x0 [],
     fr 14 8 .rwq 0x10 [], fr 7 7 .rwq 0x0 [], fr 6 0 .rwq 0x10 []]⟩,
  ⟨.swcArb1, 0x700024, 64, 0x400, 1, 0x4, (.one 97),
    [fr 31 31 .rwq 0x0 [], fr 30 24 .rwq 0x10 [], fr 23 23 .rwq 0x0 [], fr 22 16 .rwq 0x10 [], fr 15 15 .rwq 0x0 [],
     fr 14 8 .rwq 0x10 [], fr 7 7 .rwq 0x0 [], fr 6 0 .rwq 0x10 []]⟩,
  ⟨.swcOcc, 0x700100, 64, 0x400, 1, 0x4, .none,
    [rz 31 20 .rom, fr 19 0 .rom 0x0 []]⟩,
  ⟨.swcShocc, 0x700104, 64, 0x400, 1, 0x4, .none,
    [rz 31 20 .rom, fr 19 0 .rom 0x0 []]⟩,
  ⟨.swcStatus, 0x700108, 64, 0x400, 1, 0x4, .none,
    [rz 31 2 .ro, fr 1 1 .ro 0x0 [], fr 0 0 .ro 0x0 []]⟩,
  ⟨.swcShare, 0x710000, 64, 0x4, 1, 0x4, (.one 97),
    [rz 31 8 .rwq, fr 7 0 .rwq 0x10 []]⟩,
  ⟨.swcIntClass, 0x710100, 1, 0x4, 1, 0x4, (.one 97),
    [rz 31 9 .rwq, fr 8 6 .rwq 0x0 [], fr 5 0 .rwq 0x3f []]⟩,
  ⟨.swcPool, 0x710104, 1, 0x4, 1, 0x4, .none,
    [rz 31 20 .rom, fr 19 0 .rom 0x0 []]⟩,
  ⟨.swcRsvStatus, 0x710108, 1, 0x4, 1, 0x4, .none,
    [rz 31 1 .ro, fr 0 0 .ro 0x0 []]⟩,
  ⟨.swcMirrorAge, 0x7ffffc, 1, 0x4, 1, 0x4, .none,
    [fr 31 24 .ro 0x0 [], rz 23 20 .ro, fr 19 0 .ro 0xfffff []]⟩]

/-- The GTH window (R419, R421; fields of R54, R163). -/
def regsGth : List RegRow := [
  ⟨.gthStatus, 0x800000, 4096, 0x8, 1, 0x4, .none,
    [fr 31 24 .ro 0x0 [], fr 23 16 .ro 0x0 [], rz 15 10 .ro, fr 9 8 .ro 0x3 [], fr 7 6 .ro 0x0 [], fr 5 4 .ro 0x0 [],
     fr 3 2 .ro 0x0 [], fr 1 0 .ro 0x0 []]⟩,
  ⟨.gthMark, 0x800004, 4096, 0x8, 1, 0x4, .none,
    [rz 31 20 .ro, fr 19 0 .ro 0x0 []]⟩,
  ⟨.gthTimerCtl, 0x808000, 1, 0x4, 1, 0x4, (.one 98),
    [rz 31 11 .rwq, fr 10 8 .rwq 0x2 [(5, 7)], rz 7 3 .rwq, fr 2 0 .rwq 0x1 [(5, 7)]]⟩,
  ⟨.gthOcc, 0x808004, 1, 0x4, 1, 0x4, .none,
    [rz 31 20 .rom, fr 19 0 .rom 0x0 []]⟩,
  ⟨.gthMirrorAge, 0x8ffffc, 1, 0x4, 1, 0x4, .none,
    [fr 31 24 .ro 0x0 [], rz 23 20 .ro, fr 19 0 .ro 0xfffff []]⟩]

/-- The MIG window (R419, R421; fields of R185). -/
def regsMig : List RegRow := [
  ⟨.migCStatus, 0x900000, 64, 0x10, 1, 0x4, .none,
    [rz 31 27 .ro, fr 26 24 .ro 0x0 [], fr 23 23 .ro 0x0 [], rz 22 19 .ro, fr 18 0 .ro 0x0 []]⟩,
  ⟨.migCProgress, 0x900004, 64, 0x10, 1, 0x4, .none,
    [fr 31 24 .ro 0x0 [], rz 23 17 .ro, fr 16 0 .ro 0x0 []]⟩,
  ⟨.migCResult, 0x900008, 64, 0x10, 1, 0x4, .none,
    [fr 31 24 .ro 0x0 [], fr 23 16 .ro 0x0 [], rz 15 4 .ro, fr 3 0 .ro 0x0 []]⟩,
  ⟨.migCCopied, 0x90000c, 64, 0x10, 1, 0x4, .none,
    [fr 31 0 .ro 0x0 []]⟩,
  ⟨.migCtl, 0x901000, 1, 0x4, 1, 0x4, (.one 99),
    [fr 31 24 .rwq 0x10 [(0, 0)], rz 23 20 .rwq, fr 19 16 .rwq 0x8 [(0, 0), (9, 15)], fr 15 12 .rwq 0x4 [(0, 0)],
     fr 11 0 .rwq 0x8 [(0, 0)]]⟩,
  ⟨.migLimit, 0x901004, 1, 0x4, 1, 0x4, (.one 99),
    [rz 31 28 .rwq, fr 27 16 .rwq 0x400 [(0, 63), (2049, 4095)], rz 15 8 .rwq, fr 7 0 .rwq 0x40 [(0, 0), (129, 255)]]⟩,
  ⟨.migHeatCtl, 0x901010, 1, 0x4, 1, 0x4, (.one 99),
    [fr 31 31 .rwq 0x0 [], rz 30 26 .rwq, fr 25 20 .rwq 0x0 [(48, 63)], rz 19 16 .rwq, fr 15 0 .rwq 0x3e8 [(0, 9)]]⟩,
  ⟨.migHeatBaseLo, 0x901014, 1, 0x4, 1, 0x4, (.one 99),
    [fr 31 25 .rwq 0x0 [], rz 24 0 .rwq]⟩,
  ⟨.migHeatBaseHi, 0x901018, 1, 0x4, 1, 0x4, (.one 99),
    [fr 31 0 .rwq 0x0 []]⟩,
  ⟨.migHeatStatus, 0x90101c, 1, 0x4, 1, 0x4, .none,
    [fr 31 24 .ro 0x0 [], fr 23 16 .ro 0x0 [], rz 15 2 .ro, fr 1 1 .ro 0x0 [], fr 0 0 .ro 0x0 []]⟩,
  ⟨.migHeatEpoch, 0x901020, 1, 0x4, 1, 0x4, .none,
    [fr 31 0 .ro 0x0 []]⟩,
  ⟨.migWatch, 0x904000, 4096, 0x4, 1, 0x4, (.one 99),
    [fr 31 31 .rwq 0x0 [], rz 30 19 .rwq, fr 18 0 .rwq 0x0 []]⟩]

/-- The FAB window (R419, R421; fields of R212). -/
def regsFab : List RegRow := [
  ⟨.fabCtl, 0xa00000, 1, 0x4, 1, 0x4, .none,
    [rz 31 17 .rwi, fr 16 16 .rwi 0x1 [], rz 15 12 .rwi, fr 11 8 .rwi 0x6 [(0, 0), (9, 15)], fr 7 0 .rwi 0x80 []]⟩,
  ⟨.fabTimer, 0xa00004, 1, 0x4, 1, 0x4, .none,
    [fr 31 24 .rwi 0x20 [(0, 0)], fr 23 16 .rwi 0x10 [(0, 0)], fr 15 12 .rwi 0x4 [(0, 0), (1, 1)],
     fr 11 8 .rwi 0x4 [(9, 15)], fr 7 0 .rwi 0x64 []]⟩,
  ⟨.fabReroute, 0xa00008, 1, 0x4, 1, 0x4, (.one 100),
    [rz 31 8 .rwq, fr 7 0 .rwq 0x10 []]⟩,
  ⟨.fabIdCtl, 0xa0000c, 1, 0x4, 1, 0x4, (.one 100),
    [fr 31 31 .rwq 0x0 [], fr 30 30 .rwq 0x0 [], rz 29 12 .rwq, fr 11 0 .rwq 0x0 []]⟩,
  ⟨.fabStatus, 0xa00010, 1, 0x4, 1, 0x4, .none,
    [fr 31 16 .ro 0x0 [], rz 15 14 .ro, fr 13 8 .ro 0x0 [], fr 7 7 .ro 0x0 [], rz 6 4 .ro, fr 3 3 .ro 0x0 [],
     fr 2 0 .ro 0x0 []]⟩,
  ⟨.fabAnchorLo, 0xa00014, 1, 0x4, 1, 0x4, .none,
    [fr 31 0 .ro 0x0 []]⟩,
  ⟨.fabAnchorHi, 0xa00018, 1, 0x4, 1, 0x4, .none,
    [fr 31 0 .ro 0x0 []]⟩,
  ⟨.fabCounts, 0xa0001c, 1, 0x4, 1, 0x4, .none,
    [fr 31 24 .ro 0x0 [], fr 23 16 .ro 0x0 [], fr 15 8 .ro 0x0 [], fr 7 0 .ro 0x0 []]⟩,
  ⟨.fabDiscBaseLo, 0xa00020, 1, 0x4, 1, 0x4, .none,
    [fr 31 12 .rwi 0x0 [], rz 11 0 .rwi]⟩,
  ⟨.fabDiscBaseHi, 0xa00024, 1, 0x4, 1, 0x4, .none,
    [fr 31 0 .rwi 0x0 []]⟩,
  ⟨.fabDiscCtl, 0xa00028, 1, 0x4, 1, 0x4, .none,
    [fr 31 31 .rwi 0x0 [], rz 30 20 .rwi, fr 19 16 .rwi 0x0 [(7, 15)], rz 15 7 .rwi, fr 6 0 .rwi 0x0 []]⟩,
  ⟨.fabDiscIdx, 0xa0002c, 1, 0x4, 1, 0x4, .none,
    [fr 31 16 .rwi 0x0 [], fr 15 0 .ro 0x0 []]⟩,
  ⟨.fabPCtl, 0xa00100, 64, 0x4, 1, 0x4, (.one 100),
    [fr 31 31 .rwq 0x1 [], rz 30 13 .rwq, fr 12 12 .rwq 0x0 [], fr 11 0 .rwq 0x0 []]⟩]

/-- The CMR window (R419, R421; fields of R279). -/
def regsCmr : List RegRow := [
  ⟨.cmrSqDb, 0xb00000, 64, 0x1000, 1, 0x4, .none,
    [rz 31 16 .wos, fr 15 0 .wos 0x0 []]⟩,
  ⟨.cmrCqDb, 0xb00004, 64, 0x1000, 1, 0x4, .none,
    [rz 31 16 .wos, fr 15 0 .wos 0x0 []]⟩,
  ⟨.cmrSqBaseLo, 0xb40000, 64, 0x40, 1, 0x4, .none,
    [fr 31 12 .rwi 0x0 [], rz 11 0 .rwi]⟩,
  ⟨.cmrSqBaseHi, 0xb40004, 64, 0x40, 1, 0x4, .none,
    [fr 31 0 .rwi 0x0 []]⟩,
  ⟨.cmrCqBaseLo, 0xb40008, 64, 0x40, 1, 0x4, .none,
    [fr 31 12 .rwi 0x0 [], rz 11 0 .rwi]⟩,
  ⟨.cmrCqBaseHi, 0xb4000c, 64, 0x40, 1, 0x4, .none,
    [fr 31 0 .rwi 0x0 []]⟩,
  ⟨.cmrCtl, 0xb40010, 64, 0x40, 1, 0x4, .none,
    [fr 31 31 .rwi 0x0 [], fr 30 30 .rwi 0x0 [], fr 29 29 .rwi 0x0 [], fr 28 23 .rwi 0x0 [(48, 63)],
     fr 22 19 .rwi 0x0 [(9, 15)], fr 18 18 .rwi 0x0 [], rz 17 7 .rwi, fr 6 0 .rwi 0x0 []]⟩,
  ⟨.cmrStatus, 0xb40014, 64, 0x40, 1, 0x4, .none,
    [rz 31 28 .ro, fr 27 24 .ro 0x0 [], rz 23 23 .ro, fr 22 16 .ro 0x0 [], fr 15 0 .ro 0x0 []]⟩,
  ⟨.cmrErr, 0xb40018, 64, 0x40, 1, 0x4, .none,
    [rz 31 24 .ro, fr 23 16 .ro 0x0 [], fr 15 0 .ro 0x0 []]⟩,
  ⟨.cmrIdx, 0xb4001c, 64, 0x40, 1, 0x4, .none,
    [fr 31 16 .ro 0x0 [], fr 15 0 .ro 0x0 []]⟩,
  ⟨.cmrCounts, 0xb50000, 1, 0x4, 1, 0x4, .none,
    [fr 31 24 .ro 0x0 [], fr 23 16 .ro 0x0 [], fr 15 8 .ro 0x0 [], rz 7 0 .ro]⟩]

/-- The DMV window (R419, R421; fields of R304). -/
def regsDmv : List RegRow := [
  ⟨.dmvCtl, 0xc00000, 1, 0x4, 1, 0x4, (.one 103),
    [fr 31 24 .rwq 0xa0 [(0, 0), (161, 255)], fr 23 16 .rwq 0x10 [(0, 0)], rz 15 1 .rwq, fr 0 0 .rwq 0x0 []]⟩,
  ⟨.dmvPool, 0xc00004, 1, 0x4, 1, 0x4, .none,
    [rz 31 31 .ro, fr 30 16 .ro 0x7fc0 [], rz 15 15 .ro, fr 14 0 .ro 0x4000 []]⟩,
  ⟨.dmvCounts, 0xc00008, 1, 0x4, 1, 0x4, .none,
    [fr 31 24 .ro 0x0 [], fr 23 16 .ro 0x0 [], fr 15 8 .ro 0x0 [], fr 7 0 .ro 0x0 []]⟩,
  ⟨.dmvFCtl, 0xc10000, 2048, 0x10, 1, 0x4, (.one 103),
    [fr 31 31 .rwq 0x0 [], rz 30 0 .rwq]⟩,
  ⟨.dmvFAlloc, 0xc10004, 2048, 0x10, 1, 0x4, (.one 103),
    [fr 31 25 .rwq 0x1 [(65, 127)], fr 24 18 .rwq 0x1 [(65, 127)], fr 17 9 .rwq 0x1 [(0, 0), (257, 511)],
     fr 8 0 .rwq 0x1 [(0, 0), (257, 511)]]⟩,
  ⟨.dmvFRate, 0xc10008, 2048, 0x10, 1, 0x4, (.one 103),
    [fr 31 24 .rwq 0x10 [(0, 0)], rz 23 9 .rwq, fr 8 0 .rwq 0x0 [(321, 511)]]⟩,
  ⟨.dmvFStatus, 0xc1000c, 2048, 0x10, 1, 0x4, .none,
    [fr 31 29 .ro 0x0 [], fr 28 28 .ro 0x0 [], fr 27 22 .ro 0x3f [], rz 21 21 .ro, fr 20 14 .ro 0x0 [], rz 13 9 .ro,
     fr 8 0 .ro 0x0 []]⟩]

/-- The AGD window (R419, R421; fields of R309, R313, R314). -/
def regsAgd : List RegRow := [
  ⟨.agdPBaseLo, 0xd00000, 64, 0x80, 8, 0x10, (.one 101),
    [fr 31 12 .rwq 0x0 [], fr 11 10 .rwq 0x0 [(3, 3)], fr 9 9 .rwq 0x0 [], fr 8 8 .rwq 0x0 [], rz 7 1 .rwq,
     fr 0 0 .rwq 0x0 []]⟩,
  ⟨.agdPBaseHi, 0xd00004, 64, 0x80, 8, 0x10, (.one 101),
    [fr 31 0 .rwq 0x0 []]⟩,
  ⟨.agdPLimitLo, 0xd00008, 64, 0x80, 8, 0x10, (.one 101),
    [fr 31 12 .rwq 0x0 [], rz 11 0 .rwq]⟩,
  ⟨.agdPLimitHi, 0xd0000c, 64, 0x80, 8, 0x10, (.one 101),
    [fr 31 0 .rwq 0x0 []]⟩,
  ⟨.agdFBaseLo, 0xd10000, 2048, 0x80, 8, 0x10, (.one 102),
    [fr 31 12 .rwq 0x0 [], fr 11 10 .rwq 0x0 [(3, 3)], fr 9 9 .rwq 0x0 [], fr 8 8 .rwq 0x0 [], rz 7 1 .rwq,
     fr 0 0 .rwq 0x0 []]⟩,
  ⟨.agdFBaseHi, 0xd10004, 2048, 0x80, 8, 0x10, (.one 102),
    [fr 31 0 .rwq 0x0 []]⟩,
  ⟨.agdFLimitLo, 0xd10008, 2048, 0x80, 8, 0x10, (.one 102),
    [fr 31 12 .rwq 0x0 [], rz 11 0 .rwq]⟩,
  ⟨.agdFLimitHi, 0xd1000c, 2048, 0x80, 8, 0x10, (.one 102),
    [fr 31 0 .rwq 0x0 []]⟩,
  ⟨.agdPCounts, 0xd04000, 64, 0x4, 1, 0x4, .none,
    [fr 31 16 .ro 0x0 [], fr 15 0 .ro 0x0 []]⟩,
  ⟨.agdFCounts, 0xd60000, 2048, 0x4, 1, 0x4, .none,
    [fr 31 16 .ro 0x0 [], fr 15 0 .ro 0x0 []]⟩,
  ⟨.agdLastLo, 0xd80000, 1, 0x4, 1, 0x4, .none,
    [fr 31 0 .ro 0x0 []]⟩,
  ⟨.agdLastHi, 0xd80004, 1, 0x4, 1, 0x4, .none,
    [fr 31 0 .ro 0x0 []]⟩,
  ⟨.agdLastInfo, 0xd80008, 1, 0x4, 1, 0x4, .none,
    [fr 31 24 .ro 0x0 [], fr 23 22 .ro 0x0 [], fr 21 21 .ro 0x0 [], fr 20 19 .ro 0x0 [], rz 18 12 .ro,
     fr 11 0 .ro 0x0 []]⟩,
  ⟨.agdHCnt, 0xd80100, 48, 0x4, 1, 0x4, .none,
    [fr 31 31 .rwi 0x0 [], rz 30 30 .rwi, fr 29 16 .rwi 0x0 [], rz 15 13 .rwi, fr 12 0 .rwi 0x0 []]⟩]

/-- The ELG window (R419, R421; fields of R333). -/
def regsElg : List RegRow := [
  ⟨.elgSev, 0xe00000, 1536, 0x4, 1, 0x4, (.one 104),
    [rz 31 3 .rwq, fr 2 0 .rwq 0x0 []]⟩,
  ⟨.elgSStatus, 0xe02000, 1536, 0x4, 1, 0x4, .none,
    [fr 31 16 .ro 0x0 [], rz 15 1 .ro, fr 0 0 .ro 0x0 []]⟩,
  ⟨.elgCtl, 0xe04000, 1, 0x4, 1, 0x4, .none,
    [fr 31 31 .rwi 0x0 [], rz 30 11 .rwi, fr 10 8 .rwi 0x3 [(0, 0), (1, 1)], rz 7 7 .rwi, fr 6 0 .rwi 0x0 []]⟩,
  ⟨.elgSlotOff, 0xe04004, 1, 0x4, 1, 0x4, (.one 104),
    [rz 31 16 .rwq, fr 15 0 .rwq 0x0 []]⟩,
  ⟨.elgStatus, 0xe04008, 1, 0x4, 1, 0x4, .none,
    [fr 31 16 .ro 0x0 [], rz 15 9 .ro, fr 8 0 .ro 0x0 []]⟩,
  ⟨.elgCounts, 0xe0400c, 1, 0x4, 1, 0x4, .none,
    [fr 31 24 .ro 0x0 [], fr 23 16 .ro 0x0 [], fr 15 8 .ro 0x0 [], fr 7 0 .ro 0x0 []]⟩,
  ⟨.elgOpenMap, 0xe04010, 8, 0x4, 1, 0x4, .none,
    [fr 31 0 .ro 0x0 []]⟩]

/-- The OBS window (R419, R421; fields of R353). -/
def regsObs : List RegRow := [
  ⟨.obsCapStat, 0xf00000, 64, 0x10, 1, 0x4, .none,
    [fr 31 31 .ro 0x0 [], rz 30 16 .ro, fr 15 0 .ro 0x0 []]⟩,
  ⟨.obsCapCons, 0xf00004, 64, 0x10, 1, 0x4, .none,
    [rz 31 16 .rwi, fr 15 0 .rwi 0x0 []]⟩,
  ⟨.obsCtl, 0xf10000, 4, 0x40, 1, 0x4, (.one 105),
    [fr 31 31 .rwq 0x0 [], fr 30 28 .rwq 0x0 [(3, 7)], fr 27 26 .rwq 0x3 [(0, 0)], fr 25 25 .rwq 0x0 [],
     fr 24 22 .rwq 0x0 [], fr 21 16 .rwq 0x0 [], fr 15 10 .rwq 0x0 [], fr 9 5 .rwq 0x0 [(21, 31)], rz 4 0 .rwq]⟩,
  ⟨.obsFlow, 0xf10004, 4, 0x40, 1, 0x4, (.one 105),
    [fr 31 16 .rwq 0x0 [], fr 15 0 .rwq 0x0 []]⟩,
  ⟨.obsCells, 0xf10008, 4, 0x40, 1, 0x4, (.one 105),
    [fr 31 24 .rwq 0xff [], rz 23 20 .rwq, fr 19 0 .rwq 0x8000 []]⟩,
  ⟨.obsAloLo, 0xf1000c, 4, 0x40, 1, 0x4, (.one 105),
    [fr 31 0 .rwq 0x0 []]⟩,
  ⟨.obsAloHi, 0xf10010, 4, 0x40, 1, 0x4, (.one 105),
    [fr 31 0 .rwq 0x0 []]⟩,
  ⟨.obsAhiLo, 0xf10014, 4, 0x40, 1, 0x4, (.one 105),
    [fr 31 0 .rwq 0x0 []]⟩,
  ⟨.obsAhiHi, 0xf10018, 4, 0x40, 1, 0x4, (.one 105),
    [fr 31 0 .rwq 0x0 []]⟩,
  ⟨.obsWbaseLo, 0xf1001c, 4, 0x40, 1, 0x4, (.one 105),
    [fr 31 9 .rwq 0x0 [], rz 8 0 .rwq]⟩,
  ⟨.obsWbaseHi, 0xf10020, 4, 0x40, 1, 0x4, (.one 105),
    [fr 31 0 .rwq 0x0 []]⟩,
  ⟨.obsStat, 0xf10024, 4, 0x40, 1, 0x4, .none,
    [fr 31 0 .ro 0x0 []]⟩,
  ⟨.obsDrops, 0xf10028, 4, 0x40, 1, 0x4, .none,
    [fr 31 0 .ro 0x0 []]⟩]

/-- The PMC window (R419, R421; fields of R354). -/
def regsPmc : List RegRow := [
  ⟨.pmcCntLo, 0x1000000, 8192, 0x8, 1, 0x4, .none,
    [fr 31 0 .ro 0x0 []]⟩,
  ⟨.pmcCntHi, 0x1000004, 8192, 0x8, 1, 0x4, .none,
    [fr 31 0 .ro 0x0 []]⟩,
  ⟨.pmcSel0, 0x1010000, 4096, 0x8, 1, 0x4, (.one 106),
    [fr 31 28 .rwq 0x0 [(4, 15)], fr 27 22 .rwq 0x0 [], fr 21 21 .rwq 0x1 [], fr 20 15 .rwq 0x0 [],
     fr 14 14 .rwq 0x1 [], fr 13 6 .rwq 0xff [], fr 5 0 .rwq 0x3f []]⟩,
  ⟨.pmcSel1, 0x1010004, 4096, 0x8, 1, 0x4, (.one 106),
    [fr 31 16 .rwq 0x0 [], fr 15 0 .rwq 0x0 []]⟩,
  ⟨.pmcThrSel, 0x1020000, 512, 0x10, 1, 0x4, (.one 106),
    [fr 31 28 .rwq 0x0 [(11, 15)], fr 27 22 .rwq 0x0 [], rz 21 20 .rwq, fr 19 0 .rwq 0x0 []]⟩,
  ⟨.pmcThrValLo, 0x1020004, 512, 0x10, 1, 0x4, .none,
    [fr 31 0 .ro 0x0 []]⟩,
  ⟨.pmcThrValHi, 0x1020008, 512, 0x10, 1, 0x4, .none,
    [fr 31 0 .ro 0x0 []]⟩,
  ⟨.pmcHistSel0, 0x1030000, 256, 0x8, 1, 0x4, (.one 106),
    [fr 31 28 .rwq 0x0 [(7, 15)], fr 27 22 .rwq 0x0 [], fr 21 21 .rwq 0x1 [], fr 20 15 .rwq 0x0 [],
     fr 14 14 .rwq 0x1 [], fr 13 6 .rwq 0xff [], rz 5 0 .rwq]⟩,
  ⟨.pmcHistSel1, 0x1030004, 256, 0x8, 1, 0x4, (.one 106),
    [rz 31 12 .rwq, fr 11 0 .rwq 0x0 []]⟩,
  ⟨.pmcHistBinLo, 0x1040000, 256, 0x100, 32, 0x8, .none,
    [fr 31 0 .ro 0x0 []]⟩,
  ⟨.pmcHistBinHi, 0x1040004, 256, 0x100, 32, 0x8, .none,
    [fr 31 0 .ro 0x0 []]⟩,
  ⟨.pmcStatus, 0x1050000, 1, 0x4, 1, 0x4, .none,
    [fr 31 31 .ro 0x0 [], rz 30 7 .ro, fr 6 0 .ro 0x0 []]⟩,
  ⟨.pmcFreezeNsLo, 0x1050004, 1, 0x4, 1, 0x4, .none,
    [fr 31 0 .ro 0x0 []]⟩,
  ⟨.pmcFreezeNsHi, 0x1050008, 1, 0x4, 1, 0x4, .none,
    [fr 31 0 .ro 0x0 []]⟩]

/-- The PWR window (R419, R421; fields of R54, R371). -/
def regsPwr : List RegRow := [
  ⟨.pwrSlotCtl, 0x1100000, 16, 0x40, 1, 0x4, .none,
    [fr 31 31 .rwi 0x0 [], fr 30 30 .wos 0x0 [], rz 29 0 .rwi]⟩,
  ⟨.pwrSlotCfg, 0x1100004, 16, 0x40, 1, 0x4, .none,
    [fr 31 26 .rwl 0x0 [], fr 25 25 .rwl 0x0 [], rz 24 16 .rwl, fr 15 8 .rwl 0x32 [(0, 0)],
     fr 7 0 .rwl 0x4b [(0, 0), (76, 255)]]⟩,
  ⟨.pwrSlotLim, 0x1100008, 16, 0x40, 1, 0x4, .none,
    [fr 31 24 .rwl 0x41 [(0, 4), (81, 255)], fr 23 16 .rwl 0x10 [(0, 0)], fr 15 8 .rwl 0x40 [(0, 7), (65, 255)],
     fr 7 0 .rwl 0x19 [(0, 0)]]⟩,
  ⟨.pwrSlotTherm, 0x110000c, 16, 0x40, 1, 0x4, .none,
    [fr 31 24 .rwl 0x50 [(0, 0)], fr 23 16 .rwl 0x8 [(0, 0)], fr 15 8 .rwl 0x96 [], fr 7 0 .rwl 0x6e []]⟩,
  ⟨.pwrSlotTau, 0x1100010, 16, 0x40, 1, 0x4, .none,
    [fr 31 16 .rwl 0x14 [(0, 0)], fr 15 0 .rwl 0x44b5 [(0, 0)]]⟩,
  ⟨.pwrSlotStatus, 0x1100014, 16, 0x40, 1, 0x4, .none,
    [fr 31 28 .rom 0x0 [], fr 27 24 .rom 0x0 [], fr 23 20 .rom 0x0 [], fr 19 19 .rom 0x0 [], fr 18 18 .rom 0x0 [],
     fr 17 17 .rom 0x1 [], fr 16 16 .rom 0x0 [], fr 15 8 .rom 0x0 [], fr 7 0 .rom 0x0 []]⟩,
  ⟨.pwrSlotMeas, 0x1100018, 16, 0x40, 1, 0x4, .none,
    [fr 31 16 .rom 0x0 [], fr 15 8 .rom 0x0 [], fr 7 0 .rom 0x0 []]⟩,
  ⟨.pwrSlotRetry, 0x1100400, 1, 0x4, 1, 0x4, .none,
    [fr 31 28 .rwi 0x3 [], rz 27 24 .rwi, fr 23 16 .rwi 0xa [(0, 0)], fr 15 8 .rwi 0xa [], fr 7 0 .rwi 0x50 [(0, 0)]]⟩,
  ⟨.pwrSlotCommon, 0x1100404, 1, 0x4, 1, 0x4, .none,
    [fr 31 24 .rwl 0x6c [], fr 23 16 .rwl 0x70 [], rz 15 0 .rwl]⟩,
  ⟨.pwrSlotBudget, 0x1100408, 1, 0x4, 1, 0x4, .none,
    [fr 31 24 .rwi 0x95 [], rz 23 16 .rwi, fr 15 0 .rwi 0x4b0 []]⟩,
  ⟨.pwrFeedCtl, 0x1100800, 1, 0x4, 1, 0x4, .none,
    [fr 31 31 .rwi 0x0 [], fr 30 30 .rwi 0x1 [], rz 29 24 .rwi, fr 23 16 .rwi 0xa [(0, 0)],
     fr 15 8 .rwi 0x4 [(0, 0), (1, 1)], fr 7 0 .rwi 0xa [(0, 0)]]⟩,
  ⟨.pwrFeedThr, 0x1100804, 1, 0x4, 1, 0x4, .none,
    [fr 31 24 .rwl 0x6c [], fr 23 16 .rwl 0x84 [], fr 15 8 .rwl 0x71 [], fr 7 0 .rwl 0xa []]⟩,
  ⟨.pwrFeedStatus, 0x1100808, 1, 0x4, 1, 0x4, .none,
    [fr 31 24 .rom 0x0 [], fr 23 16 .rom 0x0 [], rz 15 8 .rom, fr 7 6 .rom 0x0 [], fr 5 5 .rom 0x0 [],
     fr 4 4 .rom 0x0 [], fr 3 3 .rom 0x0 [], fr 2 2 .rom 0x0 [], fr 1 0 .rom 0x0 []]⟩,
  ⟨.pwrMainCtl, 0x1100c00, 1, 0x4, 1, 0x4, .none,
    [rz 31 1 .rwi, fr 0 0 .rwi 0x0 []]⟩,
  ⟨.pwrLock, 0x1100c04, 1, 0x4, 1, 0x4, .none,
    [rz 31 1 .rwl, fr 0 0 .rwl 0x0 []]⟩,
  ⟨.pwrMirrorAge, 0x11ffffc, 1, 0x4, 1, 0x4, .none,
    [fr 31 24 .ro 0x0 [], rz 23 20 .ro, fr 19 0 .ro 0xfffff []]⟩]

/-- The MGT window (R419, R421; fields of R399). -/
def regsMgt : List RegRow := [
  ⟨.mgtLcStatus, 0x1200000, 1, 0x4, 1, 0x4, .none,
    [fr 31 24 .ro 0x0 [], rz 23 16 .ro, fr 15 12 .ro 0x0 [], fr 11 8 .ro 0x0 [], rz 7 5 .ro, fr 4 4 .ro 0x0 [],
     rz 3 3 .ro, fr 2 0 .ro 0x0 []]⟩,
  ⟨.mgtBootStatus, 0x1200004, 1, 0x4, 1, 0x4, .none,
    [rz 31 16 .ro, fr 15 13 .ro 0x0 [], fr 12 12 .ro 0x0 [], fr 11 11 .ro 0x0 [], fr 10 10 .ro 0x0 [],
     fr 9 8 .ro 0x2 [], fr 7 0 .ro 0x0 []]⟩,
  ⟨.mgtStartCtl, 0x1200008, 1, 0x4, 1, 0x4, .none,
    [rz 31 4 .wos, fr 3 0 .wos 0x0 [(6, 15)]]⟩,
  ⟨.mgtLock, 0x120000c, 1, 0x4, 1, 0x4, .none,
    [rz 31 1 .rwl, fr 0 0 .rwl 0x0 []]⟩,
  ⟨.mgtFlashCmd, 0x1200010, 1, 0x4, 1, 0x4, .none,
    [fr 31 28 .wos 0x0 [(4, 15)], rz 27 24 .wos, fr 23 0 .wos 0x0 []]⟩,
  ⟨.mgtFlashStatus, 0x1200014, 1, 0x4, 1, 0x4, .none,
    [fr 31 24 .ro 0x0 [], rz 23 2 .ro, fr 1 1 .ro 0x0 [], fr 0 0 .ro 0x0 []]⟩,
  ⟨.mgtColoIdx, 0x1200020, 1, 0x4, 1, 0x4, .none,
    [fr 31 31 .ro 0x0 [], rz 30 10 .rwi, fr 9 0 .rwi 0x0 []]⟩,
  ⟨.mgtCsetAddrLo, 0x1200030, 1, 0x4, 1, 0x4, .none,
    [fr 31 0 .rwi 0x0 []]⟩,
  ⟨.mgtCsetAddrHi, 0x1200034, 1, 0x4, 1, 0x4, .none,
    [fr 31 0 .rwi 0x0 []]⟩,
  ⟨.mgtCsetCtl, 0x1200038, 1, 0x4, 1, 0x4, .none,
    [fr 31 31 .wos 0x0 [], rz 30 13 .wos, fr 12 0 .wos 0x0 []]⟩,
  ⟨.mgtCsetStatus, 0x120003c, 1, 0x4, 1, 0x4, .none,
    [fr 31 24 .ro 0x0 [], rz 23 8 .ro, fr 7 4 .ro 0x0 [], rz 3 1 .ro, fr 0 0 .ro 0x0 []]⟩,
  ⟨.mgtCsetNonceLo, 0x1200040, 1, 0x4, 1, 0x4, .none,
    [fr 31 0 .ro 0x0 []]⟩,
  ⟨.mgtCsetNonceHi, 0x1200044, 1, 0x4, 1, 0x4, .none,
    [fr 31 0 .ro 0x0 []]⟩,
  ⟨.mgtTamperCtl, 0x1200050, 1, 0x4, 1, 0x4, .none,
    [rz 31 4 .rwl, fr 3 2 .rwl 0x1 [(2, 3)], fr 1 0 .rwl 0x1 [(2, 3)]]⟩,
  ⟨.mgtTamperStatus, 0x1200054, 1, 0x4, 1, 0x4, .none,
    [fr 31 24 .ro 0x0 [], fr 23 16 .ro 0x0 [], rz 15 5 .ro, fr 4 4 .ro 0x0 [], fr 3 3 .ro 0x0 [], fr 2 2 .ro 0x0 [],
     fr 1 1 .ro 0x0 [], fr 0 0 .ro 0x0 []]⟩,
  ⟨.mgtDbgStatus, 0x1200058, 1, 0x4, 1, 0x4, .none,
    [fr 31 16 .ro 0x0 [], rz 15 2 .ro, fr 1 1 .ro 0x0 [], fr 0 0 .ro 0x0 []]⟩,
  ⟨.mgtBrgStatus, 0x120005c, 1, 0x4, 1, 0x4, .none,
    [fr 31 16 .ro 0x0 [], fr 15 8 .ro 0x0 [], rz 7 6 .ro, fr 5 0 .ro 0x0 []]⟩,
  ⟨.mgtOobCtl, 0x1200060, 1, 0x4, 1, 0x4, .none,
    [rz 31 9 .rwl, fr 8 8 .rwl 0x0 [], rz 7 7 .rwl, fr 6 0 .rwl 0x62 [(0, 7), (120, 127)]]⟩,
  ⟨.mgtFlashBuf, 0x1200100, 64, 0x4, 1, 0x4, .none,
    [fr 31 0 .rwi 0x0 []]⟩,
  ⟨.mgtColoD, 0x1200200, 16, 0x4, 1, 0x4, .none,
    [fr 31 0 .ro 0x0 []]⟩]

/-- The rows of one 1 MiB window of BAR0 (R419). -/
def windowRows : Nat → List RegRow
  | 0 => regsGlb
  | 1 => regsSpn
  | 2 => regsLnc
  | 3 => regsPlk
  | 4 => regsBfl
  | 5 => regsHvh
  | 6 => regsDec
  | 7 => regsSwc
  | 8 => regsGth
  | 9 => regsMig
  | 10 => regsFab
  | 11 => regsCmr
  | 12 => regsDmv
  | 13 => regsAgd
  | 14 => regsElg
  | 15 => regsObs
  | 16 => regsPmc
  | 17 => regsPwr
  | 18 => regsMgt
  | _ => []

/-- A register found at a BAR0 offset: its row and its suffixes. -/
structure Place where
  row : RegRow
  i : Nat
  j : Nat
  off : Nat
  deriving DecidableEq, Repr

/-- The suffixes under which an offset is a place of a row. -/
def rowHit (r : RegRow) (off : Nat) : Option Place :=
  if off < r.base then none
  else
    let d := off - r.base
    let i := if r.n1 = 1 then 0 else d / r.s1
    let e := d - i * r.s1
    let j := if r.n2 = 1 then 0 else e / r.s2
    if i < r.n1 ∧ j < r.n2 ∧ e = j * r.s2 then some ⟨r, i, j, off⟩ else none

/-- The first row of a list that holds an offset. -/
def findRow : List RegRow → Nat → Option Place
  | [], _ => none
  | r :: rs, off => match rowHit r off with | some p => some p | none => findRow rs off

/-- The register at a BAR0 offset, if R421 names one there. -/
def locate (off : Nat) : Option Place := findRow (windowRows (off / 0x100000)) off

/-- The unit that holds the RWQ fields of a place (R45). -/
def placeUnit (p : Place) : Option Nat :=
  match p.row.unit with
  | .none => none
  | .one u => some u
  | .per b => some (b + p.i)

/-- The reset word spelt by the fields' reset values. -/
def fieldsReset : List FieldRow → Nat
  | [] => 0
  | f :: fs => place f.reset f.hi f.lo + fieldsReset fs

/-- The reset value of a register's word (R17). Two registers have reset values that differ from place to place: the
port numbers of LNC_Sss_CFG (R241) and the severities of ELG_Snnnn_SEV (R333). -/
def placeReset (p : Place) : Word :=
  match p.row.name with
  | .lncCfg => BitVec.ofNat 32 (place (4 * p.i + 3) 23 18 + place (4 * p.i + 2) 17 12 + place (4 * p.i + 1) 11 6 + place (4 * p.i) 5 0)
  | .elgSev => BitVec.ofNat 32 (sevCode (sourceDefault p.i))
  | _ => BitVec.ofNat 32 (fieldsReset p.row.fields)

/-- The reset value of the word at a BAR0 offset. -/
def offReset (off : Nat) : Word := match locate off with | some p => placeReset p | none => 0

end Sys2Proof.Machine
end

