-- ==== Sys2Proof/Machine/State.lean ====
section
/-!
DEFINITION. The device's state: every register, table, queue, counter, mode and pin the spec gives it, the commands that
wait, and the state after reset. Plain data only.
-/
namespace Sys2Proof.Machine

/-- What the device gives to the outside: pins, interrupts, packets and messages, the oldest first. -/
inductive Output where
  /-- the management processors are interrupted (R330, R26) -/
  | mpInterrupt (record : Nat)
  /-- a hot reset is transmitted on a port (R74) -/
  | hotReset (port : Nat)
  /-- a packet leaves on a port (R98, R121) -/
  | tx (port : Nat) (t : Tlp) (ld : Option Nat) (srcFid : Nat) (dstFid : Option Nat) (tc : Nat)
  /-- a host, device or analysis port tells its partner, per credit type, the total it has given (R113, R114) -/
  | credits (port : Nat) (given : List Nat)
  /-- a transmission on a port is nullified or tail-marked (R125) -/
  | nullified (port : Nat)
  /-- a posted write on the management local bus (R263) -/
  | localWrite (addr : Nat) (data : List Byte)
  /-- the value that a register read answers, or nothing: Unsupported Request or an error response -/
  | value (v : Option Nat)
  /-- a sequenced Brodoth flit leaves, with the link slot it is sent with (R216) -/
  | flit (port : Nat) (f : SeqFlit) (ls : LinkSlot)
  /-- an IDLE flit leaves for its link slot (R231, R234) -/
  | idle (port seq : Nat) (ls : LinkSlot)
  /-- a LINK flit leaves, with its SEQ and link slot (R214, R222) -/
  | link (port seq : Nat) (m : LinkMsg) (ls : LinkSlot)
  /-- a port begins to train, with what it offers (R247, R248) -/
  | offer (port : Nat) (x : TrainOffer)
  /-- an SPDM response on a transport (R394) -/
  | spdm (t : Transport) (r : SpdmRsp)
  /-- the answer to an out-of-band command (R397) -/
  | oob (r : OobRsp)
  /-- an MCTP control message is answered, by the boot ROM or by firmware (R396) -/
  | mctp (command : Nat) (bootRom : Bool)
  /-- what the test access port shifts out (R418) -/
  | tdo (v : Nat)
  /-- the device receives its dynamic I3C address (R396) -/
  | i3c (address : Nat)
  /-- a ring on the management local bus interrupts the management processors (R266) -/
  | mpRing (ring : Nat)
  /-- a transmitted bit of a lane's generator is inverted (R262) -/
  | inverted (lane : Nat)
  /-- a processor takes an error response on the local bus as an access fault (R372) -/
  | accessFault (proc : Fin 2)
  /-- a lane of a test-owned stack sends something else from now on (R260, R261) -/
  | lane (lane : Nat) (x : LaneOut)
  deriving DecidableEq, Repr

/-- Consequences of a step that are still to be carried out within it. -/
inductive Action where
  /-- a record was opened (R326, R327) -/
  | opened (rec : Nat) (info : RaiseInfo)
  /-- a raise merged into a LINK record, which resets the link again (R327) -/
  | linkMerge (port : Nat)
  /-- a link-down event of a port (R131, R253): flush, hierarchy reset, full link reset -/
  | linkDown (port : Nat)
  /-- a port came UP with its data link layer, or Brodoth's physical layer, running (R253) -/
  | linkUp (port : Nat)
  /-- the ports that may run, and what hierarchies present, are to be looked at again (R242, R255, R62, R63) -/
  | recheck
  /-- the rest of a hierarchy reset (R73 steps 2, 3, 5): prefetched data, locks, bookmarks, rings, records -/
  | hierReset (h port : Nat) (full : Bool)
  /-- a function-level reset of a data mover function (R74, R302) -/
  | dmvFlr (fn : Nat)
  /-- the device sends a packet of its own toward the host of a hierarchy -/
  | sendUp (h f : Nat) (t : Tlp)
  /-- something came of a bookmark's request: its member's part, its line (R424), and the egress tag that ended -/
  | bmResult (b : Nat) (member : Option Nat) (line : Nat) (r : BmResult)
  /-- a copy entered an egress queue: counters, captures and mirrors may take note (R335, R339, R345) -/
  | enqueued (port : Nat) (pkt : Packet) (typ : OrdType)
  /-- requests held at ingress are looked at again (R24, R80, R128) -/
  | retryHeld
  /-- a RESYNC member moved to LOST: its resynchronisation ends (R159, R177) -/
  | resyncLost (g m : Nat)
  /-- an access to a BAR of function f of a hierarchy (order 1 of R88; R71, R28) -/
  | bar (h f bar off : Nat) (rx : Rx)
  /-- an access to the page of a data mover function (order 2 of R88; R283) -/
  | dmvBar (fn off : Nat) (rx : Rx)
  /-- a Brodoth packet of a port is dropped for its TTL, or an FMP is (R220, R240) -/
  | bflDiscard (port : Nat)
  /-- a completion or CXL.mem response at stage 4 (R424) -/
  | response (rx : Rx)
  /-- a configuration request, message or snoop at stage 4 (R87) -/
  | control (rx : Rx)
  /-- Bus Master Enable of a management endpoint, a bridge or a data mover function changed (R72, R278, R299) -/
  | busMaster (h f : Nat) (on : Bool)
  /-- a configuration request to a data mover function (R281, R282) -/
  | dmvCfg (h fn : Nat) (rx : Rx)
  /-- a write of a lane margining control word of a bridge (R258) -/
  | marginCap (h f lane : Nat) (w : Word)
  /-- a latency of R352 was measured: measure, CCLK, ingress port (64: none), egress port, class, number -/
  | measured (m lat pi pe tc inst : Nat)
  /-- a packet leaves on a fabric port: the Brodoth link carries it (R217, R227) -/
  | bflSend (port : Nat) (t : Tlp) (ld : Option Nat) (srcFid : Nat) (dstFid : Option Nat) (tc ttl : Nat)
  /-- a folio entry's check found an error beyond correction (R95, R177) -/
  | entryFailed (i : Nat)
  /-- a write to a migrating folio has settled, or a pass began: the settle of a context is looked at (R169) -/
  | migCheck (ctx : Nat)
  /-- a command ends with a status and result (R266, R270) -/
  | cmdDone (o : Origin) (status result : Nat)
  /-- fences of waiting commands are looked at (R99 to R102, R162) -/
  | fenceCheck
  /-- something happened that may end a heat report (R184) -/
  | heatCheck
  /-- spine time was stepped, forward or back (R50, R181, R348) -/
  | timeStepped (forward : Bool)
  /-- a binding fired: the units that changed, and whether it is the first binding of the start (R48, R97, R187) -/
  | bound (units : List Nat) (first : Bool)
  /-- the first binding of the start completed (R27, R34, R381) -/
  | firstBound
  /-- the time reference selected may have changed (R41) -/
  | reselect
  /-- a packet is tail-marked after `got` payload bytes on a fabric port (R123, R125, R219) -/
  | bflTail (port : Nat) (t : Tlp) (ld : Option Nat) (srcFid : Nat) (dstFid : Option Nat) (tc ttl got : Nat)
  /-- a remote command, or one ring command of the device itself, is to be taken (R204, R268) -/
  | takeCmd (o : Origin) (q : List Quad)
  /-- a CMD_RSP came for a command sent: channel status and completion (R203, R205) -/
  | cmdRsp (seq : Nat) (status : Nat) (cpl : List Quad)
  /-- a packet of a fabric port is whole (R219) -/
  | arrive (rx : Rx)
  /-- a packet of a fabric port was tail-marked (R127, R219); `rx` is what came of it -/
  | tailMarked (rx : Rx)
  /-- a port begins a full link reset (R239) -/
  | bflReset (port : Nat)
  /-- the election is to be looked at again (R198) -/
  | elect
  /-- an FMP was received on a port (R190) -/
  | fmp (port : Nat) (f : Fmp)
  /-- a Brodoth link became ACTIVE (R224) -/
  | bflActive (port : Nat)
  /-- a valid TIME_RSP came in (R38, R237): t1 to t4, HOPS_STATE -/
  | timeRsp (port t1 t2 t3 t4 hops : Nat)
  /-- a record is appended to the colophon: EVENT, CAUSE and SOURCE (R387, R388); MODE and the rest are read from the state -/
  | colophon (event cause source : Nat)
  /-- a packet reached stage 4 at a port; what it enqueued has numbers from n on (R336) -/
  | observed (rx : Rx) (n : Nat)
  /-- a request of a data mover function of a hierarchy went through stage 4 (R336, R338); packets from number `n` on came of it -/
  | observedFn (hier : Nat) (tlp : Tlp) (n : Nat)
  /-- a copy enters the egress link layer of a port (R336); whether it was found bad -/
  | leaves (port : Nat) (pkt : Packet) (e : QEntry) (bad : Bool)
  /-- an answer to a request of the data mover (R297): function, ring, number of the request -/
  | dmvCpl (fn ring key : Nat) (t : Tlp)
  /-- an access of the data mover to a BAR (R289, order 1 of R88): function, ring and number of the request; hierarchy, function, first word and offset of the BAR -/
  | dmvReg (fn ring key h f bar off : Nat) (t : Tlp)
  deriving DecidableEq, Repr

/-- The device's state. -/
structure State where
  glb : Glb
  spine : Spine
  regs : Regs
  ledger : Ledger
  path : DataPath
  mig : Mig
  links : Links
  agd : Agd
  hiers : Tbl HierState
  dmv : Dmv
  fabric : Fabric
  rings : Rings
  obs : Obs
  power : Power
  mgmt : Mgmt
  /-- the live event counters of R341 -/
  counts : Tbl Nat
  raises : List RaiseInfo
  actions : List Action
  outbox : List Output
  pending : List Instr
  /-- the model's own field: how many free values have been drawn -/
  freeCtr : Nat
  deriving DecidableEq, Repr

/-- Why a step stops. No command of this device stops; the constructor is raised by nobody, which is safe. -/
inductive Fault where
  /-- raised by nobody: safe -/
  | never
  deriving DecidableEq, Repr

/-- Why a step is refused. -/
inductive Refusal where
  /-- raised by a row that has no meaning yet: safe, the model stops where the device would go on -/
  | notModelled (mnemonic : String)
  deriving DecidableEq, Repr

/-! ### Reset -/

/-- The latch sets before any read (R36). -/
def latch0 : LatchSet := ⟨0, 0, 0, 0⟩

/-- Spine time before the core runs: zero, one CCLK being 0.625 ns (R35, R40). -/
def spine0 : Spine :=
  { t40 := 0, inc := 687194767360, servo := .free, yAcc := 0, theta := 0, ref := .none, goodRun := 0, badRun := 0, holdTicks := 0,
    holdExpired := false, ppsSeen := false, extClk := false, ppsLost := false, ppsTheta := none, missed := 0, measured := false, latchMf := latch0,
    latchFw := latch0, loadAtPps := none, refusedCount := 0, parityHold := 0, unqual := 0, late := 0, cclk := 0, ticks := 0 }

/-- Registers at their reset values, no binding pending, no mirror refreshed yet (R17, R54). -/
def regs0 : Regs :=
  { active := [], shadow := [], direct := [], old := [], mirror := [], binds := [], gateQueue := [], badActive := [], badShadow := [],
    badDirect := [], latActive := [], latShadow := [], latDirect := [], mirDec := ⟨0, false⟩, mirSwc := ⟨0, false⟩, mirGth := ⟨0, false⟩, mirPwr := ⟨0, false⟩, lockHvh := false,
    lockPwr := false, lockMgt := false }

/-- A ledger without records. -/
def ledger0 : Ledger := ⟨[], [], 0, 0, 0, 0, 0, 0⟩

/-- Tables at generation 0, every bookmark and cell free (R97, R113, R23). -/
def path0 : DataPath :=
  { packets := [], nextPkt := 0, nextAge := 0, queues := [], swPorts := [], bookmarks := [], heldRx := [], heldOut := [], prefetch := [],
    streams := [], folio := [], route := [], gather := [], failFolio := [], failRoute := [], failGather := [], gcounts := [], gen := 0, genAt := none,
    slots := ⟨true, 0⟩ :: List.replicate 15 ⟨false, 0⟩, slotAt := 0, fences := [], arrivals := 0, overcommit := false, windowConflict := [],
    routeChanged := [] }

/-- No migration, no heat counted. -/
def migs0 : Mig := ⟨[], ⟨false, bank0, bank0, false, 0, 0, 0, 0, 0, 0, []⟩, [], []⟩

/-- Stacks, ports and lanes that have done nothing. -/
def links0 : Links := ⟨[], [], [], false, 0⟩

/-- An access guard that refused nothing. -/
def agd0 : Agd := ⟨[], [], 0, 0, 0, false, 0, 0⟩

/-- Command rings all disabled. -/
def rings0 : Rings := ⟨[], [], false, none, [], 0, 0, 0, 0⟩

/-- Modes right after a cold reset (R27, R29): AUX, with OFF before it, the boot ROM about to begin. -/
def glb0 : Glb :=
  { mode := .aux, prevMode := .off, transitions := 0, refused := 0, quiesceCause := 0, enteredFrom := .standalone, coldRstHigh := true,
    vddAuxOk := true, auxRefclkOk := true, coreUp := false, bindAccepted := false, firstBound := false, firstFired := false, malformed := 0, serial := 0 }

/-- The device right after reset (R17, R27): mode AUX, the core off, the fuses and the flash as manufactured. -/
def State.reset : State :=
  { glb := glb0, spine := spine0, regs := regs0, ledger := ledger0, path := path0, mig := migs0, links := links0, agd := agd0, hiers := [],
    dmv := dmv0, fabric := fabric0, rings := rings0, obs := obs0, power := power0, mgmt := mgmt0, counts := [], raises := [],
    actions := [], outbox := [], pending := [], freeCtr := 0 }

end Sys2Proof.Machine
end

