-- ==== Sys2Proof/Machine/Ops.lean ====
section
/-!
DEFINITION. The named operations on the state that the chapters share: reading register words by quire, access to the
indexed parts, the outbox, free values, and the raise of an error source (R321).
-/
namespace Sys2Proof.Machine

/-! ### Register words -/

/-- The active word at a BAR0 offset (R10, R48); an unlisted word holds its reset value (R17). -/
def State.act (s : State) (off : Nat) : Word := (tfind s.regs.active off).getD (offReset off)
/-- The shadow word at a BAR0 offset. -/
def State.shad (s : State) (off : Nat) : Word := (tfind s.regs.shadow off).getD (offReset off)
/-- The RWI or RWL word at a BAR0 offset. -/
def State.dir (s : State) (off : Nat) : Word := (tfind s.regs.direct off).getD (offReset off)
/-- A field of an active word. -/
def State.actF (s : State) (off hi lo : Nat) : Nat := fld (s.act off) hi lo
/-- A field of an RWI or RWL word. -/
def State.dirF (s : State) (off hi lo : Nat) : Nat := fld (s.dir off) hi lo

/-- Write a word of a sparse register table: a word at its reset value is unlisted. -/
def putWord (t : Tbl Word) (off : Nat) (w : Word) : Tbl Word := tput (offReset off) t off w

/-- Set an RWI or RWL word; its parity is generated at the write (R55). -/
def State.setDir (s : State) (off : Nat) (w : Word) : State :=
  { s with regs := { s.regs with
      direct := putWord s.regs.direct off w, badDirect := sdel s.regs.badDirect off, latDirect := sdel s.regs.latDirect off } }

/-- Set a shadow word; its parity is generated at the write (R55). -/
def State.setShad (s : State) (off : Nat) (w : Word) : State :=
  { s with regs := { s.regs with
      shadow := putWord s.regs.shadow off w, badShadow := sdel s.regs.badShadow off, latShadow := sdel s.regs.latShadow off } }

/-! ### Indexed parts -/

/-- A port's link. -/
def State.port (s : State) (p : Nat) : PortLink := tget port0 s.links.ports p
/-- Change a port's link. -/
def State.modPort (s : State) (p : Nat) (f : PortLink → PortLink) : State :=
  { s with links := { s.links with ports := tmod port0 s.links.ports p f } }
/-- A stack. -/
def State.stack (s : State) (k : Nat) : StackState := tget stack0 s.links.stackStates k
/-- Change a stack. -/
def State.modStack (s : State) (k : Nat) (f : StackState → StackState) : State :=
  { s with links := { s.links with stackStates := tmod stack0 s.links.stackStates k f } }
/-- A lane. -/
def State.lane (s : State) (l : Nat) : LaneState := tget lane0 s.links.lanes l
/-- Change a lane. -/
def State.modLane (s : State) (l : Nat) (f : LaneState → LaneState) : State :=
  { s with links := { s.links with lanes := tmod lane0 s.links.lanes l f } }
/-- A hierarchy. -/
def State.hier (s : State) (h : Nat) : HierState := tget hier0 s.hiers h
/-- Change the data path. -/
def State.modPath (s : State) (f : DataPath → DataPath) : State := { s with path := f s.path }
/-- Change a hierarchy. -/
def State.modHier (s : State) (h : Nat) (f : HierState → HierState) : State :=
  { s with hiers := tmod hier0 s.hiers h f }

/-- The Brodoth link of a port. -/
def State.bfl (s : State) (p : Nat) : BflPort := tget bfl0 s.fabric.links p
/-- Change the Brodoth link of a port. -/
def State.modBfl (s : State) (p : Nat) (f : BflPort → BflPort) : State :=
  { s with fabric := { s.fabric with links := tmod bfl0 s.fabric.links p f } }
/-- The session of a port's Brodoth link. -/
def State.bflSession (s : State) (p : Nat) : Nat := (s.bfl p).session

/-- Give something to the outside. -/
def State.out (s : State) (o : Output) : State := { s with outbox := s.outbox ++ [o] }

/-- A consequence to be carried out within this step. -/
def State.push (s : State) (a : Action) : State := { s with actions := s.actions ++ [a] }

/-- Draw a free value: the next number of the model's own counter. -/
def State.draw (s : State) : Nat × State := (Config.freeNat s.freeCtr, { s with freeCtr := s.freeCtr + 1 })

/-- Draw a free value below a bound. -/
def State.drawBelow (s : State) (n : Nat) : Nat × State := (s.draw.1 % n, s.draw.2)

/-- Fold an operation over a list. -/
def State.each {α : Type} (s : State) (l : List α) (f : State → α → State) : State := l.foldl f s

/-! ### Event counters (R341) -/

/-- Add to an event counter of 48 bits (R341). -/
def State.count (s : State) (c n : Nat) : State := { s with counts := tmod 0 s.counts c (fun v => wrapAdd 48 v n) }
/-- Count a port's event (R342); a port that is not provided counts nothing (R341). -/
def State.countPort (s : State) (p e : Nat) (n : Nat := 1) : State := if (s.port p).prov.isSome then s.count (32 * p + e) n else s
/-- Count a hierarchy's event (R343). -/
def State.countHier (s : State) (h e : Nat) (n : Nat := 1) : State := s.count (2048 + 32 * h + e) n
/-- Count a device event (R344). -/
def State.countDev (s : State) (d : Nat) (n : Nat := 1) : State := s.count (3584 + d) n

/-! ### Time (R35) -/

/-- NS of local spine time (R35). -/
def State.ns (s : State) : Nat := s.spine.t40 / 2 ^ 40

/-- CCLK since the cold reset (R25). -/
def State.cclkNow (s : State) : Nat := 1000000 * s.spine.ticks + s.spine.cclk

/-! ### Registers that many chapters read -/

/-- The BAR0 offset of PLK_Pnn_CTL (R246). -/
def offPlkCtl (p : Nat) : Nat := 0x300000 + 0x100 * p
/-- The BAR0 offset of LNC_Sss_CFG (R241). -/
def offLncCfg (k : Nat) : Nat := 0x200000 + 0x100 * k
/-- The BAR0 offset of HVH_Hhh_CTL (R60, R421). -/
def offHvhCtl (h : Nat) : Nat := 0x500000 + 0x4000 * h

/-- The roles of R246. -/
inductive Role where
  | none | host | device | fabric | analysis
  deriving DecidableEq, Repr

/-- The role that PLK_Pnn_CTL.ROLE encodes (R246); a reserved encoding is never stored (R14). -/
def roleOf (n : Nat) : Role :=
  match n with
  | 1 => .host
  | 2 => .device
  | 3 => .fabric
  | 4 => .analysis
  | _ => .none

/-- The role of a port: the fixed host role of P00 in ENDPAPER (R246), else the active quire's. -/
def State.role (s : State) (p : Nat) : Role :=
  if s.glb.mode = .endpaper then (if p = 0 then .host else .none) else roleOf (s.actF (offPlkCtl p) 31 29)

/-- The hierarchy presented on a port: enabled with PORT = p and presented (R62). -/
def State.hierOn (s : State) (p : Nat) : Option Nat :=
  (s.hiers.filter (fun x => x.2.active && s.actF (offHvhCtl x.1) 30 25 == p)).head?.map (·.1)

/-- Whether a port is in its active state (R253): UP with its data link layer active. -/
def State.portActive (s : State) (p : Nat) : Bool := (s.port p).sup == .up && (s.port p).dllActive

/-- The core runs: its memories are initialised, in a mode other than OFF and AUX (R21, R27). -/
def State.coreRuns (s : State) : Bool := s.glb.coreUp && s.glb.mode != .off && s.glb.mode != .aux

/-! ### Raises (R321) -/

/-- A raise with no details. -/
def raise0 : RaiseInfo := ⟨0, none, none, none, 0, 0, 0, 0, .none⟩

/-- Raise an error source with its details (R321); it is decided before the step ends (R326). -/
def State.raise (s : State) (i : RaiseInfo) : State := { s with raises := s.raises ++ [i] }

/-- Raise source `k` of a port (R317). -/
def State.raisePort (s : State) (p k : Nat) (i : RaiseInfo := raise0) : State :=
  s.raise { i with src := srcPort p k, port := some p }

/-- Raise source `k` of a hierarchy (R318). -/
def State.raiseHier (s : State) (h k : Nat) (i : RaiseInfo := raise0) : State :=
  s.raise { i with src := srcHier h k, hier := some h }

/-- Raise source `k` of a stack (R319). -/
def State.raiseStack (s : State) (k j : Nat) (i : RaiseInfo := raise0) : State :=
  s.raise { i with src := srcStack k j }

/-- Raise a device-wide source (R320). -/
def State.raiseDev (s : State) (n : Nat) (aux : Nat := 0) (i : RaiseInfo := raise0) : State :=
  s.raise { i with src := n, aux := aux }

end Sys2Proof.Machine
end

