-- ==== Sys2Proof/Machine/Ledger.lean ====
section
/-!
DEFINITION. The error ledger: deciding raises (R323 to R326), level causes and clears (R329), records as words (R325).
-/
namespace Sys2Proof.Machine

/-- The BAR0 offset of ELG_Snnnn_SEV (R333). -/
def offElgSev (n : Nat) : Nat := 0xE00000 + 4 * n

/-! ### Parity checks (R55, R56) -/

/-- The configuration parity source of a word (R56, R317 to R320): by the unit of an RWQ register, by the name of an RWI
register. -/
def paritySource (off : Nat) : Nat :=
  match locate off with
  | none => 1472
  | some p =>
    match p.row.unit with
    | .per b =>
      if b = 0 ∨ b = 48 then srcHier p.i 0 else if b = 107 then srcStack p.i 0 else srcPort p.i 0
    | .one _ => 1472
    | .none =>
      match p.row.name with
      | .spnAsym | .bflCrsel | .obsCapCons => srcPort p.i 0
      | .agdHCnt => srcHier p.i 0
      | _ => 1472

/-- Raise the configuration parity source of a word (R56, R325). -/
def State.raiseParity (s : State) (off : Nat) : State :=
  let n := paritySource off
  s.raise { raise0 with
    src := n, addr := off, block := off / 0x100000,
    port := (match sourceHome n with | .port p => some p | _ => none),
    hier := (match sourceHome n with | .hier h => some h | _ => none) }

/-- A check of words of the active quire (R55, R56): those an upset has made bad are found, and raise their source once each. -/
def State.checkActive (s : State) (p : Nat → Bool) : State :=
  let found := s.regs.latActive.filter p
  ({ s with regs := { s.regs with
      latActive := s.regs.latActive.filter (fun o => !p o), badActive := found.foldl sadd s.regs.badActive } }).each found State.raiseParity

/-- A check of words of the shadow quire. -/
def State.checkShadow (s : State) (p : Nat → Bool) : State :=
  let found := s.regs.latShadow.filter p
  ({ s with regs := { s.regs with
      latShadow := s.regs.latShadow.filter (fun o => !p o), badShadow := found.foldl sadd s.regs.badShadow } }).each found State.raiseParity

/-- A check of RWI and RWL words. -/
def State.checkDirect (s : State) (p : Nat → Bool) : State :=
  let found := s.regs.latDirect.filter p
  ({ s with regs := { s.regs with
      latDirect := s.regs.latDirect.filter (fun o => !p o), badDirect := found.foldl sadd s.regs.badDirect } }).each found State.raiseParity

/-- The scrubber's pass over every word (R55). -/
def State.scrubWords (s : State) : State :=
  ((s.checkActive (fun _ => true)).checkShadow (fun _ => true)).checkDirect (fun _ => true)

/-- A word that the logic of some blocks uses when it acts for a port and a hierarchy: one of the block's windows, of that port, its
stack, that hierarchy, or of the block as a whole. -/
def usedWord (windows : List Nat) (p h : Option Nat) (off : Nat) : Bool :=
  windows.contains (off / 0x100000) &&
    (match sourceHome (paritySource off) with
     | .port q => p == some q
     | .stack k => p.map (fun q => q / 4) == some k
     | .hier g => h == some g
     | .device => true)

/-- Parity is checked at a use by the block's logic (R55). -/
def State.useWords (s : State) (windows : List Nat) (p h : Option Nat) : State :=
  (s.checkActive (usedWord windows p h)).checkDirect (usedWord windows p h)

/-- A word is used by the logic that owns it (R55). -/
def State.useWord (s : State) (off : Nat) : State := (s.checkActive (· == off)).checkDirect (· == off)

/-! ### Raises -/

/-- The severity in force for a source: that of the active quire in the CCLK of the raise (R52, R323). -/
def State.severity (s : State) (n : Nat) : Severity := sevOf (s.actF (offElgSev n) 2 0)

/-- A record of the ledger. -/
def State.record (s : State) (r : Nat) : Record := tget noRecord s.ledger.records r

/-- Write a record. -/
def State.setRecord (s : State) (r : Nat) (x : Record) : State :=
  { s with ledger := { s.ledger with records := tput noRecord s.ledger.records r x } }

/-- An open record of a scope, if one is open (R326 step 1). -/
def State.openOf (s : State) (k : ScopeKind) (i : Nat) : Option Nat :=
  (s.ledger.records.find? (fun x => x.2.isOpen && x.2.kind == k && x.2.inst == i)).map (·.1)

/-- Whether a scope is contained: an open record of its kind and number (R327). -/
def State.contained (s : State) (k : ScopeKind) (i : Nat) : Bool := (s.openOf k i).isSome

/-- Ports that a stack provides (R242). -/
def State.stackPorts (s : State) (k : Nat) : List Nat :=
  (s.links.ports.filter (fun x => match x.2.prov with | some q => q / 4 == k | none => false)).map (·.1)

/-- The instances of kind PORT or LINK a raise belongs to (R324). -/
def State.portInstances (s : State) (i : RaiseInfo) : List Nat :=
  match i.port with
  | some p => [p]
  | none =>
    match sourceHome i.src with
    | .port p => [p]
    | .hier h => if (s.hier h).active then [s.actF (offHvhCtl h) 30 25] else []
    | .stack k => s.stackPorts k
    | .device => []

/-- The hierarchy instances a raise belongs to (R324). -/
def State.hierInstances (s : State) (i : RaiseInfo) : List Nat :=
  match i.hier with
  | some h => [h]
  | none =>
    match i.port with
    | some p => if s.role p = .host then (match s.hierOn p with | some h => [h] | none => []) else []
    | none => []

/-- The scopes of a raise at a severity (R324); an empty list for a containment severity means "it stands in no scope". -/
def State.scopes (s : State) (i : RaiseInfo) : Severity → List (ScopeKind × Nat)
  | .masked | .count => []
  | .note | .alert => [(.source, i.src)]
  | .containPort => (s.portInstances i).map (fun p => (.port, p))
  | .containLink => (s.portInstances i).map (fun p => (.link, p))
  | .containHierarchy => (s.hierInstances i).map (fun h => (.hierarchy, h))
  | .deviceFatal => [(.device, 0)]

/-- The first free record from `i` on, in ascending order with wrap from 254 to 0 (R326). -/
def freeRecord (recs : Tbl Record) : Nat → Nat → Option Nat
  | 0, _ => none
  | n + 1, i => if (tget noRecord recs i).isOpen then freeRecord recs n ((i + 1) % 255) else some i

/-- Count a raise of severity COUNT or higher (R323, R333). -/
def State.countRaise (s : State) (n : Nat) : State :=
  { s with ledger := { s.ledger with counts := tmod 0 s.ledger.counts n (wrapInc 16) } }

/-- A merge changes MERGES, CLASSES and LAST_NS and nothing else of the record (R326 step 1); a merge into a LINK record
resets the link again while it is UP with its data link layer, or Brodoth, active (R327). -/
def State.mergeRaise (s : State) (r : Nat) (i : RaiseInfo) : State :=
  let x := s.record r
  let s := s.setRecord r
    { x with merges := min (x.merges + 1) 0xFFFF, classes := x.classes ||| 2 ^ sourceClass i.src, lastNs := s.ns,
             srcs := sadd x.srcs i.src }
  if x.kind = .link ∧ s.portActive x.inst then s.push (.linkMerge x.inst) else s

/-- Opening a record (R325, R326): OPENED counts it, and its containment and reports follow in the same step. -/
def State.openRecord (s : State) (r : Nat) (sev : Severity) (k : ScopeKind) (inst : Nat) (i : RaiseInfo) : State :=
  let s := s.setRecord r
    { isOpen := true, sev := sev, kind := k, inst := inst, refused := 0, merges := 0, firstSrc := i.src, openNs := s.ns,
      lastNs := s.ns, classes := 2 ^ sourceClass i.src, port := i.port, hier := i.hier, vdsb := i.vdsb, aux := i.aux,
      block := i.block, addr := i.addr, hdr := i.hdr, srcs := [i.src] }
  let s := { s with ledger := { s.ledger with opened := wrapInc 16 s.ledger.opened } }
  (s.out (.mpInterrupt r)).push (.opened r i)

/-- A raise taken as DEVICE-FATAL: merges into record 255 or opens it (R326 step 2). -/
def State.raiseDevice (s : State) (i : RaiseInfo) : State :=
  match s.openOf .device 0 with
  | some r => s.mergeRaise r i
  | none => s.openRecord 255 .deviceFatal .device 0 i

/-- One scope of a raise (R326). -/
def State.raiseScope (s : State) (sev : Severity) (i : RaiseInfo) (sc : ScopeKind × Nat) : State :=
  match s.openOf sc.1 sc.2 with
  | some r => s.mergeRaise r i
  | none =>
    if sc.1 = .device then s.openRecord 255 sev .device 0 i
    else
      match freeRecord s.ledger.records 255 s.ledger.search with
      | some r =>
        ({ s with ledger := { s.ledger with search := (r + 1) % 255 } }).openRecord r sev sc.1 sc.2 i
      | none =>
        if sc.1 = .source then
          { s with ledger := { s.ledger with overflow := wrapInc 8 s.ledger.overflow } }
        else
          ({ s with ledger := { s.ledger with escalated := wrapInc 8 s.ledger.escalated } }).raiseDevice i

/-- Deciding one raise (R323, R324, R326), which uses the word of its severity (R55). The ledger runs in every mode except OFF and AUX;
a reserved source is never raised (R316). -/
def State.decideRaise (s : State) (i : RaiseInfo) : State :=
  if sourceReserved i.src || !s.coreRuns then s
  else
    let s := s.useWord (offElgSev i.src)
    match s.severity i.src with
    | .masked => s
    | .count => s.countRaise i.src
    | sev =>
      let s := s.countRaise i.src
      match s.scopes i sev with
      | [] =>
        ({ s with ledger := { s.ledger with unscoped := wrapInc 8 s.ledger.unscoped } }).raiseScope .alert i
          (.source, i.src)
      | scs => s.each scs (fun s sc => s.raiseScope sev i sc)

/-- Insert a raise in ascending source number, behind those of the same source (R326). -/
def insertRaise (i : RaiseInfo) : List RaiseInfo → List RaiseInfo
  | [] => [i]
  | j :: t => if i.src < j.src then i :: j :: t else j :: insertRaise i t

/-- The raises of a step in the order in which the ledger decides them (R326). -/
def sortRaises : List RaiseInfo → List RaiseInfo
  | [] => []
  | i :: t => insertRaise i (sortRaises t)

/-- Decide every raise made so far (R326). -/
def State.decideRaises (s : State) : State :=
  ({ s with raises := [] }).each (sortRaises s.raises.reverse) State.decideRaise

/-! ### Records as words (R325) -/

/-- KIND as R325 encodes it. -/
def kindCode : ScopeKind → Nat
  | .source => 0
  | .port => 1
  | .hierarchy => 2
  | .link => 3
  | .device => 4

/-- An optional field: its value, and its valid bit. -/
def optField (o : Option Nat) (hi lo v : Nat) : Nat := match o with | some x => place x hi lo + place 1 v v | none => 0

/-- The eight words of a record (R325). -/
def recordWords (r : Record) : List Quad :=
  [ BitVec.ofNat 64 (place (b2n r.isOpen) 63 63 + place (sevCode r.sev) 62 60 + place (kindCode r.kind) 59 57 + place r.inst 54 44
      + place r.refused 39 32 + place r.merges 31 16 + place r.firstSrc 10 0),
    BitVec.ofNat 64 r.openNs, BitVec.ofNat 64 r.lastNs, BitVec.ofNat 64 r.classes,
    BitVec.ofNat 64 (optField r.port 63 58 57 + optField r.hier 56 51 50 + optField r.vdsb 49 44 43 + place r.aux 42 31
      + place r.block 30 26),
    BitVec.ofNat 64 r.addr, BitVec.ofNat 64 r.hdr, BitVec.ofNat 64 (r.hdr / 2 ^ 64) ]

/-! ### Level causes (R317 to R320, R329) -/

/-- A configuration parity cause is present: some word of the source is bad (R56). -/
def State.parityCause (s : State) (n : Nat) : Bool :=
  (s.regs.badActive ++ s.regs.badShadow ++ s.regs.badDirect).any (fun o => paritySource o == n)

end Sys2Proof.Machine
end

