-- ==== Sys2Proof/Machine/Digest.lean ====
section
/-!
DEFINITION. The digests of R294, bit by bit in their reflected form: CRC-32C, also the check of colophon records (R387), and CRC-64;
and the CHECK bytes of tables (R425).
-/
namespace Sys2Proof.Machine

/-- One bit of a reflected CRC of polynomial `poly`. -/
def crcBit (poly r : Nat) : Nat := if r % 2 = 1 then (r / 2) ^^^ poly else r / 2

/-- One byte of a reflected CRC. -/
def crcByte (poly r : Nat) (b : Byte) : Nat :=
  let x := r ^^^ b.toNat
  crcBit poly (crcBit poly (crcBit poly (crcBit poly (crcBit poly (crcBit poly (crcBit poly (crcBit poly x)))))))

/-- Bytes of a reflected CRC, in operand order. -/
def crcBytes (poly r : Nat) (l : List Byte) : Nat := l.foldl (crcByte poly) r

/-- 0x1EDC_6F41 reflected. -/
def poly32c : Nat := 0x82F63B78
/-- 0xAD93_D235_94C9_3659 reflected. -/
def poly64 : Nat := 0x9A6C9329AC4BC9B5

/-- The polynomial of an ALG (R294): 0 CRC-32C, 1 CRC-64. -/
def algPoly (alg : Nat) : Nat := if alg = 0 then poly32c else poly64
/-- The initial value and the final XOR of an ALG. -/
def algOnes (alg : Nat) : Nat := if alg = 0 then 0xFFFFFFFF else 0xFFFFFFFFFFFFFFFF

/-- The digest of bytes under an ALG (R294). -/
def digestOf (alg : Nat) (l : List Byte) : Nat := crcBytes (algPoly alg) (algOnes alg) l ^^^ algOnes alg

/-! ### The CHECK bytes of tables (R425) -/

/-- The codeword positions of the first k data bits, in order. -/
def dataPositions (k : Nat) : List Nat := ((List.range 136).filter (fun n => !([0, 1, 2, 4, 8, 16, 32, 64, 128].contains n))).take k

/-- CHECK over the low k bits of an entry: seven Hamming bits, and the parity of all (R425). -/
def checkByte (k n : Nat) : Nat :=
  let ones := ((dataPositions k).zipIdx.filter (fun x => bitOf n x.2)).map (·.1)
  let h := ones.foldl (fun a p => a ^^^ p) 0 % 128
  let par := (ones.length + ((List.range 7).filter (bitOf h)).length) % 2
  h + 128 * par

end Sys2Proof.Machine
end

