-- ==== Sys2Proof/Machine/Tables.lean ====
section
/-!
DEFINITION. The folio, routing and gathering tables as memories with a check code (R92, R95, R105, R136, R138, R425): what is stored,
what a lookup reads, the check at a lookup and by the scrubber, writes, upsets.
-/
namespace Sys2Proof.Machine

/-! ### The check (R425) -/

/-- What a check of stored bits finds: no error, a single error with the data corrected, or an error beyond correction. -/
inductive Ecc where
  | good
  | fixed (data : Nat)
  | double
  deriving DecidableEq, Repr

/-- The check of k data bits against their CHECK byte (R425). -/
def eccJudge (k data check : Nat) : Ecc :=
  let c := checkByte k data
  if c = check then .good
  else
    let syn := (c ^^^ check) % 128
    let odd := (((List.range k).filter (bitOf data)).length + ((List.range 8).filter (bitOf check)).length) % 2 == 1
    if !odd then .double
    else if [0, 1, 2, 4, 8, 16, 32, 64].contains syn then .fixed data
    else match (dataPositions k).zipIdx.find? (fun x => x.1 == syn) with
      | some x => .fixed (data ^^^ 2 ^ x.2)
      | none => .double

/-- Data of k bits with its CHECK byte above it. -/
def withCheck (k data : Nat) : Nat := data % 2 ^ k + checkByte k (data % 2 ^ k) * 2 ^ k

/-- The check of a stored codeword of k data bits; the zero codeword is good. -/
def eccOf (k w : Nat) : Ecc := if w = 0 then .good else eccJudge k (w % 2 ^ k) (w / 2 ^ k % 256)

/-- The data a lookup reads from a stored codeword: corrected where it can be. -/
def eccData (k w : Nat) : Nat := match eccOf k w with | .fixed d => d | _ => w % 2 ^ k

/-! ### The folio table (R92, R95) -/

/-- A folio entry as stored, CHECK in [127:120]. -/
def State.folioStored (s : State) (i : Nat) : BitVec 128 := tget 0 s.path.folio i

/-- A folio entry as a lookup reads it, without CHECK. -/
def State.folio (s : State) (i : Nat) : BitVec 128 := BitVec.ofNat 128 (eccData 120 (s.folioStored i).toNat)

/-- A field of a folio entry. -/
def efld (e : BitVec 128) (hi lo : Nat) : Nat := bitsOf e.toNat hi lo

/-- Put a codeword into the folio table. -/
def State.putFolio (s : State) (i : Nat) (w : Nat) : State :=
  s.modPath (fun x => { x with folio := tput 0 x.folio i (BitVec.ofNat 128 w) })

/-- The check at a lookup (R95): a single error is written back corrected and counted; a double one makes the entry fail until it is
replaced, raises the source, and ends a migration of the folio (R177). -/
def State.checkFolio (s : State) (i : Nat) : State :=
  if s.path.failFolio.contains i then s
  else match eccOf 120 (s.folioStored i).toNat with
    | .good => s
    | .fixed d => (s.putFolio i (withCheck 120 d)).countDev 2
    | .double =>
      (({ s with path := { s.path with failFolio := sadd s.path.failFolio i } }).raiseDev 1477 0 { raise0 with addr := i }).push
        (.entryFailed i)

/-- Write a folio entry: CHECK is the device's (R92). -/
def State.setFolio (s : State) (i : Nat) (e : BitVec 128) : State :=
  s.modPath (fun x => { x with
    folio := tput 0 x.folio i (BitVec.ofNat 128 (withCheck 120 e.toNat)), failFolio := sdel x.failFolio i })

/-! ### The routing table (R105, R95) -/

/-- A routing entry as stored, CHECK in [63:56]. -/
def State.routeStored (s : State) (f : Nat) : Quad := tget 0 s.path.route f

/-- A routing entry as a lookup reads it. -/
def State.route (s : State) (f : Nat) : Quad := BitVec.ofNat 64 (eccData 56 (s.routeStored f).toNat)

/-- Put a codeword into the routing table. -/
def State.putRoute (s : State) (f w : Nat) : State :=
  s.modPath (fun x => { x with route := tput 0 x.route f (BitVec.ofNat 64 w) })

/-- The check at a lookup (R95). -/
def State.checkRoute (s : State) (f : Nat) : State :=
  if s.path.failRoute.contains f then s
  else match eccOf 56 (s.routeStored f).toNat with
    | .good => s
    | .fixed d => (s.putRoute f (withCheck 56 d)).countDev 3
    | .double =>
      (({ s with path := { s.path with failRoute := sadd s.path.failRoute f } }).raiseDev 1477 0 { raise0 with addr := f }).push .recheck

/-- KIND of a routing table entry (R105); an entry whose check fails counts as INVALID (R95). -/
def State.routeKind (s : State) (fid : Nat) : Nat :=
  if s.path.failRoute.contains fid || eccOf 56 (s.routeStored fid).toNat == .double then 0 else qfld (s.route fid) 9 8

/-! ### The gathering table (R136, R138) -/

/-- The eight words of an entry, and the entry of eight words. -/
def GEntry.words (e : GEntry) : List Quad := [e.w0, e.w1, e.w2, e.w3, e.w4, e.w5, e.w6, e.w7]

/-- A gathering entry of eight words. -/
def gEntryOf (ws : List Quad) : GEntry :=
  ⟨ws.getD 0 0, ws.getD 1 0, ws.getD 2 0, ws.getD 3 0, ws.getD 4 0, ws.getD 5 0, ws.getD 6 0, ws.getD 7 0⟩

/-- Change every word of an entry. -/
def GEntry.mapWords (f : Nat → Nat) (e : GEntry) : GEntry := gEntryOf (e.words.map (fun w => BitVec.ofNat 64 (f w.toNat)))

/-- A gathering entry as stored: each word with its CHECK in [63:56]. -/
def State.gStored (s : State) (g : Nat) : GEntry := tget gEntry0 s.path.gather g

/-- A gathering's entry as a lookup reads it, without the CHECK bytes. -/
def State.gEntry (s : State) (g : Nat) : GEntry := (s.gStored g).mapWords (eccData 56)

/-- Put stored words into the gathering table. -/
def State.putGEntry (s : State) (g : Nat) (e : GEntry) : State :=
  s.modPath (fun x => { x with gather := tput gEntry0 x.gather g e })

/-- Write a gathering's entry: the CHECK byte of each word is the device's (R136). -/
def State.setGEntry (s : State) (g : Nat) (e : GEntry) : State := s.putGEntry g (e.mapWords (withCheck 56))

/-- Write one word of a gathering's entry with its CHECK byte (R136, R155); the others stand as they are stored. -/
def State.putGWord (s : State) (g k : Nat) (w : Quad) : State :=
  s.putGEntry g (gEntryOf ((s.gStored g).words.set k (BitVec.ofNat 64 (withCheck 56 w.toNat))))

/-- Some word of a gathering has an error beyond correction. -/
def State.gBad (s : State) (g : Nat) : Bool :=
  s.path.failGather.contains g || (s.gStored g).words.any (fun w => eccOf 56 w.toNat == .double)

/-- The check at a lookup of a gathering (R138): every word; single errors are written back corrected and counted, a double one makes
the gathering fail until a GATHER_WRITE replaces it. -/
def State.checkGather (s : State) (g : Nat) : State :=
  if s.path.failGather.contains g then s
  else if s.gBad g then
    ({ s with path := { s.path with failGather := sadd s.path.failGather g } }).raiseDev 1479 g { raise0 with addr := g }
  else
    let n := ((s.gStored g).words.filter (fun w => eccOf 56 w.toNat != .good)).length
    if n = 0 then s else (s.setGEntry g (s.gEntry g)).countDev 4 n

/-! ### Upsets and the scrubber -/

/-- Bits of a codeword flip. -/
def flipBits (w : Nat) (l : List Nat) : Nat := l.foldl (fun n k => n ^^^ 2 ^ k) w

/-- Bits of a stored entry flip (R95, R138): the next check of the entry meets what is left. -/
def State.tableError (s : State) (e : TableError) : State :=
  let i := e.index.val
  let bits := e.bits.map Fin.val
  match e.table with
  | .folio => s.putFolio i (flipBits (s.folioStored i).toNat bits)
  | .route => if 4096 ≤ i then s else s.putRoute i (flipBits (s.routeStored i).toNat (bits.filter (fun k => decide (k < 64))))
  | .gather =>
    if 4096 ≤ i then s
    else
      s.putGEntry i (gEntryOf ((s.gStored i).words.zipIdx.map (fun x =>
        if x.2 = e.word.val then BitVec.ofNat 64 (flipBits x.1.toNat (bits.filter (fun k => decide (k < 64)))) else x.1)))

/-- The table scrubbers (R95, R138) visit every entry once in 64 MTICK: in each the next 1/64 of each table. -/
def State.scrubTables (s : State) : State :=
  let k := s.spine.ticks % 64
  let s := s.each ((s.path.folio.map (·.1)).filter (fun i => i / 8192 == k)) State.checkFolio
  let s := s.each ((s.path.route.map (·.1)).filter (fun i => i / 64 == k)) State.checkRoute
  s.each ((s.path.gather.map (·.1)).filter (fun i => i / 64 == k)) State.checkGather

end Sys2Proof.Machine
end

