-- ==== Sys2Proof/Machine/HostCfg.lean ====
section
/-!
DEFINITION. Host configuration space: the headers and capabilities of the vUSB, the vDSBs and the management endpoint
(R57, R66 to R69), their writable and write-one-to-clear bits. The bit places inside a capability are those of PCI Express,
which the spec names and does not repeat (PRESUMED).
-/
namespace Sys2Proof.Machine

/-- The kinds of function that a hierarchy presents (R67). -/
inductive FnKind where
  | vusb | mep | vdsb
  deriving DecidableEq, Repr

/-- The kind of the function number of HierState.cfg. -/
def fnKind (f : Nat) : FnKind := if f = 0 then .vusb else if f = 1 then .mep else .vdsb

/-- The AER bits of PCI Express that an uncorrectable status, mask or severity register holds here. -/
def aerUncorrBits : Nat := 0x07FFF030

/-- The AER bits of PCI Express that a correctable status or mask register holds here. -/
def aerCorrBits : Nat := 0x0000F1C1

/-- Bits a host write changes, by function kind and word number (R67, R68). -/
def cfgWritable (k : FnKind) (d : Nat) : Nat :=
  match d with
  | 1 => 0x0146
  | 3 => 0xFF
  | 4 => if k = .mep then 0xFC000000 else 0xFFFF0000
  | 5 => 0xFFFFFFFF
  | 6 => if k = .mep then 0xFFFF0000 else 0x00FFFFFF
  | 7 => if k = .mep then 0xFFFFFFFF else 0
  | 8 => if k = .mep then 0 else 0xFFF0FFF0
  | 9 => if k = .mep then 0 else 0xFFF0FFF0
  | 10 => if k = .mep then 0 else 0xFFFFFFFF
  | 11 => if k = .mep then 0 else 0xFFFFFFFF
  | 15 => if k = .mep then 0xFF else 0x004300FF
  | 0x11 => 0x3
  | 0x14 => if k = .vdsb then 0x00010000 else if k = .mep then 0xC0000000 else 0
  | 0x15 => if k = .vdsb then 0xFFFFFFFC else 0
  | 0x16 => if k = .vdsb then 0xFFFFFFFF else 0
  | 0x17 => if k = .vdsb then 0xFFFF else 0
  | 0x1E => 0x7FFF
  | 0x20 => if k = .vdsb then 0x0FDB else 0x01CB
  | 0x22 => if k = .vdsb then 0x1FFF else 0
  | 0x26 => 0xFFFF
  | 0x28 => 0xFFFF
  | 0x42 | 0x43 => aerUncorrBits
  | 0x45 => aerCorrBits
  | 0x46 => 0x140
  | 0x53 => if k = .vdsb then 0x5F0000 else 0
  | 0x57 => if k = .vdsb then 0x3F0000 else 0
  | _ => if k ≠ .mep ∧ 0x8E ≤ d ∧ d < 0x9E then 0xFF7F else 0

/-- Bits a host write of 1 clears (R66, R67). -/
def cfgRw1c (k : FnKind) (d : Nat) : Nat :=
  match d with
  | 1 => 0xF9000000
  | 7 => if k = .mep then 0 else 0xF9000000
  | 0x1E => 0x000F0000
  | 0x20 => if k = .vdsb then 0xC0000000 else 0
  | 0x22 => if k = .vdsb then 0x011F0000 else 0
  | 0x41 => aerUncorrBits
  | 0x44 => aerCorrBits
  | 0x58 => if k = .vdsb then 0x0009 else 0
  | _ => 0

/-- The reset value of the stored bits of a configuration word: the PCI Express defaults of the fields that have one. -/
def cfgReset (_k : FnKind) (d : Nat) : Nat :=
  match d with
  | 0x1E => 0x2810
  | 0x28 => 0x6
  | 0x42 => 0x00400000
  | 0x43 => 0x00462030
  | 0x45 => 0x6000
  | _ => 0

/-- The next pointer of a capability in the extended list, by kind (R68). -/
def extCap (id ver next : Nat) : Nat := id + place ver 19 16 + place next 31 20

/-- The bits that read as constants, by function kind and word number (R67 to R69). The DVSECs at 0x300, 0x340 and 0x380 are those of
CXL: Flex Bus Port, Extensions for Ports, and the Register Locator, whose one block is the component registers at offset 0 of BAR0 (R70;
PRESUMED, log 13). Header Type, link status, slot status
presence and the serial number are added by `cfgRead`. -/
def cfgConst (k : FnKind) (d : Nat) : Nat :=
  match d with
  | 0 => match k with | .vusb => 0x7256EB37 | .vdsb => 0x7257EB37 | .mep => 0x7258EB37
  | 1 => 0x00100400
  | 2 => if k = .mep then 0x08800000 else 0x06040000
  | 4 => 0x4
  | 6 => if k = .mep then 0x4 else 0
  | 9 => if k = .mep then 0 else 0x00010001
  | 11 => if k = .mep then 0x0001EB37 else 0
  | 13 => 0x40
  | 0x10 => match k with | .vusb => 0x00037001 | _ => 0x00035001
  | 0x14 => match k with | .vdsb => 0x00807005 | .mep => 0x007F7011 | .vusb => 0
  | 0x15 => if k = .mep then 0x00000002 else 0
  | 0x16 => if k = .mep then 0x00008002 else 0
  | 0x1C => match k with | .vusb => 0x00520010 | .vdsb => 0x01620010 | .mep => 0x00020010
  | 0x1D => 0x00008022
  | 0x1F => if k = .vdsb then 0x00180106 else if k = .vusb then 0x00000106 else 0
  | 0x25 => 0x18030040
  | 0x27 => 0x7E
  | 0x40 => match k with
    | .vusb => extCap 0x0001 2 0x190
    | .vdsb => extCap 0x0001 2 0x148
    | .mep => extCap 0x0001 2 0x280
  | 0x52 => if k = .vdsb then extCap 0x000D 1 0x158 else 0
  | 0x53 => if k = .vdsb then 0x5F else 0
  | 0x56 => if k = .vdsb then extCap 0x001D 1 0x190 else 0
  | 0x64 => if k = .mep then 0 else extCap 0x0019 1 0x1A0
  | 0x68 => if k = .mep then 0 else extCap 0x0025 1 0x1B0
  | 0x6C => if k = .mep then 0 else extCap 0x0026 1 0x1E0
  | 0x78 => if k = .mep then 0 else extCap 0x002A 1 0x210
  | 0x84 => if k = .mep then 0 else extCap 0x0031 1 0x230
  | 0x8C => match k with | .vusb => extCap 0x0027 1 0x2A0 | .vdsb => extCap 0x0027 1 0x300 | .mep => 0
  | 0xA0 => if k = .mep then extCap 0x002E 1 0x2A0 else 0
  | 0xA8 => match k with | .vusb => extCap 0x0003 1 0x300 | .mep => extCap 0x0003 1 0 | .vdsb => 0
  | 0xC0 => if k = .mep then 0 else extCap 0x0023 1 0x340
  | 0xC1 => if k = .mep then 0 else 0x02021E98
  | 0xC2 => if k = .mep then 0 else 0x20260007
  | 0xD0 => if k = .mep then 0 else extCap 0x0023 1 0x380
  | 0xD1 => if k = .mep then 0 else 0x02801E98
  | 0xD2 => if k = .mep then 0 else 0x00000003
  | 0xE0 => if k = .mep then 0 else extCap 0x0023 1 0
  | 0xE1 => if k = .mep then 0 else 0x01401E98
  | 0xE2 => if k = .mep then 0 else 0x00000008
  | 0xE3 => if k = .mep then 0 else 0x00000100
  | _ => 0

/-- The stored bits of a configuration word. -/
def State.cfgW (s : State) (h f d : Nat) : Nat :=
  match tfind (s.hier h).cfg (1024 * f + d) with
  | some w => w.toNat
  | none => cfgReset (fnKind f) d

/-- Set the stored bits of a configuration word. -/
def State.setCfgW (s : State) (h f d : Nat) (v : Nat) : State :=
  s.modHier h (fun x =>
    { x with cfg := tput (BitVec.ofNat 32 (cfgReset (fnKind f) d)) x.cfg (1024 * f + d) (BitVec.ofNat 32 v) })

/-- A field of a stored configuration word. -/
def State.cfgF (s : State) (h f d hi lo : Nat) : Nat := bitsOf (s.cfgW h f d) hi lo

/-- Set bits of a stored configuration word (a status bit that the device sets). -/
def State.setCfgBits (s : State) (h f d m : Nat) : State := s.setCfgW h f d (s.cfgW h f d ||| m)

/-- Clear bits of a stored configuration word. -/
def State.clearCfgBits (s : State) (h f d m : Nat) : State := s.setCfgW h f d (s.cfgW h f d - (s.cfgW h f d &&& m))

/-- The function number of vDSB v. -/
def fnV (v : Nat) : Nat := 2 + v

/-- Memory Space Enable, Bus Master Enable (R72). -/
def State.mse (s : State) (h f : Nat) : Bool := s.cfgF h f 1 1 1 == 1
def State.bme (s : State) (h f : Nat) : Bool := s.cfgF h f 1 2 2 == 1
/-- A function in D3hot (R69). -/
def State.d3 (s : State) (h f : Nat) : Bool := s.cfgF h f 0x11 1 0 == 3
/-- Link Disable of a vDSB (R65, R255). -/
def State.linkDisableBit (s : State) (h v : Nat) : Bool := s.cfgF h (fnV v) 0x20 4 4 == 1
/-- DPC Trigger Status of a vDSB (R76). -/
def State.dpcStatus (s : State) (h v : Nat) : Bool := s.cfgF h (fnV v) 0x58 0 0 == 1
/-- Secondary Bus Reset of a bridge (R73, R74). -/
def State.sbr (s : State) (h f : Nat) : Bool := s.cfgF h f 15 22 22 == 1

/-! ### Attachments (R61 to R64) -/

/-- The types of R61. -/
inductive AttachType where
  | empty | port | ld | fabric | dmvVf
  deriving DecidableEq, Repr

/-- The type that ATTACH.TYPE encodes. -/
def attachType (w : Word) : AttachType :=
  match fld w 30 28 with
  | 1 => .port
  | 2 => .ld
  | 3 => .fabric
  | 4 => .dmvVf
  | _ => .empty

/-- The attached target of a vDSB: none when it is not presented for itself, or lost its target (R57, R62). -/
def State.attach (s : State) (h v : Nat) : Option Word :=
  if (s.hier h).lost.contains v then none
  else match tfind (s.hier h).attach v with
    | some w => if attachType w = .empty then none else some w
    | none => none

/-- Whether vDSB v is presented (R57). -/
def State.vdsbShown (s : State) (h v : Nat) : Bool :=
  (s.hier h).active && ((tfind (s.hier h).attach v).isSome || (v < 32 && (tfind (s.hier h).attach (v + 32)).isSome))

/-- The vDSBs presented with a target, over all hierarchies: hierarchy, vDSB, attach word. -/
def State.attachments (s : State) : List (Nat × Nat × Word) :=
  s.hiers.flatMap (fun x =>
    if x.2.active then
      (x.2.attach.filter (fun a => !x.2.lost.contains a.1 && attachType a.2 != .empty)).map (fun a => (x.1, a.1, a.2))
    else [])

/-- The vDSBs of TYPE PORT attached to a port. -/
def State.portVdsbs (s : State) (p : Nat) : List (Nat × Nat × Word) :=
  s.attachments.filter (fun a => attachType a.2.2 == .port && fld a.2.2 5 0 == p)

/-- The vDSBs attached to a device port or to one of its logical devices (R327, R331). -/
def State.portLdVdsbs (s : State) (p : Nat) : List (Nat × Nat × Word) :=
  s.attachments.filter (fun a => (attachType a.2.2 == .port || attachType a.2.2 == .ld) && fld a.2.2 5 0 == p)

/-! ### Reading -/

/-- The rate code of Link Status for a rate of R246: 1 is 2.5 GT/s, 6 is 64 GT/s. -/
def linkSpeed (rate : Nat) : Nat := rate + 1

/-- Current speed and width of the link a bridge reports (R65). -/
def State.linkOf (s : State) (h f : Nat) : Nat × Nat :=
  if f = 0 then (linkSpeed (s.port (s.hier h).onPort).rate, (s.port (s.hier h).onPort).width)
  else match s.attach h (f - 2) with
    | none => (0, 0)
    | some w =>
      match attachType w with
      | .port | .ld => (linkSpeed (s.port (fld w 5 0)).rate, (s.port (fld w 5 0)).width)
      | _ => (6, 16)

/-! ### Lane margining (R69, R258, R259) -/

/-- The width of a sub-port in lanes (R241), x4 in ENDPAPER (R246). -/
def State.subWidth (s : State) (q : Nat) : Nat :=
  if s.glb.mode = .endpaper then 4 else 16 / 2 ^ s.actF (offLncCfg (q / 4)) 29 28

/-- The lanes of a port (R241). -/
def State.portLanes (s : State) (p : Nat) : List Nat :=
  match (s.port p).prov with
  | none => []
  | some q => (List.range (s.subWidth q)).map (fun i => 16 * (q / 4) + s.subWidth q * (q % 4) + i)

/-- The port whose receivers a bridge margins (R69). -/
def State.marginPort (s : State) (h f : Nat) : Option Nat :=
  if f = 0 then some (s.hier h).onPort
  else if f = 1 then none
  else match s.attach h (f - 2) with
    | some w => (match attachType w with | .port | .ld => some (fld w 5 0) | _ => none)
    | none => none

/-- Margining Ready (R69, R259): the link is UP and the register path holds no sampler of its lanes. -/
def State.marginReady (s : State) (h f : Nat) : Bool :=
  match s.marginPort h f with
  | some p => (s.port p).sup == .up && !(s.portLanes p).any (fun l => (s.lane l).margin == .running)
  | none => false

/-- The Header Type byte (R57, R67). DESIGN CHOICE (log 75): R57 says nothing of a vDSB that is function 1 of its device, which shows the
multi-function bit as function 0 does; and the management endpoint of ENDPAPER, alone in its device, shows none, where R67 gives the
endpoint 0x80 as function 1 beside a vUSB. -/
def State.headerType (s : State) (h f : Nat) : Nat :=
  if h = 48 then 0
  else if f = 0 then
    (if s.actF (offHvhCtl h) 24 24 = 1 ∨ fld (s.dir 0x5C0000) 13 8 = h then 0x81 else 0x01)
  else if f = 1 then 0x80
  else if f - 2 < 32 then (if s.vdsbShown h (f - 2 + 32) then 0x81 else 0x01) else 0x81

/-- Data Link Layer Link Active as a vDSB reports it (R63): with presence, unless Link Disable of a type other than PORT takes back the
reported link (R65). -/
def State.linkShown (s : State) (h v : Nat) : Bool :=
  (s.hier h).present.contains v &&
    !(s.linkDisableBit h v && (match s.attach h v with | some w => attachType w != .port | none => false))

/-- A configuration word as a host reads it (R67 to R69). -/
def State.cfgRead (s : State) (h f d : Nat) : Word :=
  let k := fnKind f
  let base := s.cfgW h f d ||| cfgConst k d
  BitVec.ofNat 32 (match d with
    | 3 => base + place (s.headerType h f) 23 16
    | 0x20 =>
      if k = .mep then base
      else
        base - place (bitsOf base 29 16) 29 16 + place (s.linkOf h f).1 19 16 + place (s.linkOf h f).2 25 20
          + place (b2n (k = .vdsb && s.linkShown h (f - 2))) 29 29
    | 0x21 => if k = .vdsb then base + 0x60 + place (64 * h + (f - 2)) 31 19 else base
    | 0x22 => if k = .vdsb then base + place (b2n ((s.hier h).present.contains (f - 2))) 22 22 else base
    | 0x8D => if k = .mep then base else base + place (b2n (s.marginReady h f)) 16 16
    | 0xA9 => if k = .vdsb then base else (s.glb.serial % 2 ^ 32)
    | 0xAA =>
      if k = .mep then s.glb.serial / 2 ^ 32
      else if k = .vusb then setBits (s.glb.serial / 2 ^ 32) 31 26 h
      else base
    | _ => base)

/-- The bits of a word that byte enables select. -/
def beMask (be : Nat) : Nat :=
  place (if bitOf be 0 then 0xFF else 0) 7 0 + place (if bitOf be 1 then 0xFF else 0) 15 8
    + place (if bitOf be 2 then 0xFF else 0) 23 16 + place (if bitOf be 3 then 0xFF else 0) 31 24

/-- The stored bits after a host write with byte enables (R66, R67): writable bits take the value written,
write-one-to-clear bits that are written as 1 clear. Power state 1 and 2 are not implemented (R68: D0 and D3hot). -/
def cfgMerge (k : FnKind) (d old val be : Nat) : Nat :=
  let m := beMask be
  let wm := cfgWritable k d &&& m
  let cm := cfgRw1c k d &&& m &&& val
  let v := (old - (old &&& wm)) ||| (val &&& wm)
  let v := v - (v &&& cm)
  if d = 0x11 ∧ (v % 4 = 1 ∨ v % 4 = 2) then v - v % 4 + old % 4 else v

end Sys2Proof.Machine
end

