-- ==== Sys2Proof/Machine/Ports.lean ====
section
/-!
DEFINITION. Stacks, ports and the supervisor above the LTSSM (R241 to R257): which ports are provided, when a port runs, the
transitions of R253 and the rate cap of R254.
-/
namespace Sys2Proof.Machine

/-- The enabled sub-ports of a stack that is not test-owned, as (port number, 4 × stack + sub-port) (R241, R242). -/
def State.subPorts (s : State) (k : Nat) : List (Nat × Nat) :=
  let w := s.act (offLncCfg k)
  if bitOf w.toNat 31 then []
  else
    (List.range (2 ^ fld w 29 28)).filterMap (fun j =>
      if bitOf (fld w 27 24) j then some (fld w (6 * j + 5) (6 * j), 4 * k + j) else none)

/-- The sub-ports in the order in which they keep a port number: the lower stack, then the lower sub-port (R242). -/
def State.allSubPorts (s : State) : List (Nat × Nat) := (List.range 16).flatMap s.subPorts

/-- Keep the first of each port number; the second part counts the losers whose port has a role (R242). -/
def keepFirst (role : Nat → Role) (l : List (Nat × Nat)) : List (Nat × Nat) × Nat :=
  l.foldl (fun acc x =>
    if acc.1.any (fun y => y.1 == x.1) then (acc.1, acc.2 + b2n (role x.1 != .none)) else (acc.1 ++ [x], acc.2)) ([], 0)

/-- Of the ports of one role, in ascending number, those within the limit (R242). -/
def withinLimit (l : List (Nat × Nat)) (n : Nat) : List (Nat × Nat) :=
  l.filter (fun x => (l.filter (fun y => decide (y.1 < x.1))).length < n)

/-- No fabric port is provided in STANDALONE (R242), nor in QUIESCED entered from it. -/
def State.noFabric (s : State) : Bool :=
  s.glb.mode == .standalone || (s.glb.mode == .quiesced && s.glb.enteredFrom == .standalone)

/-- The ports provided, and how many sub-ports the checks of R242 suppress. In ENDPAPER only P00 is provided (R246), and
in OFF and AUX none. -/
def State.providedList (s : State) : List (Nat × Nat) × Nat :=
  match s.glb.mode with
  | .off | .aux => ([], 0)
  | .endpaper => ([(0, 0)], 0)
  | _ =>
    let kept := keepFirst s.role s.allSubPorts
    let of := fun (r : Role) => kept.1.filter (fun x => s.role x.1 == r)
    let hosts := withinLimit (of .host) 48
    let fabs := if s.noFabric then [] else withinLimit (of .fabric) 16
    let anas := withinLimit (of .analysis) 4
    let devs := of .device
    (hosts ++ fabs ++ anas ++ devs,
     kept.2 + ((of .host).length - hosts.length) + ((of .fabric).length - fabs.length) + ((of .analysis).length - anas.length))

/-- Set which ports are provided (R242). -/
def State.setProvided (s : State) (l : List (Nat × Nat)) : State :=
  let s := { s with links := { s.links with ports := tmap port0 (fun p x =>
    { x with prov := (l.find? (fun (y : Nat × Nat) => y.1 == p)).map Prod.snd }) s.links.ports } }
  s.each l (fun s x => s.modPort x.1 (fun q => { q with prov := some x.2 }))

/-- The check of R242 at a start load or binding: every suppression raises the LNC map-conflict source. -/
def State.checkProvided (s : State) (bind : Bool) : State :=
  let r := s.providedList
  let s := s.setProvided r.1
  if bind then s.each (List.range r.2) (fun s _ => s.raiseDev 1493) else s

/-- The port a lane serves, with the port's lanes counted from its sub-port's lane 0. -/
def State.lanePort (s : State) (l : Nat) : Option Nat :=
  (s.links.ports.find? (fun x => (s.portLanes x.1).contains l)).map (·.1)

/-- A port is disabled (R255): Link Disable or DPC containment of a vDSB of TYPE PORT attached to it, or containment of the
port's scope. -/
def State.portDisabled (s : State) (p : Nat) : Bool :=
  s.contained .port p || (s.portVdsbs p).any (fun a => s.linkDisableBit a.1 a.2.1 || s.dpcStatus a.1 a.2.1)

/-- A port may leave OFF (R253, R252). -/
def State.portMayRun (s : State) (p : Nat) : Bool :=
  match (s.port p).prov with
  | none => false
  | some q =>
    (s.stack (q / 4)).calDone && (s.stack (q / 4)).refclkOk && !(s.role p == .host && (s.port p).perst)
      && !s.portDisabled p

/-- The link fields of a port that has no link. -/
def PortLink.unlinked (x : PortLink) : PortLink :=
  { x with rate := 0, width := 0, actWidth := 0, flit := false, cxlIo := false, cxlMem := false, flit68 := false,
           lowLat := false, crossUp := false, fcScale := 0, brodoth := false, dllActive := false, belowTarget := false, recovering := false, inL1 := false }

/-- Leaving UP or HELD is a link-down event (R253). -/
def State.leaveUp (s : State) (p : Nat) : State :=
  if (s.port p).sup = .up ∨ (s.port p).sup = .held then s.push (.linkDown p) else s

/-- The margin measurements of a port that leaves UP are aborted, whatever lanes it is provided on by now (R259). -/
def State.abortMargins (s : State) (p : Nat) : State :=
  if (s.port p).sup = .up then
    { s with links := { s.links with lanes := tmap lane0 (fun _ x =>
      if x.marginPort ≠ some p then x
      else
        let x := { x with marginPort := none, marginSteps := 0 }
        if x.margin = .running then { x with margin := .aborted } else { x with capHolds := false, capAt := none }) s.links.lanes } }
  else s

/-- A port goes to OFF (R253): the rate cap ends with it (R254). -/
def State.portOff (s : State) (p : Nat) : State :=
  let s := (s.abortMargins p).leaveUp p
  s.modPort p (fun x => { x.unlinked with sup := .off, cap := none })

/-- A port goes to DETECT (R253). -/
def State.portDetect (s : State) (p : Nat) : State :=
  let s := (s.abortMargins p).leaveUp p
  s.modPort p (fun x => { x.unlinked with sup := .detect })

/-- The level conditions of R253 on one port. -/
def State.recheckPort (s : State) (p : Nat) : State :=
  if s.portMayRun p then (if (s.port p).sup = .off then s.modPort p (fun x => { x with sup := .detect }) else s)
  else (if (s.port p).sup = .off then s else s.portOff p)

/-- The level conditions of R253 on every port. -/
def State.recheckPorts (s : State) : State := s.each (s.links.ports.map (·.1)) State.recheckPort

/-! ### Rates, training results and the cap (R245, R247, R254) -/

/-- PLK_Pnn_CTL as it governs a port now: the fixed settings of R246 in ENDPAPER (HOST, 8 GT/s, no FLIT, SRIS). -/
def State.plkCtl (s : State) (p : Nat) : Word :=
  if s.glb.mode = .endpaper then 0x28080000 else s.act (offPlkCtl p)

/-- The greatest rate that settings allow: a MAX_RATE of 64 GT/s acts as 32 GT/s without FLIT mode (R246). -/
def ctlMaxRate (w : Word) : Nat := if fld w 28 26 = 5 ∧ fld w 25 25 = 0 then 4 else fld w 28 26

/-- The highest rate a port tries (R245, R254). A fabric port trains at 64 GT/s only. -/
def State.topRate (s : State) (p : Nat) : Nat :=
  if s.role p = .fabric then 5
  else match (s.port p).cap with
    | some c => min c (ctlMaxRate (s.port p).trainCtl)
    | none => ctlMaxRate (s.port p).trainCtl

/-- Whether a result is acceptable (R245, R248). -/
def State.acceptable (s : State) (p : Nat) (r : TrainResult) : Bool :=
  if s.role p = .fabric then r.rate == 5 && decide (4 ≤ r.width) && r.brodoth else decide (0 < r.width)

/-- The status a trained port shows (R245, R247): never more than its settings offer. -/
def State.settled (s : State) (p : Nat) (r : TrainResult) : PortLink → PortLink := fun x =>
  let w := x.trainCtl
  let cxl := (s.role p == .host || s.role p == .device) && bitOf w.toNat 24 && r.cxlIo
  let rate := min r.rate (s.topRate p)
  let width := min r.width (match x.prov with | some q => s.subWidth q | none => 0)
  { x with rate := rate, width := width, actWidth := width, flit := (r.flit && bitOf w.toNat 25) || rate == 5,
           cxlIo := cxl, cxlMem := cxl && r.cxlMem && bitOf w.toNat 23,
           flit68 := cxl && r.flit68 && s.role p == .device && bitOf w.toNat 22 && decide (rate ≤ 4), lowLat := cxl && r.lowLat,
           crossUp := s.role p == .fabric && r.crossUp, fcScale := r.fcScale.val,
           brodoth := s.role p == .fabric && r.brodoth, belowTarget := s.role p != .fabric && decide (rate < ctlMaxRate w),
           cacheOffered := r.cxlCache && (s.role p == .host || s.role p == .device) && bitOf w.toNat 24,
           lds := if cxl then r.lds else 0, trained := true, lastMem := cxl && r.cxlMem && bitOf w.toNat 23 }

/-- A failed training (R253, R254): counted, the source raised, and after RETRY failures a capped rate on any port but a
fabric port. -/
def State.trainFailed (s : State) (p : Nat) : State :=
  let top := s.topRate p
  let s := s.modPort p (fun x => { x.unlinked with sup := .detect, trainFail := wrapInc 8 x.trainFail, fails := x.fails + 1 })
  let s := s.raisePort p 1
  if s.role p ≠ .fabric ∧ s.dirF 0x304000 3 0 ≤ (s.port p).fails then
    s.modPort p (fun x => { x with cap := some (top - 1), fails := 0 })
  else s

/-- SWC_Pnn_STATUS.FLUSHING (R131). -/
def State.flushing (s : State) (p : Nat) : Bool := (tget swPort0 s.path.swPorts p).flushing

/-- The data link layer of a port that is UP begins (R253): a PCI Express or CXL link becomes active; Brodoth begins its
initialisation (R224). The count of failed trainings ends (R254). -/
def State.beginDll (s : State) (p : Nat) : State :=
  (s.modPort p (fun x => { x with sup := .up, dllActive := !x.brodoth, fails := 0 })).push (.linkUp p)

end Sys2Proof.Machine
end

