-- ==== Sys2Proof/Machine/Hosts.lean ====
section
/-!
DEFINITION. Host hierarchies: presentation and conflicts (R62), presence and hot-plug events (R63, R64), hierarchy and vDSB
resets (R73, R74), error reports to hosts (R331).
-/
namespace Sys2Proof.Machine

/-! ### Messages and interrupts to hosts -/

/-- An interrupt message of a vDSB (R68: one MSI vector), when the host has enabled MSI and Bus Master Enable. -/
def State.vdsbMsi (s : State) (h v : Nat) : State :=
  if s.cfgF h (fnV v) 0x14 16 16 = 1 ∧ s.bme h (fnV v) then
    s.push (.sendUp h (fnV v) { tlp0 with
      op := .memWrite, len := 4,
      addr := BitVec.ofNat 64 (2 ^ 32 * s.cfgW h (fnV v) 0x16 + s.cfgW h (fnV v) 0x15 / 4 * 4),
      payload := leBytes 4 (s.cfgF h (fnV v) 0x17 15 0) })
  else s

/-- MSI-X of a management endpoint (R68, R423): sent when enabled and unmasked, else pending; none is made in D3hot (R69). -/
def State.mepMsix (s : State) (h k : Nat) : State :=
  let w := fun j => (tfind (s.hier h).msix (4 * k + j)).getD (msixReset j)
  if s.cfgF h 1 0x14 31 31 = 1 ∧ s.bme h 1 ∧ !s.d3 h 1 then
    if s.cfgF h 1 0x14 30 30 = 1 ∨ fld (w 3) 0 0 = 1 then s.modHier h (fun x => { x with pba := sadd x.pba k })
    else
      s.push (.sendUp h 1 { tlp0 with
        op := .memWrite, len := 4, addr := BitVec.ofNat 64 (2 ^ 32 * (w 1).toNat + (w 0).toNat / 4 * 4),
        payload := leBytes 4 (w 2).toNat })
  else s

/-- The hierarchy whose management endpoint is the management function (R71); the endpoint of P00 in ENDPAPER (R59). -/
def State.privHier (s : State) : Option Nat :=
  if s.glb.mode = .endpaper then some 48
  else
    let h := s.dirF 0x5C0000 5 0
    if h < 48 then some h else none

/-- MSI-X of the management function (R330 and others). -/
def State.mgmtMsix (s : State) (k : Nat) : State :=
  match s.privHier with | some h => s.mepMsix h k | none => s

/-! ### Error reports (R331) -/

/-- The AER uncorrectable bit of a link cause, or the correctable one (R331, PCI Express). -/
def aerUncorr : LinkCause → Option Nat
  | .surpriseDown => some 5
  | .dllProtocol => some 4
  | .fcProtocol => some 13
  | .receiverOverflow => some 17
  | .malformedTlp => some 18
  | .poisoned => some 12
  | .ecrc => some 19
  | _ => none

/-- The AER correctable bit of a link cause (R331, PCI Express). -/
def aerCorr : LinkCause → Option Nat
  | .receiverError => some 0
  | .badTlp => some 6
  | .badDllp => some 7
  | .replayRollover => some 8
  | .replayTimeout => some 12
  | _ => none

/-- An error message toward the host of a hierarchy, in the name of one of its functions. -/
def State.errMsg (s : State) (h f code : Nat) : State :=
  s.push (.sendUp h f { tlp0 with op := .msg, addr := BitVec.ofNat 64 code, route := .toBridge })

/-- Log an uncorrectable error in a function's AER, and send the message its mask, severity and enable bits allow. -/
def State.aerLogUncorr (s : State) (h f bit : Nat) : State :=
  let fatal := bitOf (s.cfgW h f 0x43) bit
  let s := s.setCfgBits h f 0x41 (2 ^ bit)
  let s := s.setCfgBits h f 0x1E (if fatal then 0x40000 else 0x20000)
  if bitOf (s.cfgW h f 0x42) bit then s
  else if fatal then (if bitOf (s.cfgW h f 0x1E) 2 || bitOf (s.cfgW h f 1) 8 then s.errMsg h f 0x33 else s)
  else (if bitOf (s.cfgW h f 0x1E) 1 || bitOf (s.cfgW h f 1) 8 then s.errMsg h f 0x31 else s)

/-- Log a correctable error in a function's AER (R331). -/
def State.aerLogCorr (s : State) (h f bit : Nat) : State :=
  let s := s.setCfgBits h f 0x44 (2 ^ bit)
  let s := s.setCfgBits h f 0x1E 0x10000
  if bitOf (s.cfgW h f 0x45) bit then s
  else (if bitOf (s.cfgW h f 0x1E) 0 then s.errMsg h f 0x30 else s)

/-- Every vUSB presented. -/
def State.presented (s : State) : List Nat := (s.hiers.filter (fun x => x.2.active)).map (·.1)

/-- The functions that log a record (R331): none below ALERT. -/
def State.loggers (s : State) (x : Record) : List (Nat × Nat) :=
  if sevCode x.sev < 3 then []
  else if x.kind = .device then s.presented.map (fun h => (h, 0))
  else match x.vdsb, x.hier, x.port with
    | some v, some h, _ => [(h, fnV v)]
    | _, some h, _ => if (s.hier h).active then [(h, 0)] else []
    | _, none, some p =>
      if s.role p = .device then (s.portLdVdsbs p).map (fun a => (a.1, fnV a.2.1))
      else if s.role p = .host then (match s.hierOn p with | some h => [(h, 0)] | none => [])
      else []
    | _, none, none => []

/-- The functions of a port that log an error of it: the vUSB of a host port's hierarchy (in ENDPAPER the endpoint of P00), the
vDSBs attached to a device port (R331). -/
def State.portFns (s : State) (p : Nat) : List (Nat × Nat) :=
  if s.glb.mode = .endpaper then (if p = 0 then [(48, 1)] else [])
  else if s.role p = .device then (s.portLdVdsbs p).map (fun a => (a.1, fnV a.2.1))
  else match s.hierOn p with | some h => [(h, 0)] | none => []

/-- The functions that have logged the cause of a raise already, as PCI Express makes them, whatever the severity (R331). -/
def State.loggedBy (s : State) (i : RaiseInfo) : List (Nat × Nat) :=
  match i.port with
  | some p => if i.cause = .surpriseDown ∧ s.role p ≠ .device then [] else s.portFns p
  | none => []

/-- The report of a record at its opening (R331): a link cause that a function has logged already is not logged again. -/
def State.aerReport (s : State) (x : Record) (i : RaiseInfo) : State :=
  let always := x.sev == .containHierarchy || x.sev == .deviceFatal
  s.each (s.loggers x) (fun s hf =>
    let s := match sourceAer i.src with
      | .uie => s.aerLogUncorr hf.1 hf.2 22
      | .link =>
        if (s.loggedBy i).contains hf then s
        else match aerUncorr i.cause with
        | some b => s.aerLogUncorr hf.1 hf.2 b
        | none => match aerCorr i.cause with | some b => s.aerLogCorr hf.1 hf.2 b | none => s
      | .none => s
    if always && sourceAer i.src != .uie then s.aerLogUncorr hf.1 hf.2 22 else s)

/-! ### DPC (R76, R332) -/

/-- Bit places of the DPC Status: trigger status, and the trigger reason. -/
def dpcBits (reason : Nat) : Nat := 1 + place reason 2 1

/-- A vDSB is contained by DPC (R76): the status is set, the port or the forwarding stops, the host is told. -/
def State.dpcTrigger (s : State) (h v reason : Nat) : State :=
  let s := s.clearCfgBits h (fnV v) 0x58 6
  let s := s.setCfgBits h (fnV v) 0x58 (dpcBits reason)
  let s := if bitOf (s.cfgW h (fnV v) 0x57) 19 then s.vdsbMsi h v else s
  s.push .recheck

/-- Containment of a vDSB by the ledger (R327, R332): the trigger status only where the host has set DPC Trigger Enable. -/
def State.dpcContain (s : State) (h v : Nat) : State :=
  if bitsOf (s.cfgW h (fnV v) 0x57) 17 16 ≠ 0 ∧ !s.dpcStatus h v then s.dpcTrigger h v 0 else s

/-! ### Presence (R63) -/

/-- Fabric-bound traffic is live (R187). -/
def State.fabricLive (s : State) : Bool := bitOf (s.act 0xA0000C).toNat 30 && s.fabric.latched

/-- Whether an attached target is present (R63). -/
def State.targetPresent (s : State) (w : Word) : Bool :=
  match attachType w with
  | .empty => false
  | .port => s.role (fld w 5 0) == .device && s.portActive (fld w 5 0)
  | .ld => s.role (fld w 5 0) == .device && s.portActive (fld w 5 0) && decide (fld w 15 12 < (s.port (fld w 5 0)).lds)
  | .fabric => s.fabricLive && (s.routeKind (fld w 11 0) == 1 || s.routeKind (fld w 11 0) == 2)
  | .dmvVf =>
    let x := tget dmvFn0 s.dmv.fns (fld w 11 0)
    x.phase == .enabled || (x.phase == .resetting && !x.ends)

/-- Whether a vDSB reports presence (R63, R76, R332): its target is present and the vDSB is not contained. -/
def State.vdsbPresent (s : State) (h v : Nat) : Bool :=
  (s.hier h).active && !s.dpcStatus h v
    && (match s.attach h v with | some w => s.targetPresent w | none => false)

/-- The vDSBs of a hierarchy that report presence. -/
def State.presentList (s : State) (h : Nat) : List Nat :=
  ((s.hier h).attach.map (·.1)).filter (fun v => s.vdsbPresent h v)

/-- Presence Detect Changed and Data Link Layer State Changed of a vDSB, with its hot-plug interrupt (R63). -/
def State.hotPlug (s : State) (h v : Nat) : State :=
  let s := s.setCfgBits h (fnV v) 0x22 0x01080000
  let c := s.cfgW h (fnV v) 0x22
  if bitOf c 5 && (bitOf c 3 || bitOf c 12) then s.vdsbMsi h v else s

/-- The target that an attach word names, whatever RESET_PROP it carries. -/
def attachKey (w : Word) : Word := BitVec.ofNat 32 (place (fld w 30 28) 30 28 + fld w 16 0)

/-- Report every change of presence of a hierarchy (R63). A vDSB whose target a binding replaced by another one that is present reports
the loss of the one and the presence of the other (R64). -/
def State.recheckPresenceOf (s : State) (h : Nat) : State :=
  let new := s.presentList h
  let old := (s.hier h).present
  let tgt := new.filterMap (fun v => (s.attach h v).map (fun w => (v, attachKey w)))
  let moved := (old.filter new.contains).filter (fun v => tfind tgt v != tfind (s.hier h).targets v)
  if new = old ∧ moved.isEmpty then s
  else
    let changed := old.filter (fun v => !new.contains v) ++ moved ++ moved ++ new.filter (fun v => !old.contains v)
    let s := s.modHier h (fun x => { x with present := new, targets := tgt })
    s.each (changed.filter (fun v => s.vdsbShown h v)) (fun s v => s.hotPlug h v)

/-- Report every change of presence (R63). -/
def State.recheckPresence (s : State) : State := s.each (s.hiers.map (·.1)) State.recheckPresenceOf

/-! ### Resets (R73, R74) -/

/-- What a reset of a vDSB does to its target (R74). -/
def State.vdsbTargetReset (s : State) (w : Word) : State :=
  match attachType w with
  | .port =>
    if bitOf w.toNat 27 then
      let p := fld w 5 0
      let s := s.out (.hotReset p)
      if (s.port p).sup = .up ∨ (s.port p).sup = .held then s.portDetect p else s
    else s
  | .dmvVf => s.push (.dmvFlr (fld w 11 0))
  | _ => s

/-- The targets of a hierarchy's vDSBs, reset one by one (R73 step 6). -/
def State.vdsbResets (s : State) (h : Nat) : State :=
  s.each ((s.hier h).attach.filterMap (fun a => s.attach h a.1)) State.vdsbTargetReset

/-- A hierarchy reset (R73). `full` is false for a Secondary Bus Reset in the vUSB, which resets the vDSBs only. -/
def State.hierReset (s : State) (h : Nat) (full : Bool) : State :=
  let s := s.modHier h (fun x =>
    if full then { x with cfg := [], msix := [], pba := [], rstSbr := false }
    else { x with cfg := x.cfg.filter (fun c => c.1 < 2048) })
  let s := s.vdsbResets h
  (s.push (.hierReset h (s.hier h).onPort full)).push .recheck

/-- IN_RESET (R73). -/
def HierState.inReset (x : HierState) : Bool := x.rstPerst || x.rstLink || x.rstSbr || x.rstEnded

/-- A cause of IN_RESET begins: the hierarchy resets; a later end begins the reinitialisation of R75. -/
def State.beginReset (s : State) (h : Nat) (full : Bool) (f : HierState → HierState) : State :=
  (s.modHier h (fun x => { f x with reinit := true })).hierReset h full

/-- Configuration requests are answered with retry: before the first binding of this start (R32), and after the end of a
reset while the headers are reinitialised (R75). While a cause of IN_RESET holds, a request that still comes is answered as
usual: so a host clears a Secondary Bus Reset (R73). -/
def State.rrs (s : State) (h : Nat) : Bool :=
  s.glb.mode != .endpaper && (!s.glb.firstBound || ((s.hier h).reinit && !(s.hier h).inReset))

/-! ### Presentation (R62) -/

/-- The hierarchies enabled, in ascending number, with the port each names. -/
def State.enabledHiers (s : State) : List (Nat × Nat) :=
  (List.range 48).filterMap (fun h =>
    let w := s.act (offHvhCtl h)
    if bitOf w.toNat 31 then some (h, fld w 30 25) else none)

/-- Modes in which host ports present hierarchies (R57 to R62, Across the modes). -/
def State.presentsHiers (s : State) : Bool :=
  match s.glb.mode with
  | .standalone | .member | .anchor | .quiesced => true
  | _ => false

/-- The hierarchies that R62 presents: the lowest-numbered of each port, on host ports that are provided. -/
def State.winners (s : State) : List (Nat × Nat) :=
  if s.presentsHiers then
    let e := s.enabledHiers.filter (fun x => s.role x.2 == .host)
    e.filter (fun x => !e.any (fun y => y.2 == x.2 && decide (y.1 < x.1)))
  else []

/-- Two attach words name the same target (R62). -/
def attachClash (a b : Word) : Bool :=
  match attachType a, attachType b with
  | .port, .port => fld a 5 0 == fld b 5 0
  | .port, .ld => fld a 5 0 == fld b 5 0
  | .ld, .port => fld a 5 0 == fld b 5 0
  | .ld, .ld => fld a 5 0 == fld b 5 0 && fld a 15 12 == fld b 15 12
  | .fabric, .fabric => fld a 11 0 == fld b 11 0 && fld a 16 16 == fld b 16 16 && fld a 15 12 == fld b 15 12
  | .dmvVf, .dmvVf => fld a 11 0 == fld b 11 0
  | _, _ => false

/-- The active ATTACH words of a hierarchy that present their vDSB (R57). -/
def State.attachWords (s : State) (h : Nat) : List (Nat × Word) :=
  let base := 0x500100 + 0x4000 * h
  (s.regs.active.filter (fun x => decide (base ≤ x.1 ∧ x.1 < base + 0x100) && bitOf x.2.toNat 31)).map
    (fun x => ((x.1 - base) / 4, x.2))

/-- Which vDSBs keep their target, in ascending hierarchy and vDSB number: the losers (R62). -/
def clashLosers : List (Nat × Nat × Word) → List (Nat × Nat × Word) → List (Nat × Nat)
  | _, [] => []
  | kept, x :: t =>
    if kept.any (fun k => attachClash k.2.2 x.2.2) then (x.1, x.2.1) :: clashLosers kept t
    else clashLosers (kept ++ [x]) t

/-- The check of R62. `bind`: the check of a binding, at which each suppression raises the bind-conflict source. -/
def State.checkPresentation (s : State) (bind : Bool) : State :=
  let win := s.winners
  let losersH := if s.presentsHiers then (s.enabledHiers.filter (fun x => !win.contains x)).map (·.1) else []
  let all := win.flatMap (fun x => (s.attachWords x.1).map (fun a => (x.1, a.1, a.2)))
  let losersV := clashLosers [] (all.filter (fun a => attachType a.2.2 != .empty))
  -- hierarchies that cease to be presented on their port are reset (R73)
  let ceased := (s.hiers.filter (fun x => decide (x.1 < 48) && x.2.active && !win.contains (x.1, x.2.onPort))).map (·.1)
  let s := s.each ceased (fun s h =>
    (s.beginReset h true (fun x => { x with rstEnded := true })).modHier h (fun x => { x with active := false, attach := [], lost := [] }))
  let s := { s with hiers := tmap hier0 (fun h x => if h < 48 then { x with conflict := false, lost := [] } else x) s.hiers }
  let s := s.each win (fun s x =>
    s.modHier x.1 (fun y =>
      { y with active := true, onPort := x.2, rstEnded := false, rstLink := y.rstLink && !s.portActive x.2,
               rstPerst := y.rstPerst && (s.port x.2).perst, attach := s.attachWords x.1,
               lost := (losersV.filter (fun l => l.1 == x.1)).map (·.2) }))
  let s := s.each (losersH ++ losersV.map (·.1)) (fun s h => s.modHier h (fun y => { y with conflict := true }))
  let s := if bind then
      (s.each losersH (fun s h => s.raiseHier h 1)).each losersV (fun s l =>
        s.raiseHier l.1 1 { raise0 with vdsb := some l.2 })
    else s
  s.push .recheck

/-! ### Errors that PCI Express makes a function log (R331) -/

/-- An uncorrectable error that a function logs as an advisory non-fatal one where its severity allows (R331, PCI Express):
the status bits, and ERR_COR where mask and enable bits let it go. -/
def State.aerLogAdvisory (s : State) (h f bit : Nat) : State :=
  if bitOf (s.cfgW h f 0x43) bit then s.aerLogUncorr h f bit
  else
    let masked := bitOf (s.cfgW h f 0x42) bit
    let s := (s.setCfgBits h f 0x41 (2 ^ bit)).setCfgBits h f 0x44 0x2000
    let s := s.setCfgBits h f 0x1E 0x10000
    if masked || bitOf (s.cfgW h f 0x45) 13 then s else if bitOf (s.cfgW h f 0x1E) 0 then s.errMsg h f 0x30 else s

/-- An Unsupported Request at a function (R331, PCI Express): non-posted requests are advisory. -/
def State.urLog (s : State) (h f : Nat) (posted : Bool) : State :=
  let s := s.setCfgBits h f 0x1E 0x80000
  if posted then s.aerLogUncorr h f 20 else s.aerLogAdvisory h f 20

/-- A poisoned TLP received on a port (R317, R331). -/
def State.poisonedLog (s : State) (p : Nat) (t : Tlp) : State :=
  let s := s.raisePort p 7 { raise0 with addr := t.addr.toNat, hdr := t.hdr.toNat, cause := .poisoned }
  s.each (s.portFns p) (fun s a => s.aerLogAdvisory a.1 a.2 12)

/-- A TLP received on a port whose ECRC does not check (R124, R317, R331). -/
def State.ecrcLog (s : State) (p : Nat) (t : Tlp) : State :=
  let s := s.raisePort p 7 { raise0 with addr := t.addr.toNat, hdr := t.hdr.toNat, cause := .ecrc }
  s.each (s.portFns p) (fun s a => s.aerLogAdvisory a.1 a.2 19)

/-- A link error that PCI Express makes the port's functions log, whatever the severity (R331). -/
def State.linkLog (s : State) (p : Nat) (c : LinkCause) : State :=
  match aerCorr c, aerUncorr c with
  | some b, _ => s.each (s.portFns p) (fun s a => s.aerLogCorr a.1 a.2 b)
  | none, some b => s.each (s.portFns p) (fun s a => s.aerLogUncorr a.1 a.2 b)
  | none, none => s

end Sys2Proof.Machine
end

