-- ==== Sys2Proof/Machine/Buffer.lean ====
section
/-!
DEFINITION. The shared buffer: cells and their charges (R109 to R115), traffic classes (R116), queues and ordering types
(R117), generations (R97, R102), bookmarks (R23) and egress tags (R424).
-/
namespace Sys2Proof.Machine

/-! ### Packets -/

/-- The buffer class of a packet (R112). -/
def PktOp.bufClass : PktOp → BufClass
  | .memWrite | .msg => .p
  | .memRead | .atomic | .npWrite | .io | .cfgRead | .cfgWrite => .np
  | .cpl => .cpl
  | .cMemRd | .cMemWr | .cMemWrPtl => .mreq
  | .ndr | .drs => .mrsp
  | .biSnp | .biRsp => .mbi

/-- The ordering type of a packet (R117). -/
def PktOp.ordType : PktOp → OrdType
  | .memWrite | .msg => .p
  | .memRead | .atomic | .npWrite | .io | .cfgRead | .cfgWrite => .np
  | .cpl => .cpl
  | .cMemRd => .req
  | .cMemWr | .cMemWrPtl => .rwd
  | .ndr => .ndr
  | .drs => .drs
  | .biSnp => .bisnp
  | .biRsp => .birsp

/-- The buffer class of a packet (R112): a completion made of data responses keeps to theirs (R94, R113). -/
def Packet.bclass (x : Packet) : BufClass := if x.built then .mrsp else x.tlp.op.bufClass

/-- A request that expects an answer (R23). -/
def PktOp.nonPosted : PktOp → Bool
  | .memRead | .atomic | .npWrite | .io | .cfgRead | .cfgWrite | .cMemRd | .cMemWr | .cMemWrPtl | .biSnp => true
  | _ => false

/-- The CXL.mem packets. -/
def PktOp.isMem : PktOp → Bool
  | .cMemRd | .cMemWr | .cMemWrPtl | .ndr | .drs | .biSnp | .biRsp => true
  | _ => false

/-- A response, which needs no bookmark of its own. -/
def PktOp.response : PktOp → Bool
  | .cpl | .ndr | .drs | .biRsp => true
  | _ => false

/-- Cells of a packet with `n` bytes of payload (R109). -/
def cellsOf (n : Nat) : Nat := 1 + (n + 63) / 64

/-- Waits in a queue as a non-posted request, if the packet is one (R128, R131 step 3). -/
def OrdType.waiting : OrdType → Bool
  | .np | .req | .rwd => true
  | _ => false

/-! ### Occupancy and charges (R112, R113) -/

/-- The base of the SWC registers of a port (R135). -/
def offSwc (p : Nat) : Nat := 0x700000 + 0x400 * p

/-- A port of the switch core. -/
def State.swPort (s : State) (p : Nat) : SwPort := tget swPort0 s.path.swPorts p
/-- Change a port of the switch core. -/
def State.modSwPort (s : State) (p : Nat) (f : SwPort → SwPort) : State :=
  { s with path := { s.path with swPorts := tmod swPort0 s.path.swPorts p f } }

/-- Cells of the packets that a test picks. -/
def State.cellsWhere (s : State) (f : Packet → Bool) : Nat :=
  s.path.packets.foldl (fun n x => if f x.2 then n + x.2.cells else n) 0

/-- Cells that a mirror session holds (R339). -/
def Session.held (x : Session) : Nat := x.queue.foldl (fun n c => n + c.cells) 0

/-- Cells charged to the internal reserve (R112, R131). -/
def State.internalUsed (s : State) : Nat :=
  s.path.packets.foldl (fun n x => n + x.2.extra + (if x.2.charge = .internal then x.2.cells else 0)) 0

/-- Cells charged to the shared pool (R113); a mirror copy's count beside those of its packet (R339). -/
def State.poolUsed (s : State) : Nat :=
  s.cellsWhere (fun x => x.charge == .pool) + s.obs.sessions.foldl (fun n x => n + x.2.held) 0

/-- Reserves of the ports in use (R112, R115). -/
def State.reserveSum (s : State) : Nat :=
  s.links.ports.foldl (fun n x => if x.2.prov.isSome then n + (s.swPort x.1).rsv.sum else n) 0

/-- Cells of the shared pool: what the internal reserve and the port reserves leave (R112). -/
def State.poolSize (s : State) : Nat := 786432 - 16384 - s.reserveSum

/-- SWC_Pnn_SHOCC.SHARED_HELD: pool cells charged to an ingress (R113). -/
def State.sharedHeld (s : State) (i : Ingress) : Nat := s.cellsWhere (fun x => x.charge == .pool && x.holder == i)

/-- The queue of an egress port. -/
def State.queue (s : State) (p : Nat) : List QEntry := tget [] s.path.queues p

/-- SWC_Pnn_OCC.EGR_CELLS: cells queued to an egress (R135). -/
def State.egrCells (s : State) (p : Nat) : Nat := (s.queue p).foldl (fun n e => n + e.cells) 0

/-- Pool cells queued to an egress (R113). -/
def State.egrShared (s : State) (p : Nat) : Nat :=
  (s.queue p).foldl (fun n e =>
    match tfind s.path.packets e.pkt with
    | some x => if x.charge = .pool then n + e.cells else n
    | none => n) 0

/-- The register field that holds the reserve of a buffer class (R135): word offset and low bit. -/
def BufClass.rsvAt : BufClass → Nat × Nat
  | .p => (0, 0)
  | .np => (0, 16)
  | .cpl => (4, 0)
  | .mreq => (4, 16)
  | .mrsp => (8, 0)
  | .mbi => (8, 16)

/-- The number of a buffer class in BCLASS (R218). -/
def BufClass.code : BufClass → Nat
  | .p => 0
  | .np => 1
  | .cpl => 2
  | .mreq => 3
  | .mrsp => 4
  | .mbi => 5

/-- A class's reserve in force on one traffic class of a fabric port (R114, R115, R225). -/
def State.tcReserve (s : State) (p : Nat) (c : BufClass) : Nat := (s.swPort p).rsv.getD c.code 0 / 8

/-- The active reserves of a port, in the order P, NP, CPL, MREQ, MRSP, MBI (R112). -/
def State.newReserves (s : State) (p : Nat) : List Nat :=
  [BufClass.p, .np, .cpl, .mreq, .mrsp, .mbi].map (fun c => s.actF (offSwc p + c.rsvAt.1) (c.rsvAt.2 + 15) c.rsvAt.2)

/-- The new reserves exceed the limit of R112 (R115). -/
def State.reservesOver (s : State) : Bool :=
  decide (704512 < s.links.ports.foldl (fun n x => if x.2.prov.isSome then n + (s.newReserves x.1).sum else n) 0)

/-- Reserves take effect at a port's flow-control initialisation, unless they exceed the limit (R115). -/
def State.takeReserves (s : State) (p : Nat) : State :=
  if s.path.overcommit then s else s.modSwPort p (fun x => { x with rsv := s.newReserves p })

/-- Cells of that reserve in use, by packets of the present session of the link. -/
def State.tcReserved (s : State) (p : Nat) (c : BufClass) (tc : Nat) : Nat :=
  s.cellsWhere (fun x => x.charge == .reserve p c && x.tc == tc && x.session == s.bflSession p)

/-- Where a packet's cells are charged (R113; in fall-back, R236). DESIGN CHOICE (log 66): a packet of the device that finds neither the
internal reserve nor 65,536 cells of the pool free is charged to the internal reserve beyond its 16,384 cells. -/
def State.chargeOf (s : State) (i : Ingress) (c : BufClass) (tc cells : Nat) (egress : List Nat) : Charge :=
  match i with
  | .device =>
    if s.internalUsed + cells ≤ 16384 then .internal
    else if s.sharedHeld .device + cells ≤ 65536 ∧ s.poolUsed + cells ≤ s.poolSize then .pool
    else .internal
  | .port p =>
    if s.poolUsed + cells ≤ s.poolSize ∧ s.sharedHeld i + cells ≤ s.actF (offSwc p + 0xC) 19 0
        ∧ egress.all (fun e => decide (s.egrShared e + cells ≤ s.actF (offSwc e + 0x10) 19 0)) then .pool
    else if (s.bfl p).fbRx ∧ s.tcReserve p c < s.tcReserved p c tc + cells then .pool
    else .reserve p c

/-! ### Flow control of host, device and analysis ports (R113, R114, R128, R129) -/

/-- The credits that a packet takes, as (credit type, units) (R114). Types 0 to 5: headers and data of P, NP and CPL, data in units of
16 bytes; 6 to 11: the messages Req, RwD, NDR, DRS, BISnp, BIRsp. -/
def fcOf (t : Tlp) : List (Nat × Nat) :=
  let d := (t.payload.length + 15) / 16
  match t.op with
  | .memWrite | .msg => [(0, 1), (1, d)]
  | .memRead | .atomic | .npWrite | .io | .cfgRead | .cfgWrite => [(2, 1), (3, d)]
  | .cpl => [(4, 1), (5, d)]
  | .cMemRd => [(6, 1)]
  | .cMemWr | .cMemWrPtl => [(7, 1)]
  | .ndr => [(8, 1)]
  | .drs => [(9, 1)]
  | .biSnp => [(10, 1)]
  | .biRsp => [(11, 1)]

/-- Add the credits that a packet took to a count of credits. -/
def fcAdd (l : List Nat) (took : List (Nat × Nat)) : List Nat :=
  (List.range 12).map (fun k => l.getD k 0 + took.foldl (fun n x => if x.1 = k then n + x.2 else n) 0)

/-- The most that a link advertises of a credit type at the scaling it negotiated, 0 to 2 for factors of 1, 4 and 16 (PRESUMED, log 67:
the largest values of PCI Express, and those of the messages of CXL.mem, which scale with nothing). -/
def fcCap (scale k : Nat) : Nat := if 6 ≤ k then 2032 else 4 ^ scale * (if k = 1 ∨ k = 3 ∨ k = 5 then 2047 else 127)

/-- What a port advertises at flow-control initialisation, from the reserves in force (R114). -/
def State.fcAdvert (s : State) (p : Nat) : List Nat :=
  let r := fun (c : BufClass) => (s.swPort p).rsv.getD c.code 0
  [r .p / 4, r .p, r .np / 4, r .np, r .cpl / 4, r .cpl, r .mreq / 4, r .mreq / 4, r .mrsp / 4, r .mrsp / 4, r .mbi / 2,
    r .mbi / 2].zipIdx.map (fun x => min x.1 (fcCap (s.port p).fcScale x.2))

/-- The received packets of a port that hold credits (R113, R24, R80, R128), with what each took: those charged to its reserve, held before
their decode or after it, or waiting at a BAR. The parts of a request hold the credits of the one packet they came of. -/
def State.fcHolders (s : State) (p : Nat) : List (Nat × List (Nat × Nat)) :=
  ((s.path.packets.filter (fun x => x.2.ingress == .port p && (match x.2.charge with | .reserve _ _ => true | _ => false))).map
      (fun x => (x.2.arrival, x.2.took))
    ++ (s.path.heldRx.filter (fun y => y.rx.port == p)).map (fun y => (y.rx.arrival, y.rx.took))
    ++ (s.path.heldOut.filter (fun y => y.pkt.ingress == .port p)).map (fun y => (y.pkt.arrival, y.pkt.took))
    ++ s.mgmt.waiting.filterMap (fun a => match a with
        | .host _ _ x _ => if x.port = p then some (x.arrival, x.took) else none
        | _ => none)).eraseDups.filter (fun x => decide ((s.swPort p).fcSince < x.1))

/-- The total a port has given its partner of each credit type: the advertisement and what has been freed since. -/
def State.fcGiven (s : State) (p : Nat) : List Nat :=
  let held := (s.fcHolders p).foldl (fun l x => fcAdd l x.2) []
  (List.range 12).map (fun k => (s.swPort p).fcInit.getD k 0 + (s.swPort p).fcRcvd.getD k 0 - held.getD k 0)

/-- Flow-control initialisation of a host, device or analysis port (R114, R115). -/
def State.fcStart (s : State) (p : Nat) : State :=
  let a := s.fcAdvert p
  ((s.modBfl p (fun b => { b with session := b.session + 1 })).modSwPort p (fun x =>
    { x with fcInit := a, fcRcvd := [], fcTold := a, fcSince := s.path.arrivals })).out (.credits p a)

/-- A packet that a port received takes its credits. -/
def State.fcTake (s : State) (p : Nat) (t : Tlp) : State :=
  if (s.swPort p).fcInit.isEmpty then s else s.modSwPort p (fun x => { x with fcRcvd := fcAdd x.fcRcvd (fcOf t) })

/-- A port tells its partner of credits that were freed (R113). -/
def State.fcTell (s : State) (p : Nat) : State :=
  if (s.swPort p).fcInit.isEmpty then s
  else
    let a := s.fcGiven p
    if a = (s.swPort p).fcTold then s else (s.modSwPort p (fun x => { x with fcTold := a })).out (.credits p a)

/-- Every port tells its partner of credits that were freed. -/
def State.fcTellAll (s : State) : State := s.each (s.path.swPorts.map (·.1)) State.fcTell

/-- Traffic class and share group of a packet (R116); `carried` is the class in a Brodoth packet. -/
def State.classOf (s : State) (i : Ingress) (t : Tlp) (carried : Nat) : Nat × Nat :=
  match i with
  | .device => (s.actF 0x710100 8 6, s.actF 0x710100 5 0)
  | .port p =>
    let g := s.actF (offSwc p + 0x18) 5 0
    if s.role p = .fabric then (carried, g)
    else if t.op.isMem then (s.actF (offSwc p + 0x18) 8 6, g)
    else (bitsOf (s.act (offSwc p + 0x14)).toNat (3 * t.tc.val + 2) (3 * t.tc.val), g)

/-- The lines a stretch of bytes touches. -/
def linesOf (a len : Nat) : Nat := if len = 0 then 0 else (a + len - 1) / 64 - a / 64 + 1

/-- Discard prefetched data that a test picks, counting its lines per hierarchy (R82). -/
def State.pfDiscard (s : State) (f : Prefetch → Bool) : State :=
  let gone := s.path.prefetch.filter f
  if gone.isEmpty then s
  else
    let s := { s with path := { s.path with prefetch := s.path.prefetch.filter (fun x => !f x) } }
    s.each gone (fun s x => s.countHier x.hier 5 (linesOf x.addr x.len))

/-! ### Generations (R97, R102) -/

/-- Whether a slot is live (R97): it is current, or a packet, bookmark or held request carries its stamp. -/
def State.slotLive (s : State) (k : Nat) : Bool :=
  k == s.path.slotAt || s.path.packets.any (fun x => x.2.slot == k) || s.path.bookmarks.any (fun x => x.2.slot == k)
    || s.path.heldOut.any (fun x => x.pkt.slot == k)

/-- Live slots (R97, R102). -/
def State.liveSlots (s : State) : Nat := ((List.range 16).filter s.slotLive).length

/-- Advance the generation (R97): the next free slot becomes current. A binding that finds all 16 slots live shares the
slot of the newest live generation, and all prefetched data is discarded and counted (R102, R82). -/
def State.advanceGen (s : State) : State :=
  let g := s.path.gen + 1
  let s := { s.countDev 11 with path := { s.path with genAt := some s.cclkNow } }
  match ((List.range 16).map (fun i => (s.path.slotAt + 1 + i) % 16)).find? (fun k => !s.slotLive k) with
  | some k =>
    { s with path := { s.path with gen := g, slotAt := k, slots := s.path.slots.set k ⟨true, g⟩ } }
  | none =>
    (({ s with path := { s.path with gen := g, slots := s.path.slots.set s.path.slotAt ⟨true, g⟩ } }).countDev 1).pfDiscard (fun _ => true)

/-- The advance of an event whose CCLK is fixed, E0 of a binding or a flip (R97): events in the same CCLK advance the generation once. -/
def State.advanceTimed (s : State) : State := if s.path.genAt = some s.cclkNow then s else s.advanceGen

/-! ### Bookmarks (R23, R24) -/

/-- The lowest number from `i` on that a sparse table does not list. -/
def lowestFree {α : Type} : Tbl α → Nat → Nat
  | [], i => i
  | (k, _) :: t, i => if k = i then lowestFree t (i + 1) else if i < k then i else lowestFree t i

/-- Bookmarks drawn from the shared pool of 47,104 (R23). -/
def State.bmShared (s : State) : Nat := (s.path.bookmarks.filter (fun x => !x.2.fromReserve)).length

/-- The reserve a bookmark would be drawn from has one free (R23): 256 for a port, 2,048 for the data mover, none for the
device. -/
def State.bmReserveFree (s : State) (port : Option Nat) (dmv : Bool) : Bool :=
  if dmv then decide ((s.path.bookmarks.filter (fun x => x.2.dmv && x.2.fromReserve)).length < 2048)
  else match port with
    | some p => decide ((s.path.bookmarks.filter (fun x => x.2.port == some p && !x.2.dmv && x.2.fromReserve)).length < 256)
    | none => false

/-- The port a bookmark is charged to (R23): none for one of the data mover, or of the device's own engines. -/
def Bookmark.charged (y : Bookmark) : Option Nat := if y.dmv then none else y.port

/-- Whether a bookmark can be had now (R23, R24). -/
def State.bmAvailable (s : State) (port : Option Nat) (dmv : Bool) : Bool :=
  s.bmReserveFree port dmv || decide (s.bmShared < 47104)

/-- A bookmark. -/
def State.bm (s : State) (b : Nat) : Option Bookmark := tfind s.path.bookmarks b

/-- Take a bookmark: its number and the state with it (R23). The reserve is drawn first, then the shared pool. Its callers see to it
that one is to be had: requests that find none wait (R24, R23, R172). -/
def State.takeBookmark (s : State) (x : Bookmark) : Nat × State :=
  let b := lowestFree s.path.bookmarks 0
  let y := { x with num := b, fromReserve := s.bmReserveFree x.port x.dmv, born := s.cclkNow }
  (b, { s with path := { s.path with bookmarks := tins s.path.bookmarks b y } })

/-- Change a bookmark in use. -/
def State.bmSet (s : State) (b : Nat) (x : Bookmark) : State :=
  { s with path := { s.path with bookmarks := tins s.path.bookmarks b x } }

/-- Requests held for a bookmark, a lock or a queue may go on (R24). -/
def State.retryHeld (s : State) : State := if s.path.heldRx.isEmpty && s.path.heldOut.isEmpty then s else s.push .retryHeld

/-- A write to a migrating folio may have settled (R169). -/
def State.migNote (s : State) (m : Option (Nat × Bool)) : State :=
  match m with | some (c, _) => s.push (.migCheck c) | none => s

/-- Free a bookmark with its egress tags (R424). -/
def State.bmFree (s : State) (b : Nat) : State :=
  let m := (s.bm b).bind (·.mig)
  ({ s with path := { s.path with bookmarks := tdel s.path.bookmarks b } }).retryHeld.migNote m

/-- Quarantine a bookmark: it and its tags stay in use until the quarantine ends (R78). -/
def State.bmQuarantine (s : State) (b : Nat) : State :=
  match s.bm b with
  | some x => (s.bmSet b { x with quarantined := true }).migNote x.mig
  | none => s

/-- A bookmark with the details of a request, before it is taken. -/
def bookmark0 : Bookmark :=
  { purpose := .host, num := 0, flow := [], port := none, dmv := false, fromReserve := false, ingress := .device, hier := none, tlp := tlp0, srcFid := 0,
    slot := 0, gen := 0, tc := 0, group := 0, timer := 0, quarantined := false, discard := false, tags := [], ports := [],
    gather := none, merge := [], minAck := 0, timed := false, tried := [], returned := 0, lines := [], lineBase := 0, target := 0, converted := false, mig := none,
    guardEnd := false, folio := 0, born := 0 }

/-- The timer value of a CTO code, in µs (R60, R61). -/
def ctoUs (c : Nat) : Nat :=
  match c with
  | 0 => 1000
  | 1 => 4000
  | 2 => 16000
  | 3 => 50000
  | _ => 200000

/-- The completion timeout of a request by where it entered (R77). -/
def State.timerOf (s : State) (i : Ingress) : Nat :=
  match i with
  | .device => ctoUs (s.dirF 0x5C0008 2 0)
  | .port p =>
    match s.role p with
    | .fabric => ctoUs (s.dirF 0x5C0008 6 4)
    | .host => match s.hierOn p with | some h => ctoUs (s.actF (offHvhCtl h) 21 19) | none => ctoUs 3
    | _ => ctoUs (s.dirF 0x5C0008 2 0)

/-! ### Egress tags (R424) -/

/-- How many tags a link's protocol has (R424). -/
def State.tagSpace (s : State) (p : Nat) (mem : Bool) : Nat :=
  if s.role p = .fabric ∨ mem then 65536
  else if (s.port p).flit then 16384
  else if 3 ≤ (s.port p).rate then 1024
  else 256

/-- Tags in use at a port; CXL.mem and CXL.io have tag spaces of their own (R424). -/
def State.tagsUsed (s : State) (p : Nat) (mem : Bool) : List Nat :=
  s.path.bookmarks.flatMap (fun x => (x.2.tags.filter (fun t => !t.done && t.port == p && t.mem == mem)).map (·.tag))

/-- The free tag number `k` of a space, counted in ascending order from the choice the device makes: which free tag it
takes is open (R424). -/
def pickFree (used : List Nat) (size : Nat) : Nat → Nat → Option Nat
  | 0, _ => none
  | n + 1, i => if used.contains (i % size) then pickFree used size n (i + 1) else some (i % size)

/-- A free tag at a port, if there is one. -/
def State.freeTag (s : State) (p : Nat) (mem : Bool) (choice : Nat) : Option Nat :=
  let used := s.tagsUsed p mem
  pickFree used (s.tagSpace p mem) (used.length + 1) (choice % s.tagSpace p mem)

end Sys2Proof.Machine
end

