-- ==== Sys2Proof/Machine/Queue.lean ====
section
/-!
DEFINITION. Queues: routing by fabric ID (R105 to R107, R188, R208), entering an egress queue (R113, R117), flushing (R131,
R132), and sending an answer toward a request's source.
-/
namespace Sys2Proof.Machine

/-! ### Routing by fabric ID -/

/-- The fabric ID of the device's internal edge, while it has one (R186). -/
def State.internalFid (s : State) : Option Nat :=
  if bitOf (s.act 0xA0000C).toNat 31 then some (s.actF 0xA0000C 11 0) else none

/-- The fabric ID of a host or device port as an edge (R186), unless it is lost to another edge (R189). -/
def State.portFid (s : State) (p : Nat) : Option Nat :=
  let w := s.act (0xA00100 + 4 * p)
  if bitOf w.toNat 12 && (s.role p == .host || s.role p == .device) && !s.fabric.idLost.contains p then some (fld w 11 0) else none

/-- The edge where a packet of this ingress enters the fabric (R106, R186). -/
def State.edgeFid (s : State) : Ingress → Option Nat
  | .device => s.internalFid
  | .port p => s.portFid p

/-- A fabric port may be used as a next hop (R208). -/
def State.hopActive (s : State) (p : Nat) : Bool :=
  s.role p == .fabric && (s.bfl p).phase == .active && bitOf (s.act (0xA00100 + 4 * p)).toNat 31

/-- Next hop j of a routing entry (R105). -/
def nextHop (e : Quad) (j : Nat) : Nat := qfld e (29 + 6 * j) (24 + 6 * j)

/-- The candidate index of R106. -/
def ecmpIndex (src dst tc salt count : Nat) : Nat :=
  let x := src * 2 ^ 15 + dst * 8 + tc
  ((bitsOf x 8 0 ^^^ bitsOf x 17 9 ^^^ bitsOf x 26 18) ^^^ salt) % (count + 1)

/-- Where a packet to a fabric ID goes. -/
inductive RouteTo where
  | hop (p : Nat) (release : Option Nat)
  | edge (p : Nat)
  | internal
  | none
  deriving DecidableEq, Repr

/-- The release time of a packet routed shortly after a change of its entry (R208), in CCLK: HOLD is in units of 4 µs. -/
def State.routeRelease (s : State) (dst : Nat) : Option Nat :=
  match tfind s.path.routeChanged dst with
  | some t =>
    let rel := t + 6400 * s.actF 0xA00008 7 0
    if s.cclkNow < rel then some rel else Option.none
  | Option.none => Option.none

/-- The route of a packet (R105 to R107, R188). -/
def State.routeFid (s : State) (src dst tc : Nat) : RouteTo :=
  if s.internalFid = some dst then .internal
  else
    let e := s.route dst
    match s.routeKind dst with
    | 1 => .edge (qfld e 17 12)
    | 2 =>
      let n := qfld e 23 22
      let c := ecmpIndex src dst tc (s.actF 0x631000 8 0) n
      match ((List.range (n + 1)).map (fun i => nextHop e ((c + i) % (n + 1)))).find? s.hopActive with
      | some p => .hop p (s.routeRelease dst)
      | Option.none => .none
    | _ => .none

/-- A port that began or ceased to be a usable next hop sets the change instant of every entry that names it (R208). -/
def State.routePortChanged (s : State) (p : Nat) : State :=
  let ids := (s.path.route.map (·.1)).filter (fun i =>
    s.routeKind i == 2 && (List.range (qfld (s.route i) 23 22 + 1)).any (fun j => nextHop (s.route i) j == p))
  { s with path := { s.path with routeChanged := ids.foldl (fun t i => tins t i s.cclkNow) s.path.routeChanged } }

/-! ### Entering a queue -/

/-- A copy that leaves as it is. -/
def copyTo (p : Nat) (t : Tlp) : Copy :=
  { port := p, typ := t.op.ordType, addr := t.addr, ld := none, dstFid := none, member := none, convert := false, release := none,
    word := 0 }

/-- A packet before it is charged and queued. -/
def packet0 : Packet :=
  { tlp := tlp0, ingress := .device, cls := .p, tc := 0, group := 0, slot := 0, gen := 0, cells := 1, charge := .pool, extra := 0,
    holder := .device, refs := 0, bookmark := none, srcFid := 0, dstFid := none, ttl := 8, hier := none, mig := none, born := 0, gather := none, session := 0, repl := false, bad := none, dmv := none, built := false,
    arrival := 0, took := [], answers := none, flow := [] }

/-- The response a device makes for a request (R93, R131): a completion, a data response or a no-data response. -/
def responseTo (req : Tlp) (status : CplStatus) (poison : Bool) (data : List Byte) (synth : Bool) : Tlp :=
  { tlp0 with
    op := (match req.op with
      | .cMemRd => .drs
      | .cMemWr | .cMemWrPtl => .ndr
      | .biSnp => .biRsp
      | _ => .cpl),
    addr := req.addr, len := data.length, payload := data, reqId := req.reqId, tag := req.tag, tc := req.tc, ep := poison,
    ld := req.ld, status := status, synth := synth, rest := req.len + req.rest }

/-- A response to the part of a request from byte `off` on (R91, R428): its byte count is what is left from there. -/
def Tlp.restFrom (t : Tlp) (req : Tlp) (off : Nat) : Tlp := { t with rest := req.len - off + req.rest }

/-- A copy is of interest to counters, captures or mirrors only while some selection is set (R335, R339, R345). -/
def State.observing (s : State) : Bool :=
  s.regs.active.any (fun x => decide (0xF10000 ≤ x.1 ∧ x.1 < 0xF20000) || decide (0x1010000 ≤ x.1 ∧ x.1 < 0x1040000))
    || !s.obs.caps.isEmpty

/-- Put one copy on its queue (R117); a port in L1 leaves it (R257). -/
def State.enterQueue (s : State) (id : Nat) (x : Packet) (c : Copy) : State :=
  let e : QEntry :=
    { age := s.path.nextAge, pkt := id, typ := c.typ, tc := x.tc, group := x.group, cells := x.cells + x.extra, addr := c.addr, ld := c.ld,
      dstFid := c.dstFid, member := c.member, convert := c.convert, underrun := false, release := c.release, word := c.word }
  let s := { s with path := { s.path with
    nextAge := s.path.nextAge + 1, queues := tput [] s.path.queues c.port (s.queue c.port ++ [e]) } }
  let s := if c.release.isSome then s.countPort c.port 16 else s
  let s := if (s.port c.port).inL1 then s.modPort c.port (fun y => { y with inL1 := false }) else s
  if s.observing then s.push (.enqueued c.port x c.typ) else s

/-- A copy of a packet is gone: its cells are freed with the last copy (R113, R142). -/
def State.dropCopy (s : State) (id : Nat) : State :=
  match tfind s.path.packets id with
  | some x =>
    if x.refs ≤ 1 then ({ s with path := { s.path with packets := tdel s.path.packets id } }).retryHeld.migNote x.mig
    else { s with path := { s.path with packets := tins s.path.packets id { x with refs := x.refs - 1 } } }
  | none => s

/-- Queue the copies of a packet, charged under R113; the copies for ports whose data link layer is down are given back
to be flushed on arrival (R132). `cell`: the packet is an answer built in the header cell of the request it answers, which stays charged
as it was (R131). -/
def State.queuePacket (s : State) (x : Packet) (cs : List Copy) (cell : Option (Charge × Ingress) := none) : State × List Copy :=
  let go := cs.filter (fun c => s.portActive c.port)
  let dead := cs.filter (fun c => !s.portActive c.port)
  if go.isEmpty then (s, dead)
  else
    let id := s.path.nextPkt
    let cells := cellsOf x.tlp.payload.length
    let y := { x with
      cls := x.bclass, refs := go.length, repl := decide (1 < go.length),
      session := (match x.ingress with | .port p => s.bflSession p | .device => 0) }
    let y := match cell with
      | some c => { y with cells := 1, extra := cells - 1, charge := c.1, holder := c.2 }
      | none =>
        { y with cells := cells, extra := 0, holder := x.ingress,
                 charge := s.chargeOf x.ingress x.bclass x.tc cells (go.map (·.port)) }
    let s := { s with path := { s.path with nextPkt := id + 1, packets := tins s.path.packets id y } }
    (s.each go (fun s c => s.enterQueue id y c), dead)

/-- The stamp, class and group that a packet of the device takes (R97, R116). -/
def State.devicePacket (s : State) (t : Tlp) : Packet :=
  { packet0 with
    tlp := t, ingress := .device, tc := (s.classOf .device t 0).1, group := (s.classOf .device t 0).2, slot := s.path.slotAt,
    gen := s.path.gen, srcFid := s.internalFid.getD 0, born := s.cclkNow }

/-- The late-fault source of the ingress port of a packet found bad, and its count (R124). -/
def State.lateFault (s : State) (x : Packet) : State :=
  match x.ingress with
  | .port q => (s.raisePort q 10 { raise0 with addr := x.tlp.addr.toNat, hdr := x.tlp.hdr.toNat }).countPort q 10
  | .device => s

/-- A payload of which only the first `got` bytes arrived, sent with EP = 1 and zeros for the rest (R126). -/
def Tlp.mended (t : Tlp) (got : Nat) : Tlp :=
  { t with payload := (t.payload.take got ++ List.replicate (t.len - min got t.payload.length) (0 : Byte)).take t.len, ep := true,
           ecrc := t.ecrc.anew }

/-- Send a response toward the source of a request (R87, R131). `x` carries the response and its class; a source behind a
fabric port is reached by its fabric ID, one with no route left is dropped and counted (R105). In ENDPAPER P00 has a
direct path (Across the modes of the switch core). -/
def State.sendToward (s : State) (x : Packet) (ing : Ingress) (fid : Nat) (cell : Option (Charge × Ingress) := none) : State :=
  match ing with
  | .device => s
  | .port p =>
    if s.glb.mode = .endpaper then
      ((s.countPort p 1).countPort p 3 x.tlp.payload.length).out (.tx p x.tlp none 0 none 0)
    else if s.role p = .fabric then
      let s := s.checkRoute fid
      match s.routeFid x.srcFid fid x.tc with
      | .hop q rel =>
        (s.queuePacket { x with dstFid := some fid } [{ copyTo q x.tlp with dstFid := some fid, release := rel }] cell).1
      | _ => s.countDev 7
    else
      let r := s.queuePacket x [copyTo p x.tlp] cell
      if r.2.isEmpty then r.1 else (r.1.countPort p 15).countPort p 13

/-- Answer a request from the device itself (R93, R116): synthesised, in the device's own class. -/
def State.answer (s : State) (ing : Ingress) (fid : Nat) (req : Tlp) (status : CplStatus) (poison : Bool) (data : List Byte)
    (cell : Option (Charge × Ingress) := none) : State :=
  s.sendToward (s.devicePacket (responseTo req status poison data true)) ing fid cell

/-- Bytes of a data response sent with the poison bit set: the spec gives poisoned data no value, so each is free. -/
def poisonData (n : Nat) : List Byte := (List.range n).map Config.poisonByte

/-- The outcome of R93 for a request the device does not carry out: what "unmapped or not permitted" answers. -/
def refusalOf (req : Tlp) : Option (CplStatus × Bool × List Byte) :=
  match req.op with
  | .cMemRd => some (.ok, true, poisonData 64)
  | .cMemWr | .cMemWrPtl => some (.ok, false, [])
  | .memRead | .atomic | .npWrite | .io | .cfgRead | .cfgWrite => some (.ur, false, [])
  | _ => none

/-- The functions of a port log the Unsupported Request that they complete or drop (R331). -/
def State.refuseLog (s : State) (p : Nat) (req : Tlp) : State :=
  match req.op with
  | .memRead | .atomic | .npWrite | .io | .cfgRead | .cfgWrite => s.each (s.portFns p) (fun s a => s.urLog a.1 a.2 false)
  | .memWrite => s.each (s.portFns p) (fun s a => s.urLog a.1 a.2 true)
  | .msg => if req.route = .ptm then s.each (s.portFns p) (fun s a => s.urLog a.1 a.2 true) else s
  | _ => s

/-- Refuse a request as the "unmapped or not permitted" column of R93 states: answered, or dropped and counted (R342
events 4 and 5), and logged (R331). -/
def State.refuse (s : State) (ing : Ingress) (fid : Nat) (req : Tlp) : State :=
  let s := match ing with | .port p => s.refuseLog p req | .device => s
  match refusalOf req with
  | some r =>
    let s := s.answer ing fid req r.1 r.2.1 r.2.2
    match ing with | .port p => s.countPort p 5 | .device => s
  | none => match ing with | .port p => s.countPort p 4 | .device => s

/-- The expiry answer of R77 for a request: Completer Abort, poison, or nothing. -/
def expiryOf (req : Tlp) : Option (CplStatus × Bool × List Byte) :=
  match req.op with
  | .cMemRd => some (.ok, true, poisonData 64)
  | .memRead | .atomic | .npWrite | .io | .cfgRead | .cfgWrite => some (.ca, false, [])
  | _ => none

/-- The flush answer of R131 step 3: Unsupported Request, poison, or nothing. -/
def flushOf (req : Tlp) : Option (CplStatus × Bool × List Byte) :=
  match req.op with
  | .cMemRd => some (.ok, true, poisonData 64)
  | .memRead | .atomic | .npWrite | .io | .cfgRead | .cfgWrite => some (.ur, false, [])
  | _ => none

/-- The non-posted requests that wait at a port (R128). -/
def State.npWaiting (s : State) (p : Nat) : Nat :=
  ((s.queue p).filter (fun e => e.typ.waiting &&
    (match tfind s.path.packets e.pkt with | some x => x.tlp.op.nonPosted | none => false))).length

/-! ### Flushing (R131, R132) -/

/-- The data mover learns that a converted copy of its write is lost (R297): LEN 0 for the failure, LEN 1 for the end. -/
def State.dmvLost (s : State) (x : Packet) (typ : OrdType) : State :=
  match x.dmv with
  | some (f, k, n) =>
    if typ = .rwd then
      (s.push (.dmvCpl f k n { tlp0 with op := .ndr, status := .ca })).push (.dmvCpl f k n { tlp0 with op := .ndr, len := 1 })
    else s
  | none => s

/-- One copy is flushed: a non-posted request is answered through its bookmark, or toward its source where this device
holds none, in its header cell; anything else is dropped. -/
def State.flushCopy (s : State) (p : Nat) (x : Packet) (typ : OrdType) (member : Option Nat) (line : Nat) : State :=
  let cell := some (x.charge, x.holder)
  if typ.waiting && x.tlp.op.nonPosted then
    let s := s.countPort p 14
    match x.bookmark with
    | some b => s.push (.bmResult b member line (.flushed cell))
    | none =>
      match flushOf x.tlp with
      | some r => s.answer x.ingress x.srcFid x.tlp r.1 r.2.1 r.2.2 cell
      | none => s
  else
    let s := s.countPort p 13
    match x.bookmark with
    | some b => if x.tlp.op = .biSnp then s.bmQuarantine b else s.push (.bmResult b member line (.flushed none))
    | none => s.dmvLost x typ

/-- Queue a packet; copies for dead ports are flushed on arrival (R132). -/
def State.enqueueGood (s : State) (x : Packet) (cs : List Copy) : State :=
  let y := { x with
    holder := x.ingress, charge := s.chargeOf x.ingress x.bclass x.tc (cellsOf x.tlp.payload.length) (cs.map (·.port)) }
  let r := s.queuePacket x cs
  r.1.each r.2 (fun s c => (s.countPort c.port 15).flushCopy c.port y c.typ c.member 0)

/-- Queue a packet, unless it was found bad as its tail arrived, before any of it was sent (R124 to R126): a request is not sent, and
is answered as on expiry where this device holds its bookmark; a response goes on with EP = 1. -/
def State.enqueue (s : State) (x : Packet) (cs : List Copy) : State :=
  if !x.tlp.ecrc.isBad then s.enqueueGood x cs
  else
    let s := s.lateFault x
    if x.tlp.op.response then
      s.enqueueGood { x with tlp := x.tlp.mended x.tlp.payload.length, bad := some (0, x.tlp.payload.length + 1) } cs
    else
      match x.bookmark with
      | some b => s.push (.bmResult b none 0 .synthesised)
      | none => s

/-- Flush every copy queued to a port (R131 steps 1 to 4). -/
def State.flushPort (s : State) (p : Nat) : State :=
  let q := s.queue p
  let s := s.modSwPort p (fun x => { x with flushing := true, classDeficit := [], groupDeficit := [] })
  let s := { s with path := { s.path with queues := tdel s.path.queues p } }
  s.each q (fun s e =>
    match tfind s.path.packets e.pkt with
    | some x => ((s.flushCopy p x e.typ e.member 0).dropCopy e.pkt)
    | none => s)

end Sys2Proof.Machine
end

