-- ==== Sys2Proof/Machine/Guard.lean ====
section
/-!
DEFINITION. The access guard (R306 to R314): the deciding area of a byte, the parts of a request, faults.
-/
namespace Sys2Proof.Machine

/-- The guard spaces of R306. -/
inductive Space where
  | folio | host | peer
  deriving DecidableEq, Repr

/-- The encoding of SPACE (R309). -/
def spaceCode : Space → Nat
  | .folio => 0
  | .host => 1
  | .peer => 2

/-- Who a guarded request comes from (R306, R313). -/
inductive GuardSrc where
  | port (p : Nat)
  | fn (f : Nat)
  | mep (h : Nat)
  | restricted (h : Nat)
  deriving DecidableEq, Repr

/-- What a request does to each byte (R309). -/
inductive GuardUse where
  | read | write | atomic | zeroRead
  deriving DecidableEq, Repr

/-- The slot that decides (R306): its key, and the BAR0 offset of its areas (R309). -/
def State.guardSlot (s : State) : GuardSrc → Nat
  | .port p => p
  | .fn f => 64 + f
  | .mep h | .restricted h => s.actF (offHvhCtl h) 30 25

/-- The BAR0 offset of a slot's first area (R309). -/
def slotBase (k : Nat) : Nat := if k < 64 then 0xD00000 + 0x80 * k else 0xD10000 + 0x80 * (k - 64)

/-- Area j of a slot decides a byte at guard address g in a space (R309). -/
def State.areaHits (s : State) (k j : Nat) (sp : Space) (g : Nat) : Bool :=
  let b := slotBase k + 0x10 * j
  let lo := s.act b
  let base := 2 ^ 32 * (s.act (b + 4)).toNat + 4096 * fld lo 31 12
  let limit := 2 ^ 32 * (s.act (b + 12)).toNat + 4096 * s.actF (b + 8) 31 12
  bitOf lo.toNat 0 && fld lo 11 10 == spaceCode sp && decide (base ≤ g ∧ g ≤ limit + 4095)

/-- The lowest-numbered area that decides a byte (R309). -/
def State.decidingArea (s : State) (k : Nat) (sp : Space) (g : Nat) : Option Nat :=
  (List.range 8).find? (fun j => s.areaHits k j sp g)

/-- Whether an area, or the default map where none decides, allows a use (R309, R310). -/
def State.useAllowed (s : State) (src : GuardSrc) (sp : Space) (u : GuardUse) (k : Nat) : Option Nat → Bool
  | some j =>
    let lo := s.act (slotBase k + 0x10 * j)
    match u with
    | .read => bitOf lo.toNat 9
    | .write => bitOf lo.toNat 8
    | .atomic => bitOf lo.toNat 9 && bitOf lo.toNat 8
    | .zeroRead => bitOf lo.toNat 9 || bitOf lo.toNat 8
  | none =>
    match src with
    | .mep h | .restricted h => sp == .host && s.privHier == some h
    | _ => false

/-- A part of a guarded request: offset, length, allowed (R311). -/
structure GuardPart where
  off : Nat
  len : Nat
  ok : Bool
  deriving DecidableEq, Repr

/-- The parts of a request (R311): it is divided at a 4 KiB boundary where the deciding area, or the absence of one,
changes. A request of more than 4,096 bytes is taken page by page. -/
def State.guardPartsFrom (s : State) (src : GuardSrc) (sp : Space) (u : GuardUse) (k : Nat) : Nat → Nat → Nat → Nat →
    List (Option Nat × GuardPart)
  | 0, _, _, _ => []
  | n + 1, g, off, len =>
    let a := s.decidingArea k sp g
    let here := min len (4096 - g % 4096)
    let ok := s.useAllowed src sp u k a
    if len ≤ here then [(a, ⟨off, len, ok⟩)]
    else
      match s.guardPartsFrom src sp u k n (g + here) (off + here) (len - here) with
      | (b, p) :: t => if a = b then (a, ⟨off, here + p.len, ok⟩) :: t else (a, ⟨off, here, ok⟩) :: (b, p) :: t
      | [] => [(a, ⟨off, here, ok⟩)]

/-- The guard's decision on a request. -/
def State.guardParts (s : State) (src : GuardSrc) (sp : Space) (u : GuardUse) (g len : Nat) : List GuardPart :=
  (s.guardPartsFrom src sp u (s.guardSlot src) (len / 4096 + 2) g 0 len).map (·.2)

/-- The first forbidden guard address. -/
def firstForbidden (g : Nat) : List GuardPart → Option Nat
  | [] => none
  | p :: t => if p.ok then firstForbidden g t else some (g + p.off)

/-- SRC and INSTANCE of AGD_LAST_INFO (R313). -/
def guardSrcCode : GuardSrc → Nat × Nat
  | .port p => (0, p)
  | .fn f => (1, f)
  | .mep h => (2, h)
  | .restricted h => (3, h)

/-- Record a fault (R313): the source, FAULTS, and AGD_LAST in one CCLK. `i`: the details of the packet refused (R325), where
one was received. -/
def State.guardFault (s : State) (src : GuardSrc) (sp : Space) (u : GuardUse) (addr : Nat) (i : Option RaiseInfo := none) : State :=
  let k := s.guardSlot src
  let s := { s with agd := { s.agd with
    faults := tmod 0 s.agd.faults k (wrapInc 16), lastAddr := addr, seq := wrapInc 8 s.agd.seq, space := spaceCode sp,
    wr := (u == GuardUse.write || u == GuardUse.atomic), src := (guardSrcCode src).1, inst := (guardSrcCode src).2 } }
  let i := i.getD { raise0 with addr := addr }
  if k < 64 then s.raisePort k 13 i else s.raiseDev 1492 (k - 64) i

/-- A request divided into two parts (R313). -/
def State.guardSplit (s : State) (src : GuardSrc) : State :=
  { s with agd := { s.agd with splits := tmod 0 s.agd.splits (s.guardSlot src) (wrapInc 16) } }

/-- The whole range that a restricted command would write is checked before its first write (R314): no request is issued, so none is
divided. The answer tells whether a byte is forbidden. -/
def State.guardRange (s : State) (h a len : Nat) : Bool × State :=
  match firstForbidden a (s.guardParts (.restricted h) .host .write a len) with
  | some x => (true, s.guardFault (.restricted h) .host .write x)
  | none => (false, s)

/-- Check a request and record what R313 records. `whole`: R312 divides no request of its kind, so none is counted as divided. -/
def State.guard (s : State) (src : GuardSrc) (sp : Space) (u : GuardUse) (g len : Nat) (i : Option RaiseInfo := none)
    (whole : Bool := false) : List GuardPart × State :=
  let ps := s.guardParts src sp u g len
  let s := if 2 ≤ ps.length && !whole then s.guardSplit src else s
  match firstForbidden g ps with
  | some a => (ps, s.guardFault src sp u a i)
  | none => (ps, s)

end Sys2Proof.Machine
end

