-- ==== Sys2Proof/Machine/Gather.lean ====
section
/-!
DEFINITION. The gathering table (R136 to R140, R155 to R161): fields, acting primary, checks of an entry, losing a member.
-/
namespace Sys2Proof.Machine

/-- Word 2 + m of an entry: member m (R136). -/
def GEntry.memberWord (e : GEntry) (m : Nat) : Quad :=
  match m with
  | 0 => e.w2
  | 1 => e.w3
  | _ => e.w4

/-- Fields of R136. -/
def GEntry.typ (e : GEntry) : Nat := qfld e.w0 51 50
def GEntry.count (e : GEntry) : Nat := qfld e.w0 47 28
def GEntry.first (e : GEntry) : Nat := qfld e.w0 18 0
def GEntry.mark (e : GEntry) : Nat := qfld e.w1 39 20
def GEntry.minAck (e : GEntry) : Nat := qfld e.w1 5 4
def GEntry.primary (e : GEntry) : Nat := qfld e.w1 1 0
def GEntry.mState (e : GEntry) (m : Nat) : Nat := qfld (e.memberWord m) 55 54
def GEntry.mKind (e : GEntry) (m : Nat) : Nat := qfld (e.memberWord m) 53 52
def GEntry.mLd (e : GEntry) (m : Nat) : Nat := qfld (e.memberWord m) 51 48
def GEntry.mTarget (e : GEntry) (m : Nat) : Nat := qfld (e.memberWord m) 47 36
def GEntry.mDpa (e : GEntry) (m : Nat) : Nat := qfld (e.memberWord m) 35 0
/-- The ports of a multicast group, as one 64-bit mask (R136). -/
def GEntry.ports (e : GEntry) : Nat := qfld e.w5 31 0 + 2 ^ 32 * qfld e.w6 31 0

/-- Replace a member's word. -/
def GEntry.setMember (e : GEntry) (m : Nat) (w : Quad) : GEntry :=
  match m with
  | 0 => { e with w2 := w }
  | 1 => { e with w3 := w }
  | _ => { e with w4 := w }

/-- Set a member's STATE (R137). -/
def GEntry.setMState (e : GEntry) (m st : Nat) : GEntry :=
  e.setMember m (BitVec.ofNat 64 (setBits (e.memberWord m).toNat 55 54 st))

/-- Set MARK (R136). -/
def GEntry.setMark (e : GEntry) (n : Nat) : GEntry := { e with w1 := BitVec.ofNat 64 (setBits e.w1.toNat 39 20 n) }

/-- A gathering's counts. -/
def State.gCounts (s : State) (g : Nat) : GCounts := tget gCounts0 s.path.gcounts g
/-- Change a gathering's counts. -/
def State.modGCounts (s : State) (g : Nat) (f : GCounts → GCounts) : State :=
  { s with path := { s.path with gcounts := tmod gCounts0 s.path.gcounts g f } }

/-- Add 1 at a place of a list of counts. -/
def bump (l : List Nat) (k : Nat) : List Nat := l.set k (l.getD k 0 + 1)

/-- The members that are ACTIVE, in ascending order. -/
def GEntry.actives (e : GEntry) : List Nat := [0, 1, 2].filter (fun m => e.mState m == 1)

/-- The acting primary (R140). -/
def GEntry.acting (e : GEntry) : Option Nat :=
  ((List.range 3).map (fun i => (e.primary + i) % 3)).find? (fun m => e.mState m == 1)

/-- The next ACTIVE member after `m` that has not been tried, in ascending order with wrap (R152). -/
def GEntry.nextMember (e : GEntry) (m : Nat) (tried : List Nat) : Option Nat :=
  ((List.range 3).map (fun i => (m + 1 + i) % 3)).find? (fun k => e.mState k == 1 && !tried.contains k)

/-- The address of folio i, offset o at DPA d (R139). -/
def GEntry.addrAt (e : GEntry) (d i o : Nat) : Nat := (d + (i - e.first)) * 2 ^ 28 + o

/-- The member set of a mirrored write (R139): every ACTIVE member, and the RESYNC member below MARK. -/
def GEntry.writeSet (e : GEntry) (i : Nat) : List Nat :=
  [0, 1, 2].filter (fun m => e.mState m == 1 || (e.mState m == 3 && decide (i - e.first < e.mark)))

/-- A member moves to LOST (R155): STATE and CHECK of its word, which is looked up for it (R138), LOSS_COUNT and the member-lost source.
The generation does not advance. -/
def State.loseMember (s : State) (g m : Nat) : State :=
  let s := s.checkGather g
  let e := s.gEntry g
  if e.mState m = 1 ∨ e.mState m = 3 then
    let resync := e.mState m == 3
    let s := s.putGWord g (2 + m) ((e.setMState m 2).memberWord m)
    let s := s.modGCounts g (fun c => { c with loss := wrapInc 8 c.loss })
    let s := s.raiseDev 1484 g
    if resync then s.push (.resyncLost g m) else s
  else s

/-- A loss found through a copy decoded in generation `gen` (R155, R157). A member that is LOST already is not lost again. Where a
GATHER_WRITE came after the decode, the loss is applied only to an ACTIVE or RESYNC slot that names the copy's target, and is else
counted. -/
def State.loseCopy (s : State) (g m : Nat) (w : Quad) (gen : Nat) : State :=
  let e := s.gEntry g
  let live := e.mState m == 1 || e.mState m == 3
  if live && qfld (e.memberWord m) 53 0 == qfld w 53 0 then s.loseMember g m
  else if (s.gCounts g).written ≤ gen then s
  else s.modGCounts g (fun c => { c with loss := wrapInc 8 c.loss })

/-- Members on a flushed port move to LOST, in ascending gathering order (R156). -/
def State.losePort (s : State) (p : Nat) : State :=
  s.each s.path.gather (fun s x =>
    s.each [0, 1, 2] (fun s m =>
      let e := s.gEntry x.1
      if e.typ = 1 ∧ (e.mState m = 1 ∨ e.mState m = 3) ∧ e.mKind m ≤ 1 ∧ e.mTarget m = p then s.loseMember x.1 m else s))

/-- The reserved fields of an entry are zero and no field holds a reserved value (R161 first point, R136, R137). -/
def GEntry.fieldsOk (e : GEntry) : Bool :=
  qfld e.w0 55 52 == 0 && qfld e.w0 49 48 == 0 && qfld e.w0 27 19 == 0 && e.typ != 3 &&
  qfld e.w1 55 40 == 0 && qfld e.w1 19 6 == 0 && qfld e.w1 3 2 == 0 && e.primary != 3 &&
  qfld e.w5 55 32 == 0 && qfld e.w6 55 32 == 0 && qfld e.w7 55 16 == 0

/-- The checks of a MIRROR entry (R161); `old` is the entry replaced. A member may stay RESYNC, and moves to it from LOST only. DESIGN
CHOICE (log 68): the port masks of W5 and W6, which a MIRROR entry does not use, must be zero. -/
def State.mirrorOk (s : State) (e old : GEntry) : Bool :=
  let used := [0, 1, 2].filter (fun m => e.mState m != 0)
  decide (2 ≤ used.length) && decide ((used.filter (fun m => e.mState m == 3)).length ≤ 1) &&
  used.all (fun m => e.mState m != 3 || old.mState m == 2 || old.mState m == 3) &&
  e.mState e.primary != 0 &&
  used.all (fun a => used.all (fun b => a == b ||
    !(e.mKind a == e.mKind b && e.mTarget a == e.mTarget b && e.mLd a == e.mLd b))) &&
  used.all (fun m => decide (2 ≤ e.mKind m) || (decide (e.mTarget m < 64) && s.role (e.mTarget m) == .device)) &&
  decide (e.minAck ≤ used.length) && used.all (fun m => decide (e.mDpa m + e.count ≤ 2 ^ 36)) &&
  qfld e.w5 31 0 == 0 && qfld e.w6 31 0 == 0

/-- The checks of a MULTICAST entry (R161, R136). DESIGN CHOICE (log 68): what W2 to W4 hold beside the DPA of W2, which a MULTICAST
entry does not use, must be zero. -/
def State.multicastOk (s : State) (e : GEntry) : Bool :=
  e.ports != 0 && decide (e.mDpa 0 + e.count ≤ 2 ^ 36) && qfld e.w2 55 36 == 0 && qfld e.w3 55 0 == 0 && qfld e.w4 55 0 == 0 &&
  (List.range 64).all (fun p => !bitOf e.ports p || s.role p == .host || s.role p == .device)

/-- The check of a GATHER_WRITE (R161): true when the entry is accepted. -/
def State.gatherOk (s : State) (g : Nat) (e : GEntry) : Bool :=
  e.fieldsOk &&
  (e.typ == 0 ||
    (e.count != 0 && decide (e.first + e.count ≤ 524288) &&
      (if e.typ = 1 then s.mirrorOk e (s.gEntry g) else s.multicastOk e)))

/-- GATHER_WRITE data as setGEntry takes it: CHECK and MARK are the device's (R136); a member that moves to RESYNC sets
MARK to 0 (R159). -/
def State.gatherNew (s : State) (g : Nat) (e : GEntry) : GEntry :=
  let old := s.gEntry g
  let moves := [0, 1, 2].any (fun m => e.typ == 1 && e.mState m == 3 && old.mState m != 3)
  (e.mapWords (fun n => n % 2 ^ 56)).setMark (if moves then 0 else old.mark)

end Sys2Proof.Machine
end

