-- ==== Sys2Proof/Machine/Track.lean ====
section
/-!
DEFINITION. What decode does for the migration and heat engines: the hold of R173, dirty tracking (R167), heat counting
(R180), and the prefetch memory of R81 and R82.
-/
namespace Sys2Proof.Machine

/-! ### Migration -/

/-- A migration context. -/
def State.ctx (s : State) (c : Nat) : MigCtx := tget migCtx0 s.mig.ctxs c
/-- Change a migration context. -/
def State.modCtx (s : State) (c : Nat) (f : MigCtx → MigCtx) : State :=
  { s with mig := { s.mig with ctxs := tmod migCtx0 s.mig.ctxs c f } }

/-- The context whose migration has marked folio i (R166, R179). -/
def State.ctxOf (s : State) (i : Nat) : Option Nat :=
  (s.mig.ctxs.find? (fun x => x.2.phase != .idle && x.2.marked && x.2.folio == i)).map (·.1)

/-- The context that holds writes to folio i (R173). -/
def State.holdOf (s : State) (i : Nat) : Option Nat :=
  match s.ctxOf i with
  | some c => if (s.ctx c).phase = .final then some c else none
  | none => none

/-- The granules that bytes [o, o + len) of a folio touch (R166). -/
def granules (o len : Nat) : List Nat :=
  if len = 0 then [] else (List.range ((o + len - 1) / 4096 - o / 4096 + 1)).map (fun j => o / 4096 + j)

/-- Set the bit of a granule in a bitmap with its count. -/
def setGranule (x : Nat × Nat) (b : Nat) : Nat × Nat := if bitOf x.1 b then x else (x.1 + 2 ^ b, x.2 + 1)

/-- Track a write to folio i (R167); the answer is the context and pass parity the write carries (R169). -/
def State.track (s : State) (i o len : Nat) : Option (Nat × Bool) × State :=
  match s.ctxOf i with
  | none => (none, s)
  | some c =>
    let d := (granules o len).foldl setGranule ((s.ctx c).dirty, (s.ctx c).dirtyCount)
    (some (c, (s.ctx c).parity), s.modCtx c (fun x => { x with dirty := d.1, dirtyCount := d.2 }))

/-! ### Heat (R180 to R182) -/

/-- Add to a count that saturates at 32 bits (R180). -/
def heatAdd (x : HeatCount) (write : Bool) (n : Nat) : HeatCount :=
  if write then { x with writes := satBits 32 (x.writes + n) } else { x with reads := satBits 32 (x.reads + n) }

/-- The watch slot that counts folio i: the lowest-numbered enabled one that names it (R182). -/
def HeatBank.slotOf (b : HeatBank) (i : Nat) : Option Nat :=
  (b.watch.find? (fun x => bitOf x.2.toNat 31 && fld x.2 18 0 == i)).map (·.1)

/-- A saturating addition would lose counts. -/
def heatFull (x : HeatCount) (write : Bool) (n : Nat) : Bool :=
  decide (2 ^ 32 ≤ (if write then x.writes else x.reads) + n)

/-- Count lines [a, a + n) of folio i in a bank (R180); leaf of a line is line / 32,768. -/
def HeatBank.add (b : HeatBank) (i line n : Nat) (write : Bool) : HeatBank :=
  let f := tget heat0 b.folios i
  let b := { b with sat := b.sat || heatFull f write n, folios := tput heat0 b.folios i (heatAdd f write n) }
  match b.slotOf i with
  | none => b
  | some k =>
    (List.range n).foldl (fun b j =>
      let key := 128 * k + (line + j) / 32768
      let l := tget heat0 b.leaves key
      { b with sat := b.sat || heatFull l write 1, leaves := tput heat0 b.leaves key (heatAdd l write 1) }) b

/-- Count a request that decode sends to a target through folio i (R180). -/
def State.heat (s : State) (i o len : Nat) (write : Bool) : State :=
  if s.mig.heat.isOpen ∧ len ≠ 0 then
    { s with mig := { s.mig with heat := { s.mig.heat with
      cur := s.mig.heat.cur.add i (o / 64) ((o + len - 1) / 64 - o / 64 + 1) write } } }
  else s

/-! ### Prefetch (R81, R82) -/

/-- Two stretches of bytes overlap. -/
def overlap (a n b m : Nat) : Bool := decide (a < b + m) && decide (b < a + n)

/-- A write to a target passes through: overlapping prefetched data is discarded (R82). -/
def State.pfWrite (s : State) (port : Nat) (fid ld : Option Nat) (a len : Nat) : State :=
  s.pfDiscard (fun x => x.tgtPort == port && x.tgtFid == fid && x.tgtLd == ld && overlap x.tgtAddr x.len a len)

/-- A write through folio i at offset o overlaps what was prefetched from those bytes of the folio, wherever its entry points now
(R82, R178). -/
def State.pfWriteFolio (s : State) (i o len : Nat) : State :=
  s.pfDiscard (fun x => match x.folio with | some (j, p) => j == i && overlap p x.len o len | none => false)

/-- PF_DEPTH in bytes (R60). -/
def pfDepth (n : Nat) : Nat := if n = 0 then 0 else 2 ^ (n + 7)

/-- The prefetched bytes of a hierarchy from address a on, from as many adjacent stretches as it takes. -/
def pfBytes (l : List Prefetch) (h : Nat) : Nat → Nat → Nat → Option (List Byte)
  | 0, _, len => if len = 0 then some [] else none
  | n + 1, a, len =>
    if len = 0 then some []
    else
      match l.find? (fun x => x.hier == h && x.data.isSome && decide (x.addr ≤ a ∧ a < x.addr + x.len)) with
      | none => none
      | some x =>
        let k := min len (x.addr + x.len - a)
        (pfBytes l h n (a + k) (len - k)).map (fun t => ((x.data.getD []).drop (a - x.addr)).take k ++ t)

/-- Prefetched bytes that answer a read of a hierarchy in full (R81). What no event of R82 discarded is served, whatever table write
came since (R178). -/
def State.pfHit (s : State) (h a len : Nat) : Option (List Byte) :=
  pfBytes s.path.prefetch h (s.path.prefetch.length + 1) a len

/-- Keep what follows the end of a hierarchy's last read (R81). -/
def State.pfTrim (s : State) (h a len : Nat) : State :=
  { s with path := { s.path with prefetch := s.path.prefetch.filterMap (fun x =>
    if x.hier = h ∧ x.data.isSome ∧ x.addr < a + len ∧ a < x.addr + x.len then
      if a + len < x.addr + x.len then
        let k := a + len - x.addr
        some { x with addr := x.addr + k, len := x.len - k, data := x.data.map (·.drop k), tgtAddr := x.tgtAddr + k,
                      folio := x.folio.map (fun f => (f.1, f.2 + k)) }
      else none
    else some x) } }

/-- Note a read of a hierarchy as it is received: its stream runs while each read begins where the one before it ended (R81). -/
def State.noteRead (s : State) (h a len : Nat) : State :=
  let run := match tfind s.path.streams h with | some x => decide (x.nextAddr = a) | none => false
  { s with path := { s.path with streams := tins s.path.streams h ⟨a + len, run⟩ } }

/-- The stream of a hierarchy runs (R81). -/
def State.streamRuns (s : State) (h : Nat) : Bool := (tfind s.path.streams h).any (·.running)

end Sys2Proof.Machine
end

