-- ==== Sys2Proof/Machine/Path.lean ====
section
/-!
DEFINITION. Sending a decoded request: its targets, R94's refusals and conversions, the outcomes of R93, gatherings (R139 to
R145, R158), the access guard's parts (R311, R312), bookmarks (R23), the holds of R80 and R128.
-/
namespace Sys2Proof.Machine

/-- Why decode refuses a request (R93, R105, R187). `noRoute raises`: a destination of KIND INVALID. -/
inductive Why where
  | unmapped | notPermitted | poison | noRoute (raises : Bool)
  deriving DecidableEq, Repr

/-- Where a request goes: a port, with a logical device, or an edge of the fabric (R92). -/
inductive Tgt where
  | port (p : Nat) (ld : Option Nat)
  | fid (f : Nat) (ld : Option Nat)
  deriving DecidableEq, Repr

/-- A request past stage 3: its ingress and source, its class and group, the hierarchy whose decode it goes through, the
data mover's request it is: function, ring and number (R289). `raw`: it reached its target by a window of a vDSB or upstream,
not by the folio table, so R94 converts nothing. -/
structure Req where
  ing : Ingress
  fid : Nat
  tlp : Tlp
  tc : Nat
  group : Nat
  hier : Option Nat
  fn : Option (Nat × Nat × Nat)
  raw : Bool := false
  /-- the hierarchy under which a request of a device port was decoded (R104, R334) -/
  home : Option Nat := none
  /-- TTL with which it came over the fabric (R220) -/
  ttl : Nat := 0
  /-- CCLK count when its header entered stage 4 (R352), and the received packet it is, with the credits that took (R113) -/
  born : Nat := 0
  arrival : Nat := 0
  took : List (Nat × Nat) := []
  deriving DecidableEq, Repr

/-- One target of a request: member and its word for a gathering, target, address there. -/
structure Aim where
  member : Option Nat
  word : Quad
  tgt : Tgt
  addr : Nat
  deriving DecidableEq, Repr

/-- The details that a raise about a request carries (R321, R325). -/
def Tlp.info (t : Tlp) (p : Option Nat) (h : Option Nat) : RaiseInfo :=
  { raise0 with port := p, hier := h, addr := t.addr.toNat, hdr := t.hdr.toNat }

/-- The hierarchy under which a request was decoded: its host's, or the one it came to from a target. -/
def Req.under (r : Req) : Option Nat := r.hier.or r.home

/-- The details of a request past stage 3. -/
def Req.info (r : Req) : RaiseInfo := r.tlp.info (match r.ing with | .port p => some p | .device => none) r.under

/-- A received packet at stage 4 as a request, with its class and group (R116). -/
def State.reqAt (s : State) (x : Rx) (hier : Option Nat := none) : Req :=
  let cls := s.classOf (.port x.port) x.tlp x.tc
  { ing := .port x.port, fid := x.srcFid, tlp := x.tlp, tc := cls.1, group := cls.2, hier := hier, fn := none, ttl := x.ttl,
    born := x.first.getD s.cclkNow, arrival := x.arrival, took := x.took }

/-- What decode found: the targets of a request, its gathering, the folio it went through, and the space and guard address
of its check (R306). -/
structure Found where
  aims : List Aim
  gather : Option Nat
  multicast : Bool
  folio : Option (Nat × Nat)
  space : Option (GuardSrc × Space × Nat)
  prefetch : Bool
  deriving DecidableEq, Repr

/-- Writes of decode: what dirties a folio (R167). -/
def PktOp.isWrite : PktOp → Bool
  | .memWrite | .npWrite | .atomic | .cMemWr | .cMemWrPtl => true
  | _ => false

/-- A posted request of PCI Express. -/
def PktOp.posted : PktOp → Bool
  | .memWrite | .msg => true
  | _ => false

/-- What the guard checks a request for (R309). -/
def Tlp.guardUse (t : Tlp) : GuardUse :=
  match t.op with
  | .memRead => if t.len = 0 then .zeroRead else .read
  | .cMemRd => .read
  | .atomic => .atomic
  | _ => .write

/-! ### Refusals (R93) -/

/-- The DEC source that a refusal raises for a hierarchy (R93, R187). -/
def whySource : Why → Option Nat
  | .unmapped => some 4
  | .notPermitted => some 5
  | .poison => some 6
  | .noRoute raises => if raises then some 4 else none

/-- One copy of a request finds no route to its fabric ID (R187): counted, and one decoded under a hierarchy raises its unmapped source. -/
def State.noteDead (s : State) (r : Req) (w : Why) : State :=
  match w with
  | .noRoute raises =>
    let s := s.countDev 7
    match r.under with
    | some h => if raises then s.raiseHier h 4 r.info else s
    | none => s
  | _ => s

/-- The copies of a request that cannot be made. -/
def State.noteDeads {α : Type} (s : State) (r : Req) (cs : List (Except Why α)) : State :=
  s.each cs (fun s c => match c with | .error w => s.noteDead r w | .ok _ => s)

/-- The routing entries that a request's targets name are looked up, and so checked (R95). -/
def State.checkTgts (s : State) (ts : List Tgt) : State :=
  s.each ts (fun s t => match t with | .fid f _ => s.checkRoute f | .port _ _ => s)

/-- Raise the source of a refusal and count it (R93, R105, R343). -/
def State.noteRefusal (s : State) (r : Req) (w : Why) : State :=
  let s := match w with | .noRoute _ => s.countDev 7 | _ => s
  match r.under with
  | some h =>
    let s := if r.tlp.op.posted then s.countHier h 7 else s
    match whySource w with
    | some k => s.raiseHier h k r.info
    | none => s
  | none => s

/-- Refuse a request as R93 states. -/
def State.refuseReq (s : State) (r : Req) (w : Why) : State :=
  let s := s.noteRefusal r w
  if w = .poison ∧ r.tlp.op = .memRead then
    let s := s.answer r.ing r.fid r.tlp .ok true (poisonData r.tlp.len)
    match r.ing with | .port p => s.countPort p 5 | .device => s
  else s.refuse r.ing r.fid r.tlp

/-! ### Copies (R94, R106, R107, R187) -/

/-- The link of a port carries CXL.mem, as last trained in this start (R94). -/
def State.carriesMem (s : State) (p : Nat) : Bool := (s.port p).trained && (s.port p).lastMem

/-- The type a converted request leaves as (R94, R118). -/
def convType (t : Tlp) : OrdType := if t.op = .memRead then .req else .rwd

/-- A copy to a port under R94, which converts toward device ports; `conv` is false for multicast copies (R145) and for
requests that did not come by the folio table. -/
def State.portCopy (s : State) (t : Tlp) (conv : Bool) (p : Nat) (ld : Option Nat) (a : Nat) (m : Option Nat) : Except Why Copy :=
  let c : Copy :=
    { port := p, typ := t.op.ordType, addr := BitVec.ofNat 64 a, ld := ld, dstFid := none, member := m, convert := false,
      release := none, word := 0 }
  if s.carriesMem p ∧ conv ∧ s.role p = .device then
    match t.op with
    | .memRead | .memWrite => .ok { c with convert := true, typ := convType t }
    | .atomic | .npWrite => .error .notPermitted
    | _ => .ok c
  else if (s.port p).trained ∧ !s.carriesMem p ∧ t.op.isMem then .error .notPermitted
  else .ok c

/-- A copy to a target (R92, R106, R107, R187). `edge`: the ID of the edge where the request enters the fabric. -/
def State.aimCopy (s : State) (edge : Option Nat) (tc : Nat) (t : Tlp) (conv host : Bool) (a : Aim) : Except Why Copy :=
  let put := fun (c : Copy) => { c with word := a.word }
  match a.tgt with
  | .port p ld => (s.portCopy t conv p ld a.addr a.member).map put
  | .fid f ld =>
    match edge with
    | none => .error (.noRoute host)
    | some e =>
      if !s.fabricLive then .error (.noRoute host)
      else
        match s.routeFid e f tc with
        | .hop q rel =>
          .ok { port := q, typ := t.op.ordType, addr := BitVec.ofNat 64 a.addr, ld := ld, dstFid := some f, member := a.member,
                convert := false, release := rel, word := a.word }
        | .edge q => (s.portCopy t conv q ld a.addr a.member).map put
        | .internal => .error .unmapped
        | .none => .error (.noRoute false)

/-! ### Holds and queueing -/

/-- The lock of another hierarchy holds a request decoded toward a port (R80). -/
def State.lockBlocks (s : State) (x : Packet) (p : Nat) : Bool :=
  match (s.swPort p).lock with
  | none => false
  | some h =>
    let own := match x.ingress with | .port q => s.role q == .host && x.hier == some h | .device => false
    !own && x.tlp.op.nonPosted

/-- The non-posted requests waiting at a port reach NP_LIMIT (R128). -/
def State.npBlocks (s : State) (c : Copy) : Bool :=
  c.typ.waiting && decide (s.actF (offSwc c.port + 0xC) 31 20 ≤ s.npWaiting c.port)

/-- Why a copy is held after decode: for a lock, or for NP_LIMIT. -/
def State.copyHeld (s : State) (x : Packet) (cs : List Copy) : Bool :=
  cs.any (fun c => s.lockBlocks x c.port || (x.tlp.op.nonPosted && s.portActive c.port && s.npBlocks c))

/-- Queue a packet, or hold it at ingress after decode (R80, R128); a locked read takes the lock of its egress port (R80). -/
def State.launch (s : State) (x : Packet) (cs : List Copy) : State :=
  if cs.isEmpty then s
  else if s.copyHeld x cs then
    let s := { s with path := { s.path with heldOut := s.path.heldOut ++ [⟨x, cs⟩] } }
    if cs.any (fun c => s.lockBlocks x c.port) then
      match x.ingress with | .port p => s.countPort p 22 | .device => s
    else s
  else
    let s := match x.tlp.locked, x.hier, cs with
      | true, some h, c :: _ =>
        if (s.swPort c.port).lock = none then (s.modSwPort c.port (fun y => { y with lock := some h })).countHier h 8 else s
      | _, _, _ => s
    s.enqueue x cs

/-- The packet of a request, stamped at decode (R97). -/
def State.packetOf (s : State) (r : Req) (t : Tlp) (b : Option Nat) (mig : Option (Nat × Bool)) : Packet :=
  { packet0 with
    tlp := t, ingress := r.ing, tc := r.tc, group := r.group, slot := s.path.slotAt, gen := s.path.gen, bookmark := b,
    srcFid := (match r.ing with | .device => (s.internalFid).getD 0 | .port p => if s.role p = .fabric then r.fid else (s.portFid p).getD 0),
    hier := r.under, mig := mig, dmv := r.fn, born := r.born, arrival := r.arrival, took := r.took,
    ttl := if r.ttl = 0 then 8 else r.ttl }

/-- The bookmark of a request (R23, R77, R97). -/
def State.bookmarkOf (s : State) (r : Req) (t : Tlp) (p : Purpose) (ports : List Nat) (conv : Bool) (addr : Nat)
    (mig : Option (Nat × Bool)) (guardEnd : Bool) (folio : Nat) : Bookmark :=
  { bookmark0 with
    purpose := p,
    port := (match r.ing with | .port q => some q | .device => ports.head?),
    dmv := r.fn.isSome, ingress := r.ing, hier := r.hier, tlp := t, srcFid := r.fid, slot := s.path.slotAt, gen := s.path.gen,
    tc := r.tc, group := r.group, timer := s.timerOf r.ing, ports := ports, target := BitVec.ofNat 64 addr, converted := conv,
    mig := mig, guardEnd := guardEnd, folio := folio }

/-- The purpose of a request that entered on a port, by where its answer goes. -/
def State.purposeOf (s : State) (r : Req) : Purpose :=
  match r.ing with
  | .port p => if s.role p = .fabric then .fabric else .host
  | .device => match r.fn with | some (f, k, n) => .dmv f k n | none => .confirm

/-! ### Gathering requests (R139 to R158) -/

/-- A member's target (R136). -/
def GEntry.tgt (e : GEntry) (m : Nat) : Tgt :=
  match e.mKind m with
  | 0 => .port (e.mTarget m) none
  | 1 => .port (e.mTarget m) (some (e.mLd m))
  | 2 => .fid (e.mTarget m) none
  | _ => .fid (e.mTarget m) (some (e.mLd m))

/-- The aim at member m for folio i, offset o (R139). -/
def GEntry.aim (e : GEntry) (m i o : Nat) : Aim := ⟨some m, e.memberWord m, e.tgt m, e.addrAt (e.mDpa m) i o⟩

/-- What a folio entry of KIND MIRROR gives (R139 to R141, R158). -/
inductive GFound where
  | range | none | notPermitted | ur | exhausted | poison
  | found (aims : List Aim) (multicast : Bool)
  deriving DecidableEq, Repr

/-- Decode through a gathering (R139 to R141, R158). -/
def State.gatherDecode (s : State) (ing : Ingress) (g i o : Nat) (t : Tlp) : GFound :=
  let e := s.gEntry g
  if s.gBad g then .poison
  else if i < e.first ∨ e.first + e.count ≤ i then (if e.typ = 0 then .none else .range)
  else match e.typ with
    | 1 =>
      match t.op with
      | .memWrite | .cMemWr | .cMemWrPtl =>
        if e.actives.isEmpty then .exhausted else .found ((e.writeSet i).map (fun m => e.aim m i o)) false
      | .memRead =>
        if t.len = 0 then (if e.actives.isEmpty then .exhausted else .found (e.actives.map (fun m => e.aim m i o)) false)
        else (match e.acting with | some m => .found [e.aim m i o] false | none => .exhausted)
      | .cMemRd => (match e.acting with | some m => .found [e.aim m i o] false | none => .exhausted)
      | _ => .ur
    | 2 =>
      match t.op with
      | .memWrite =>
        .found (((List.range 64).filter (fun p => bitOf e.ports p && ing != .port p)).map (fun p =>
          ⟨none, 0, .port p none, e.addrAt (e.mDpa 0) i o⟩)) true
      | .memRead | .cMemRd | .cMemWr | .cMemWrPtl => .notPermitted
      | _ => .ur
    | _ => .none

/-- The host of a hierarchy takes no requests: for a cleared Bus Master Enable of its vUSB (R72), or HIERARCHY containment (R327). -/
def State.hostShut (s : State) (h : Nat) : Bool := !s.bme h 0 || s.contained .hierarchy h

/-- Count a request refused or dropped because the host of its hierarchy takes none (R343): event 14 for a posted one that containment
drops, event 6 else. -/
def State.countShut (s : State) (h : Nat) (posted : Bool) : State := s.countHier h (if posted && s.contained .hierarchy h then 14 else 6)

/-- Whether a multicast copy may go to a port (R145, R69, R327). -/
def State.multicastGate (s : State) (p : Nat) : Bool :=
  match s.role p with
  | .device => true
  | .host => (match s.hierOn p with | some h => !s.hostShut h && !s.d3 h 0 | none => true)
  | _ => false

/-- A multicast copy that its host does not take counts for the hierarchy of its host port as well (R72, R145, R343). -/
def State.countGated (s : State) (t : Tgt) : State :=
  match t with
  | .port p _ => (match s.role p, s.hierOn p with | .host, some h => if s.hostShut h then s.countShut h true else s | _, _ => s)
  | .fid _ _ => s

/-! ### The guard's parts (R311, R312) -/

/-- Part of a posted write. -/
def Tlp.slice (t : Tlp) (off len : Nat) : Tlp :=
  { t with addr := t.addr + BitVec.ofNat 64 off, len := len, payload := (t.payload.drop off).take len, be := t.be >>> off }

/-- Move an aim by an offset. -/
def Aim.move (a : Aim) (off : Nat) : Aim := { a with addr := a.addr + off }

/-! ### Sending -/

/-- The memory that a target is, for R82: port, fabric ID and logical device, a port of this device by its number however it is named. -/
def State.pfKey (s : State) : Tgt → Nat × Option Nat × Option Nat
  | .port p ld => (p, none, ld)
  | .fid f ld => if s.routeKind f = 1 then (qfld (s.route f) 17 12, none, ld) else (64, some f, ld)

/-- Bytes at a target are written: overlapping prefetched data goes (R82). -/
def State.noteWrite (s : State) (t : Tlp) (aims : List Aim) (folio : Option (Nat × Nat) := none) : State :=
  if t.op.isWrite ∧ !s.path.prefetch.isEmpty then
    let s := s.each aims (fun s a => let k := s.pfKey a.tgt; s.pfWrite k.1 k.2.1 k.2.2 a.addr t.len)
    match folio with | some (i, o) => s.pfWriteFolio i o t.len | none => s
  else s

/-- A merged request (R147, R154): one bookmark for all copies. -/
def State.sendMerge (s : State) (r : Req) (t : Tlp) (g : Nat) (aims : List Aim) (mig : Option (Nat × Bool)) (folio : Nat) : State :=
  let e := s.gEntry g
  let edge := s.edgeFid r.ing
  let cs := aims.map (fun a => (a, s.aimCopy edge r.tc t true r.under.isSome a))
  let good := cs.filterMap (fun c => match c.2 with | .ok x => some x | .error _ => none)
  let bad := cs.filterMap (fun c => match c.2 with | .ok _ => none | .error _ => c.1.member)
  let s := s.noteDeads r (cs.map (·.2))
  let bm := { s.bookmarkOf r t (s.purposeOf r) (good.map (·.port)) (good.any (·.convert)) (aims.head?.map (·.addr) |>.getD 0) mig false folio with
    gather := some g, minAck := e.minAck,
    merge := aims.filterMap (fun a => a.member.map (fun m => ⟨m, true, false, e.mState m == 1, a.word⟩)) }
  let (b, s) := s.takeBookmark bm
  let s := s.launch (s.packetOf r t (some b) mig) good
  s.each bad (fun s m => s.push (.bmResult b (some m) 0 .synthesised))

/-- A mirrored read (R152): to one member, with failover. -/
def State.sendMirrorRead (s : State) (r : Req) (t : Tlp) (g : Nat) (a : Aim) (guardEnd : Bool) (folio : Nat) (purpose : Purpose) : State :=
  let c := s.aimCopy (s.edgeFid r.ing) r.tc t true r.under.isSome a
  let cs := match c with | .ok x => [x] | .error _ => []
  let s := s.noteDeads r [c]
  let bm := { s.bookmarkOf r t purpose (cs.map (·.port)) (cs.any (·.convert)) a.addr none guardEnd folio with
    gather := some g, tried := a.member.toList, timed := true,
    merge := a.member.toList.map (fun m => ⟨m, true, false, true, a.word⟩) }
  let (b, s) := s.takeBookmark bm
  let s := s.launch (s.packetOf r t (some b) none) cs
  if cs.isEmpty then s.push (.bmResult b a.member 0 .synthesised) else s

/-- A posted write to a gathering (R141, R142, R145, R150): copies that cannot be made lose their member. DESIGN CHOICE (log 101): also
a fabric member without a route in MEMBER and ANCHOR; R155 says so for STANDALONE. -/
def State.sendPostedSet (s : State) (r : Req) (t : Tlp) (g : Nat) (aims : List Aim) (multicast : Bool) (mig : Option (Nat × Bool)) : State :=
  let edge := s.edgeFid r.ing
  let gated := aims.filter (fun a => match a.tgt with | .port p _ => !multicast || s.multicastGate p | .fid _ _ => true)
  let s := s.each (aims.filter (fun a => match a.tgt with | .port p _ => multicast && !s.multicastGate p | .fid _ _ => false))
    (fun s a => (s.modGCounts g (fun c => { c with dropped := c.dropped + 1 })).countGated a.tgt)
  let cs := gated.map (fun a => (a, s.aimCopy edge r.tc t (!multicast) r.under.isSome a))
  let good := cs.filterMap (fun c => match c.2 with | .ok x => some x | .error _ => none)
  let gen := s.path.gen
  let s := (s.noteDeads r (cs.map (·.2))).launch { s.packetOf r t none mig with gather := some g } good
  s.each cs (fun s c =>
    match c.2, c.1.member with
    | .error _, some m => s.loseCopy g m c.1.word gen
    | _, _ => s)

/-- A request to one target. -/
def State.sendOne (s : State) (r : Req) (t : Tlp) (a : Aim) (mig : Option (Nat × Bool)) (guardEnd : Bool) (folio : Nat)
    (purpose : Purpose) : State :=
  match s.aimCopy (s.edgeFid r.ing) r.tc t (!r.raw) r.under.isSome a with
  | .error w => s.refuseReq { r with tlp := t } w
  | .ok c =>
    if t.op.nonPosted then
      let (b, s) := s.takeBookmark (s.bookmarkOf r t purpose [c.port] c.convert a.addr mig guardEnd folio)
      s.launch (s.packetOf r t (some b) mig) [c]
    else s.launch (s.packetOf r t none mig) [c]

/-- Send one part of a request to what decode found. -/
def State.sendPart (s : State) (r : Req) (f : Found) (t : Tlp) (off : Nat) (guardEnd : Bool) (mig : Option (Nat × Bool)) : State :=
  let aims := f.aims.map (fun a => a.move off)
  let folio := (f.folio.map (·.1)).getD 0
  let s := s.noteWrite t aims (f.folio.map (fun x => (x.1, x.2 + off)))
  match f.gather with
  | none => match aims with | a :: _ => s.sendOne r t a mig guardEnd folio (s.purposeOf r) | [] => s
  | some g =>
    if t.op = .memWrite then s.sendPostedSet r t g aims f.multicast mig
    else if t.op.isWrite || (t.op == .memRead && t.len == 0) then s.sendMerge r t g aims mig folio
    else match aims with | a :: _ => s.sendMirrorRead r t g a guardEnd folio (s.purposeOf r) | [] => s

/-- R312: what becomes of a request by its allowed and forbidden parts. -/
def State.sendGuarded (s : State) (r : Req) (f : Found) (mig : Option (Nat × Bool)) : State :=
  let t := r.tlp
  match f.space with
  | none => s.sendPart r f t 0 false mig
  | some (src, sp, ga) =>
    let (ps, s) := s.guard src sp t.guardUse ga t.len (some r.info) (!t.op.posted && t.op != .memRead)
    if t.op.posted then s.each (ps.filter (·.ok)) (fun s p => s.sendPart r f (t.slice p.off p.len) p.off false mig)
    else if ps.all (·.ok) then s.sendPart r f t 0 false mig
    else if t.op = .memRead ∧ t.len ≠ 0 then
      match ps with
      | p :: _ => if p.ok then s.sendPart r f { t with len := p.len } 0 true mig else s.refuse r.ing r.fid t
      | [] => s
    else s.refuse r.ing r.fid t

/-- Why decode refuses what it found for one target (R94, R105, R187). -/
def State.refusedAim (s : State) (r : Req) (f : Found) : Option Why :=
  match f.gather, f.aims with
  | none, a :: _ => (match s.aimCopy (s.edgeFid r.ing) r.tc r.tlp (!r.raw) r.under.isSome a with | .error w => some w | .ok _ => none)
  | _, _ => none

/-- Send what decode found: refusals of R94 and R187, dirty tracking and heat at stage 4, then the guard (R22, R167, R180,
R306, R307). -/
def State.sendFound (s : State) (r : Req) (f : Found) : State :=
  let s := s.checkTgts (f.aims.map (·.tgt))
  match s.refusedAim r f with
  | some w => s.refuseReq r w
  | none =>
  match f.folio with
  | none => s.sendGuarded r f none
  | some (i, o) =>
    let w := r.tlp.op.isWrite
    let s := s.heat i o r.tlp.len w
    let s := match r.hier with | some h => s.countHier h (if w then 11 else 10) | none => s
    if w then
      let (mig, s) := s.track i o r.tlp.len
      s.sendGuarded r f mig
    else s.sendGuarded r f none

/-! ### The folio table (R90 to R95) -/

/-- The permission of R93. -/
def folioPermits (e : BitVec 128) (t : Tlp) : Bool :=
  let rd := bitOf e.toNat 25
  let wr := bitOf e.toNat 26
  match t.op with
  | .memRead => if t.len = 0 then rd || wr else rd
  | .cMemRd => rd
  | .atomic => rd && wr
  | _ => wr

/-- A PORT or LD entry names no such target (R93). -/
def State.folioTargetMissing (s : State) (e : BitVec 128) : Bool :=
  let p := efld e 83 78
  s.role p != .device ||
    (efld e 23 20 == 2 && (s.port p).trained && decide ((s.port p).lds ≤ efld e 87 84))

/-- A folio entry is looked up, with the gathering it names: their CHECK bytes are checked (R95, R138). -/
def State.lookup (s : State) (i : Nat) : State :=
  let s := s.checkFolio i
  if !s.path.failFolio.contains i && efld (s.folio i) 23 20 == 4 then s.checkGather (efld (s.folio i) 111 100) else s

/-- Decode through folio i at offset o (R90 to R95, R139), which `lookup` has checked. DESIGN CHOICE (log 69): an entry that its check
code fails has no permission bits to test, and is judged KIND POISON at once. -/
def State.folioDecode (s : State) (r : Req) (i o : Nat) (src : GuardSrc) : Except (Why × State) Found :=
  let e := s.folio i
  let bad := s.path.failFolio.contains i
  let kind := if bad then 5 else efld e 23 20
  let base : Found :=
    { aims := [], gather := none, multicast := false, folio := some (i, o), space := some (src, .folio, i * 2 ^ 28 + o),
      prefetch := bitOf e.toNat 27 }
  let a := efld e 75 40 * 2 ^ 28 + o
  let permit := bad || folioPermits e r.tlp
  let one := fun (t : Tgt) => if permit then .ok { base with aims := [⟨none, 0, t, a⟩] } else .error (.notPermitted, s)
  match kind with
  | 1 => if s.folioTargetMissing e then .error (.unmapped, s) else one (.port (efld e 83 78) none)
  | 2 => if s.folioTargetMissing e then .error (.unmapped, s) else one (.port (efld e 83 78) (some (efld e 87 84)))
  | 3 => if s.noFabric then .error (.noRoute r.under.isSome, s) else one (.fid (efld e 99 88) (if efld e 29 29 = 1 then some (efld e 87 84) else none))
  | 4 =>
    let g := efld e 111 100
    match s.gatherDecode r.ing g i o r.tlp with
    | .range => .error (.unmapped, s.raiseDev 1480 g r.info)
    | .none => .error (.unmapped, s)
    | .poison => if permit then .error (.poison, s) else .error (.notPermitted, s)
    | x =>
      if !permit then .error (.notPermitted, s)
      else match x with
        | .exhausted => .error (.poison, s.raiseDev 1482 g r.info)
        | .found aims mc => .ok { base with aims := aims, gather := some g, multicast := mc }
        | _ => .error (.notPermitted, s)
  | 5 => if permit then .error (.poison, s) else .error (.notPermitted, s)
  | _ => .error (.unmapped, s)

end Sys2Proof.Machine
end

