-- ==== Sys2Proof/Machine/Requests.lean ====
section
/-!
DEFINITION. The decode chain (R87 to R94, R104 to R106): requests of hosts, of device ports and of the fabric, from stage 3
on; holds before decode (R24, R173).
-/
namespace Sys2Proof.Machine

/-! ### Matches of R88 -/

/-- The base of a 64-bit BAR at words d and d + 1. -/
def State.barBase (s : State) (h f d size : Nat) : Nat := (2 ^ 32 * s.cfgW h f (d + 1) + s.cfgW h f d) / size * size

/-- The BAR sizes of R67: 64 MiB for BAR0 of a management endpoint, 64 KiB for all else. -/
def barSize (f d : Nat) : Nat := if f = 1 ∧ d = 4 then 0x4000000 else 0x10000

/-- A function whose BARs answer: presented, Memory Space Enable set, not in D3hot; a bridge below the vUSB is reached through it
(R57, R67, R69). -/
def State.barFnOn (s : State) (h f : Nat) : Bool :=
  (if f = 1 then h == 48 || s.actF (offHvhCtl h) 24 24 == 1 else if f = 0 then h != 48 else s.vdsbShown h (f - 2))
    && s.mse h f && !s.d3 h f && (f < 2 || !s.d3 h 0)

/-- The BAR that an address falls in: function, first word of the BAR, offset (order 1 of R88). -/
def State.barHit (s : State) (h a : Nat) : Option (Nat × Nat × Nat) :=
  (([(0, 4), (1, 4), (1, 6)] ++ (List.range 64).map (fun v => (2 + v, 4)) : List (Nat × Nat)).find? (fun x =>
    s.barFnOn h x.1 && decide (s.barBase h x.1 x.2 (barSize x.1 x.2) ≤ a
      ∧ a < s.barBase h x.1 x.2 (barSize x.1 x.2) + barSize x.1 x.2))).map
    (fun x => (x.1, x.2, a - s.barBase h x.1 x.2 (barSize x.1 x.2)))

/-- A configuration word of a data mover function as stored (R282). -/
def State.dmvW (s : State) (fn d : Nat) : Nat := (tget 0 s.dmv.cfg (1024 * fn + d)).toNat

/-- The data mover page that an address of the home hierarchy falls in: BAR0 of F0000, or its VF BAR (order 2 of R88,
R283). -/
def State.dmvHit (s : State) (h a : Nat) : Option (Nat × Nat) :=
  if s.dirF 0x5C0000 13 8 ≠ h then none
  else
    let b := (2 ^ 32 * s.dmvW 0 5 + s.dmvW 0 4) / 0x10000 * 0x10000
    let v := (2 ^ 32 * s.dmvW 0 0x62 + s.dmvW 0 0x61) / 0x10000 * 0x10000
    let n := bitsOf (s.dmvW 0 0x5C) 15 0
    if bitOf (s.dmvW 0 1) 1 ∧ b ≤ a ∧ a < b + 0x10000 then some (0, a - b)
    else if bitOf (s.dmvW 0 0x5A) 3 ∧ v ≤ a ∧ a < v + 0x10000 * n then
      some ((a - v) / 0x10000 + 1, (a - v) % 0x10000)
    else none

/-- Folio window w of a hierarchy: base, first index, count, while it is used (R89). -/
def State.folioWindow (s : State) (h w : Nat) : Option (Nat × Nat × Nat) :=
  let b := 0x600000 + 0x1000 * h + 0x10 * w
  let c := s.act (b + 12)
  let first := s.actF (b + 8) 18 0
  let n := fld c 19 0
  if bitOf c.toNat 31 ∧ n ≠ 0 ∧ first + n ≤ 524288 then
    some (2 ^ 32 * (s.act (b + 4)).toNat + 2 ^ 28 * s.actF b 31 28, first, n)
  else none

/-- The folio and offset of a host address (R89, R90): the lowest-numbered window that matches. -/
def State.folioHit (s : State) (h a : Nat) : Option (Nat × Nat) :=
  (List.range 16).findSome? (fun w =>
    match s.folioWindow h w with
    | some (base, first, n) =>
      if base ≤ a ∧ a < base + n * 2 ^ 28 then some (first + (a - base) / 2 ^ 28, a % 2 ^ 28) else none
    | none => none)

/-- Windows of a hierarchy that conflict (R89): a COUNT of 0, a range past the table, or an overlap. The answer counts the
cases. -/
def State.windowConflicts (s : State) (h : Nat) : Nat :=
  let en := (List.range 16).filter (fun w => bitOf (s.act (0x600000 + 0x1000 * h + 0x10 * w + 12)).toNat 31)
  let good := en.filterMap (s.folioWindow h)
  let overlap := (good.zipIdx).foldl (fun n x => n + ((good.zipIdx).filter (fun y =>
    decide (y.2 < x.2) && decide (y.1.1 < x.1.1 + x.1.2.2 * 2 ^ 28) && decide (x.1.1 < y.1.1 + y.1.2.2 * 2 ^ 28))).length) 0
  (en.length - good.length) + overlap

/-- The memory window of a bridge, and its prefetchable window (R67), as base and end. -/
def State.bridgeWindows (s : State) (h v : Nat) : List (Nat × Nat × Bool) :=
  let m := s.cfgW h (fnV v) 8
  let q := s.cfgW h (fnV v) 9
  let ub := 2 ^ 32 * s.cfgW h (fnV v) 10
  let ul := 2 ^ 32 * s.cfgW h (fnV v) 11
  [(2 ^ 20 * bitsOf m 15 4, 2 ^ 20 * bitsOf m 31 20 + 2 ^ 20, false),
   (ub + 2 ^ 20 * bitsOf q 15 4, ul + 2 ^ 20 * bitsOf q 31 20 + 2 ^ 20, true)]

/-- The presented vDSB whose window an address falls in, whether the window is prefetchable, and its end (order 4 of
R88). -/
def State.vdsbHit (s : State) (h a : Nat) : Option (Nat × Bool × Nat) :=
  (List.range 64).findSome? (fun v =>
    if s.vdsbShown h v then
      ((s.bridgeWindows h v).find? (fun w => decide (w.1 ≤ a ∧ a < w.2.1))).map (fun w => (v, w.2.2, w.2.1))
    else none)

/-- The target of an attach word of TYPE PORT, LD or FABRIC (R61). -/
def attachTgt (w : Word) : Option Tgt :=
  match attachType w with
  | .port => some (.port (fld w 5 0) none)
  | .ld => some (.port (fld w 5 0) (some (fld w 15 12)))
  | .fabric => some (.fid (fld w 11 0) (if fld w 16 16 = 1 then some (fld w 15 12) else none))
  | _ => none

/-! ### Prefetch reads (R81) -/

/-- Issue one prefetch read, if a bookmark can be had. -/
def State.pfRead (s : State) (h : Nat) (r : Req) (f : Found) (a : Nat) (x : Nat × Nat) : State :=
  match f.aims with
  | [] => s
  | aim0 :: _ =>
    let aim := aim0.move (x.1 - a)
    let t := { r.tlp with addr := BitVec.ofNat 64 x.1, len := x.2, rest := 0, ecrc := .none }
    let cls := s.classOf .device t 0
    let q : Req := { r with ing := .device, tlp := t, tc := cls.1, group := cls.2, born := s.cclkNow, arrival := 0, took := [] }
    match s.aimCopy s.internalFid q.tc t (!q.raw) true aim with
    | .error _ => s
    | .ok c =>
      if s.bmAvailable (some c.port) false then
        let (b, s) := s.takeBookmark
          { s.bookmarkOf q t (.prefetch h) [c.port] c.convert aim.addr none false ((f.folio.map (·.1)).getD 0) with
            gather := f.gather, tried := aim.member.toList, timed := f.gather.isSome,
            merge := aim.member.toList.map (fun m => ⟨m, true, false, true, aim.word⟩) }
        let key := s.pfKey aim.tgt
        let e : Prefetch :=
          { hier := h, addr := x.1, len := x.2, data := none, gen := s.path.gen, bookmark := b, tgtPort := key.1, tgtFid := key.2.1,
            tgtLd := key.2.2, tgtAddr := aim.addr, folio := f.folio.map (fun y => (y.1, y.2 + (x.1 - a))) }
        let s := { s with path := { s.path with prefetch := s.path.prefetch ++ [e] } }
        (s.countHier h 3).launch (s.packetOf q t (some b) none) [c]
      else s

/-- The stretches of a range cut at 4 KiB boundaries. -/
def pagesOf : Nat → Nat → Nat → List (Nat × Nat)
  | 0, _, _ => []
  | n + 1, a, e =>
    if e ≤ a then []
    else
      let k := min (e - a) (4096 - a % 4096)
      (a, k) :: pagesOf n (a + k) e

/-- Read ahead of a running stream (R81): up to PF_DEPTH bytes past the last read, never past `limit`. -/
def State.pfAhead (s : State) (h : Nat) (r : Req) (f : Found) (limit : Nat) : State :=
  let a := r.tlp.addr.toNat
  let e := a + r.tlp.len
  let mine := s.path.prefetch.filter (fun x => x.hier == h)
  let kept := (List.range mine.length).foldl (fun m _ =>
    match mine.find? (fun x => decide (x.addr ≤ m ∧ m < x.addr + x.len)) with | some x => x.addr + x.len | none => m) e
  s.each (pagesOf 6 kept (min limit (e + pfDepth (s.actF (offHvhCtl h) 18 16)))) (fun s x => s.pfRead h r f a x)

/-- The payload of a completion that the requester of a hierarchy's host port accepts (R85): its Max_Payload_Size, at most 512 bytes. -/
def State.maxPayload (s : State) (h : Nat) : Nat := 128 * 2 ^ min 2 (s.cfgF h 0 0x1E 7 5)

/-- A stretch of `len` bytes from a on in pieces that end at multiples of m (R428): offset and length of each. -/
def piecesOf (m a len : Nat) : Nat → Nat → List (Nat × Nat)
  | 0, _ => []
  | n + 1, o => if len ≤ o then [] else let k := min (len - o) (m - (a + o) % m); (o, k) :: piecesOf m a len n (o + k)

/-- Data that the device holds answers a host's read: completions of at most a Max_Payload_Size (R85, R428). -/
def State.answerData (s : State) (h : Nat) (r : Req) (d : List Byte) : State :=
  s.each (piecesOf (s.maxPayload h) r.tlp.addr.toNat d.length (d.length / 64 + 2) 0) (fun s x =>
    s.sendToward (s.devicePacket ((responseTo r.tlp .ok false ((d.drop x.1).take x.2) false).restFrom r.tlp x.1)) r.ing r.fid)

/-- A host's read where prefetch is allowed (R81): answered from prefetched data on a hit, which the guard allows and counts as any other
read (R313), else sent; a running stream is read ahead of. -/
def State.readAhead (s : State) (h : Nat) (r : Req) (f : Found) (limit : Nat) : State :=
  let a := r.tlp.addr.toNat
  let n := r.tlp.len
  let ahead := fun (s : State) => if s.streamRuns h then s.pfAhead h r f limit else s
  let allowed := match f.space with | some (src, sp, ga) => (s.guardParts src sp r.tlp.guardUse ga n).all (·.ok) | none => true
  match (if allowed then s.pfHit h a n else none) with
  | some d =>
    let s := match f.space with | some (src, sp, ga) => (s.guard src sp r.tlp.guardUse ga n).2 | none => s
    let s := match f.folio with | some (i, o) => (s.heat i o n false).countHier h 10 | none => s
    ahead (((s.countHier h 4).answerData h r d).pfTrim h a n)
  | none => ahead (s.sendFound r f)

/-! ### Requests that cross the device between fabric ports (R106, R220) -/

/-- A request or response that arrived on a fabric port and is routed on (R106, R220): its TTL falls by one, and with none left it is
dropped. A write discards what was prefetched from its target (R82). -/
def State.forwardFabric (s : State) (x : Rx) (q : Nat) (rel : Option Nat) (dst : Nat) : State :=
  if x.ttl = 0 then (s.push (.bflDiscard x.port)).raiseDev 1490 dst
    { raise0 with port := some x.port, addr := x.tlp.addr.toNat, hdr := x.tlp.hdr.toNat }
  else
    let cls := s.classOf (.port x.port) x.tlp x.tc
    let y := { packet0 with
      tlp := x.tlp, ingress := .port x.port, tc := cls.1, group := cls.2, slot := s.path.slotAt, gen := s.path.gen,
      srcFid := x.srcFid, dstFid := some dst, ttl := x.ttl - 1, born := x.first.getD s.cclkNow, arrival := x.arrival, took := x.took }
    (s.noteWrite x.tlp [⟨none, 0, .fid dst x.ld, x.tlp.addr.toNat⟩]).launch y
      [{ copyTo q x.tlp with dstFid := some dst, release := rel, ld := x.ld }]

/-- The fabric port that a request came in on. -/
def State.fabricIn (s : State) : Ingress → Option Nat
  | .port p => if s.role p = .fabric then some p else none
  | .device => none

/-- A request past stage 3 as a received packet again. -/
def Req.rx (r : Req) (p : Nat) (dst : Option Nat) (ld : Option Nat) : Rx :=
  { port := p, tlp := r.tlp, srcFid := r.fid, dstFid := dst, ttl := r.ttl, tc := r.tc, ld := ld, first := some r.born, arrival := r.arrival,
    took := r.took }

/-- A peer request that came over the fabric to a hierarchy of this device and goes to a target over the fabric again (R104): this device
carries it between two fabric ports and takes no bookmark (R23). DESIGN CHOICE (log 89): it keeps its source fabric ID, its tag and its
TTL, as any packet that is routed on. -/
def State.peerOn (s : State) (p : Nat) (r : Req) (f : Nat) (ld : Option Nat) (space : Option (GuardSrc × Space × Nat)) : State :=
  let s := s.checkRoute f
  if !s.fabricLive then s.refuseReq r (.noRoute true)
  else match s.routeFid r.fid f r.tc with
    | .hop q rel => s.forwardFabric (r.rx p (some f) ld) q rel f
    | .edge q =>
      if s.role q = .device then
        s.sendFound { r with raw := true }
          { aims := [⟨none, 0, .port q ld, r.tlp.addr.toNat⟩], gather := none, multicast := false, folio := none, space := space,
            prefetch := false }
      else s.refuse r.ing r.fid r.tlp
    | .internal => s.refuseReq r .unmapped
    | .none => s.refuseReq r (.noRoute false)

/-! ### Host requests (R88) -/

/-- R72: a request that a cleared bit gates is refused and counted. -/
def State.gate72 (s : State) (h : Nat) (r : Req) : State := (s.countHier h 6).refuse r.ing r.fid r.tlp

/-- A bridge that forwards memory requests no more: a vDSB contained by DPC (R76), or a vDSB or its vUSB in D3hot (R69). -/
def State.vdsbShut (s : State) (h v : Nat) : Bool := s.dpcStatus h v || s.d3 h (fnV v) || s.d3 h 0

/-- A request decoded to a vDSB's target, the address unchanged (order 4 of R88, R64, R72, R76). The page of a virtual function takes
only single words (R283), so a request of which the guard forbids a part is refused whole there (R306, log 81). -/
def State.toVdsb (s : State) (h v : Nat) (r : Req) (space : Option (GuardSrc × Space × Nat)) (ahead : Option Nat) : State :=
  if !s.mse h (fnV v) then s.gate72 h r
  else if s.vdsbShut h v then s.refuse r.ing r.fid r.tlp
  else match s.attach h v with
    | none => s.refuse r.ing r.fid r.tlp
    | some w =>
      match attachTgt w, s.fabricIn r.ing with
      | some (.fid g ld), some p => s.peerOn p r g ld space
      | some t, _ =>
        if (match t with | .port p _ => s.role p != .device | .fid _ _ => false : Bool) then s.refuse r.ing r.fid r.tlp
        else
          let f : Found :=
            { aims := [⟨none, 0, t, r.tlp.addr.toNat⟩], gather := none, multicast := false, folio := none, space := space,
              prefetch := ahead.isSome }
          match ahead with
          | some e =>
            if r.tlp.op = .memRead ∧ r.tlp.len ≠ 0 ∧ s.actF (offHvhCtl h) 18 16 ≠ 0 then s.readAhead h { r with raw := true } f e
            else s.sendFound { r with raw := true } f
          | none => s.sendFound { r with raw := true } f
      | none, _ =>
        let fn := fld w 11 0
        let b := (2 ^ 32 * s.dmvW fn 5 + s.dmvW fn 4) / 0x10000 * 0x10000
        let a := r.tlp.addr.toNat
        match r.ing with
        | .port p =>
          if bitOf (s.dmvW fn 1) 1 ∧ b ≤ a ∧ a < b + 0x10000 then
            let (ps, s) := match space with | some (src, sp, g) => s.guard src sp r.tlp.guardUse g r.tlp.len (some r.info) true | none => ([], s)
            if ps.all (·.ok) then s.push (.dmvBar fn (a - b) (r.rx p none none)) else s.refuse r.ing r.fid r.tlp
          else s.refuse r.ing r.fid r.tlp
        | .device => s.refuse r.ing r.fid r.tlp

/-- Hold a packet before its decode. -/
def State.holdRx (s : State) (x : Rx) (why : HoldReason) : State :=
  { s with path := { s.path with heldRx := s.path.heldRx ++ [⟨why, x⟩] } }

/-- A host's memory or CXL.mem request from stage 4 on (R88). `fresh` is false when it was decoded before. A locked read is accepted only
toward a vDSB of TYPE PORT (R80). A vUSB in D3hot forwards no memory request of PCI Express (R69). -/
def State.hostDecode (s : State) (h : Nat) (x : Rx) (fresh : Bool) : State :=
  let t := x.tlp
  let a := t.addr.toNat
  let r := s.reqAt x (some h)
  match (if t.op.isMem then none else s.barHit h a) with
  | some (f, d, off) => if t.locked then s.refuse r.ing r.fid t else s.push (.bar h f d off x)
  | none =>
  match (if t.op.isMem then none else s.dmvHit h a) with
  | some (fn, off) => if t.locked then s.refuse r.ing r.fid t else s.push (.dmvBar fn off x)
  | none =>
  if s.d3 h 0 && !t.op.isMem then s.refuse r.ing r.fid t
  else match s.folioHit h a, (if t.op.isMem then none else s.vdsbHit h a) with
  | some (i, o), v =>
    let s := if v.isSome && fresh then s.countHier h 2 else s
    if t.locked then s.refuse r.ing r.fid t
    else match (if t.op.isWrite then s.holdOf i else none) with
      | some c => (if fresh then s.countHier h 13 else s).holdRx x (.migration c)
      | none =>
        let s := s.lookup i
        match s.folioDecode r i o (.port x.port) with
        | .error (w, s) => s.refuseReq r w
        | .ok f =>
          if t.op = .memRead ∧ t.len ≠ 0 ∧ f.prefetch ∧ s.actF (offHvhCtl h) 18 16 ≠ 0 then
            s.readAhead h r f (a - o + 2 ^ 28)
          else s.sendFound r f
  | none, some (v, pf, e) =>
    if t.locked && (s.actF (offHvhCtl h) 23 23 == 0 || (match s.attach h v with | some w => attachType w != .port | none => true)) then
      s.refuse r.ing r.fid t
    else s.toVdsb h v r (some (.port x.port, .peer, a)) (if pf && !t.locked then some e else none)
  | none, none => if t.locked then s.refuse r.ing r.fid t else s.refuseReq r .unmapped

/-! ### Requests of device ports (R104, R315) -/

/-- A bit of a vDSB's ACS control (R315). -/
def State.acs (s : State) (h v bit : Nat) : Bool := bitOf (s.cfgW h (fnV v) 0x53) (16 + bit)

/-- DEC_Pnn_UPk (R104). -/
def State.upWord (s : State) (p k : Nat) : Word := s.act (0x630000 + 0x40 * p + 4 * k)

/-- The vDSB attached to a port, or to logical device k of it: hierarchy and number (R104). -/
def State.upVdsb (s : State) (p k : Nat) : Option (Nat × Nat) :=
  ((s.portLdVdsbs p).find? (fun a => attachType a.2.2 == .port || fld a.2.2 15 12 == k)).map (fun a => (a.1, a.2.1))

/-- Refused upstream (R104): answered or dropped, counted, the source raised. -/
def State.upRefuse (s : State) (p : Nat) (r : Req) : State :=
  (s.refuse r.ing r.fid r.tlp).raisePort p 12 r.info

/-- Refused by ACS (R315): answered as forbidden, logged, counted in FAULTS. -/
def State.acsRefuse (s : State) (p h v : Nat) (r : Req) : State :=
  let s := s.aerLogUncorr h (fnV v) 21
  let s := { s with agd := { s.agd with faults := tmod 0 s.agd.faults p (wrapInc 16) } }
  (s.refuse r.ing r.fid r.tlp).raisePort p 14 { r.info with hier := some h, vdsb := some v }

/-- Send a request to the host of a hierarchy (R72, R104, R327). CXL.mem is gated by no Command register and by no power state of the
vUSB, but by containment. -/
def State.toHost (s : State) (h : Nat) (r : Req) (space : Option (GuardSrc × Space × Nat)) : State :=
  let mem := r.tlp.op.isMem
  if (if mem then s.contained .hierarchy h else s.hostShut h) then (s.countShut h r.tlp.op.posted).refuse r.ing r.fid r.tlp
  else if s.d3 h 0 && !mem then s.refuse r.ing r.fid r.tlp
  else s.sendFound { r with raw := true, home := some h }
    { aims := [⟨none, 0, .port (s.hier h).onPort none, r.tlp.addr.toNat⟩], gather := none, multicast := false, folio := none,
      space := space, prefetch := false }

/-- How ACS takes a peer request (R315): refused, redirected to the host, or passed. -/
inductive AcsRoute where
  | refuse | redirect | pass
  deriving DecidableEq, Repr

/-- The ACS controls on a peer request from vDSB v to vDSB u (R315). -/
def State.acsPeer (s : State) (h v u : Nat) (t : Tlp) (atBits : Nat) : AcsRoute :=
  let bus := (t.reqId.toNat / 256)
  let sec := s.cfgF h (fnV v) 6 15 8
  let sub := s.cfgF h (fnV v) 6 23 16
  if s.acs h v 0 ∧ (bus < sec ∨ sub < bus) then .refuse
  else if s.acs h v 1 ∧ atBits ≠ 0 then .refuse
  else if s.acs h v 2 ∧ !(s.acs h v 6 && atBits == 2) then .redirect
  else if s.acs h u 3 ∧ t.op.nonPosted then .redirect
  else .pass

/-- A memory request from the target of vDSB v, received on port p (R104): to a peer vDSB's target or to the host, if the vDSB forwards
(R72, R76, R69). `own` tells the windows of a vDSB attached to the same port or edge. -/
def State.fromTarget (s : State) (h v p : Nat) (r : Req) (peer host : Option (GuardSrc × Space × Nat)) (own : Word → Bool) : State :=
  if !s.bme h (fnV v) then s.gate72 h r
  else if s.vdsbShut h v then s.refuse r.ing r.fid r.tlp
  else match s.vdsbHit h r.tlp.addr.toNat with
    | some (u, _, _) =>
      if (match s.attach h u with | some z => own z | none => false : Bool) then s.upRefuse p r
      else match s.acsPeer h v u r.tlp r.tlp.atf.val with
        | .refuse => s.acsRefuse p h v r
        | .redirect => s.toHost h r host
        | .pass => s.toVdsb h u { r with home := some h } peer none
    | none => s.toHost h r host

/-- The vDSB of TYPE FABRIC of a hierarchy whose target is the edge a request came from (R104, R72). -/
def State.fabricVdsb (s : State) (h fid : Nat) : Option Nat :=
  (((s.hier h).attach.map (·.1)).find? (fun v =>
    match s.attach h v with | some w => attachType w == .fabric && fld w 11 0 == fid | none => false))

/-- Peer decode at the host edge of port q (R104, R315): a request from edge `src`, which came in on port p. One that came through no vDSB
of the hierarchy meets the ACS control of the completer alone. -/
def State.edgeDecode (s : State) (q p src : Nat) (r : Req) (space : Option (GuardSrc × Space × Nat)) : State :=
  match s.hierOn q with
  | none => s.refuse r.ing r.fid r.tlp
  | some h =>
    if r.tlp.op.isMem then s.toHost h r none
    else match s.fabricVdsb h src with
      | some v => s.fromTarget h v p r space space (fun z => attachType z == .fabric && fld z 11 0 == src)
      | none =>
        match s.vdsbHit h r.tlp.addr.toNat with
        | some (u, _, _) =>
          if s.acs h u 3 && r.tlp.op.nonPosted then s.toHost h r space else s.toVdsb h u { r with home := some h } space none
        | none => s.toHost h r space

/-- The host port of this device that a fabric ID names, for a packet that would enter the fabric at an edge of this device (R104, R106,
R187). -/
def State.localHost (s : State) (ing : Ingress) (f tc : Nat) : Option Nat :=
  match s.edgeFid ing with
  | some e =>
    if s.fabricLive then (match s.routeFid e f tc with | .edge q => if s.role q = .host then some q else none | _ => none) else none
  | none => none

/-- A memory request of a device port from stage 4 on (R104). With MODE FABRIC it is routed to the host edge FID; where that edge is on
this device, its peer decode is here. -/
def State.deviceDecode (s : State) (x : Rx) : State :=
  let t := x.tlp
  let a := t.addr.toNat
  let r := s.reqAt x
  let k := if 0 < (s.port x.port).lds then t.ld else 0
  let w := s.upWord x.port k
  match fld w 13 12 with
  | 0 =>
    match s.upVdsb x.port k with
    | none => s.upRefuse x.port r
    | some (h, v) =>
      s.fromTarget h v x.port r (some (.port x.port, .peer, a)) (some (.port x.port, .host, a)) (fun z =>
        (attachType z == .port || attachType z == .ld) && fld z 5 0 == x.port)
  | 1 =>
    let f := fld w 11 0
    let s := s.checkRoute f
    match s.localHost r.ing f r.tc with
    | some q => s.edgeDecode q x.port ((s.edgeFid r.ing).getD 0) r (some (.port x.port, .host, a))
    | none =>
      s.sendFound r
        { aims := [⟨none, 0, .fid f none, a⟩], gather := none, multicast := false, folio := none,
          space := some (.port x.port, .host, a), prefetch := false }
  | _ => s.upRefuse x.port r

/-! ### Requests from the fabric (R105, R106, R188, R189, R220) -/

/-- A request that leaves the fabric at a port of this device (R94, R104). DESIGN CHOICE (log 72): the Brodoth header does not tell a
request that went through a folio from one that went through a vDSB of TYPE FABRIC, so both are converted under R94 at a device port. -/
def State.edgeRequest (s : State) (q : Nat) (x : Rx) : State :=
  let r := s.reqAt x
  match s.role q with
  | .host => s.edgeDecode q x.port x.srcFid r none
  | _ =>
    s.sendFound r
      { aims := [⟨none, 0, .port q x.ld, r.tlp.addr.toNat⟩], gather := none, multicast := false,
        folio := none, space := none, prefetch := false }

/-- Where a packet from a fabric port goes: to the internal edge, an edge, on, or nowhere (R188, R106). -/
def State.fabricRoute (s : State) (x : Rx) : RouteTo :=
  match x.dstFid with
  | none => .none
  | some d => s.routeFid x.srcFid d x.tc

/-- One of this device's active fabric IDs (R189). -/
def State.ownFid (s : State) (f : Nat) : Bool :=
  s.internalFid == some f || (List.range 64).any (fun p => s.portFid p == some f)

/-- R188: a request to the internal edge is answered with Unsupported Request. -/
def State.answerUr (s : State) (x : Rx) : State :=
  if x.tlp.op.nonPosted then (s.answer (.port x.port) x.srcFid x.tlp .ur false []).countPort x.port 5 else s.countPort x.port 4

/-- A request from a fabric port from stage 4 on. -/
def State.fabricDecode (s : State) (x : Rx) : State :=
  match s.fabricRoute x with
  | .internal => s.answerUr x
  | .edge q => s.edgeRequest q x
  | .hop q rel => s.forwardFabric x q rel (x.dstFid.getD 0)
  | .none => (s.countDev 7).refuse (.port x.port) x.srcFid x.tlp

/-! ### Stage 3 and what waits there (R24, R80, R128, R173) -/

/-- Stage 4 for a request, by the role of its port (R87); a host port without a hierarchy refuses all (R427). -/
def State.decodeAny (s : State) (x : Rx) (fresh : Bool) : State :=
  match x.tlp.op with
  | .cpl | .ndr | .drs | .biRsp => s.push (.response x)
  | .io => s.refuse (.port x.port) 0 x.tlp
  | .msg | .cfgRead | .cfgWrite | .biSnp => s.push (.control x)
  | _ =>
  match s.role x.port with
  | .host =>
    match s.hierOn x.port with
    | some h => s.hostDecode h x fresh
    | none => s.refuse (.port x.port) 0 x.tlp
  | .device => s.deviceDecode x
  | .fabric => s.fabricDecode x
  | _ => s

/-- What becomes of a packet at stage 4, with a note of the packet for captures and mirrors (R336): packets that come of it have numbers
from the present one on. -/
def State.observedBy (s : State) (x : Rx) (f : State → State) : State :=
  if s.observing then (f s).push (.observed x s.path.nextPkt) else f s

/-- Decode. A packet enters stage 4 once, and is observed there then, a response with its bookmark; what was held there is decoded anew
(R173), and its bookmark is noted for the sessions that matched it (R338). -/
def State.decodeRx (s : State) (x : Rx) : State :=
  if x.first.isSome then s.observedBy x (fun s => s.decodeAny x false)
  else if x.tlp.op.response then s.decodeAny { x with first := some s.cclkNow } true
  else
    let x := { x with first := some s.cclkNow }
    s.observedBy x (fun s => s.decodeAny x true)

/-- Whether a request takes a bookmark in this device (R23, R427). -/
def State.takesBookmark (s : State) (x : Rx) : Bool :=
  x.tlp.op.nonPosted &&
    (match s.role x.port with
     | .host => (s.hierOn x.port).isSome
     | .fabric => (match s.fabricRoute x with | .edge _ => true | _ => false)
     | _ => true)

/-- A write that a migration holds stops everything behind it on its ingress (R173). -/
def State.migStops (s : State) (p : Nat) : Bool :=
  s.path.heldRx.any (fun y => y.rx.port == p && (match y.reason with | .migration _ => true | _ => false))

/-- A held packet of a port stops what comes behind it: every packet behind a migration's hold (R173), a non-posted request of its own
buffer class behind a held one (R24, R80, R128); no buffer class waits for another (R129, R130). -/
def State.heldBehind (s : State) (x : Rx) : Bool :=
  s.migStops x.port
    || (x.tlp.op.nonPosted &&
      (s.path.heldRx.any (fun y => y.rx.port == x.port && y.rx.tlp.op.nonPosted && y.rx.tlp.op.bufClass == x.tlp.op.bufClass)
        || s.path.heldOut.any (fun y => y.pkt.ingress == .port x.port && y.pkt.tlp.op.bufClass == x.tlp.op.bufClass)))

/-- A packet at stage 3: held for a bookmark (R24) or behind a held packet, else decoded. -/
def State.receive (s : State) (x : Rx) : State :=
  if s.heldBehind x then s.holdRx x .behind
  else if s.takesBookmark x && !s.bmAvailable (some x.port) false then s.holdRx x .noBookmark
  else s.decodeRx x

/-- A held request after decode is looked at again: its hold was counted already. -/
def State.relaunch (s : State) (y : HeldOut) : State :=
  if s.copyHeld y.pkt y.copies then { s with path := { s.path with heldOut := s.path.heldOut ++ [y] } }
  else s.launch y.pkt y.copies

/-- A packet held before its decode is looked at again. -/
def State.reReceive (s : State) (y : HeldRx) : State := s.receive y.rx

/-- Everything held is looked at again, in the order in which it was held. -/
def State.doRetryHeld (s : State) : State :=
  let ho := s.path.heldOut
  let hr := s.path.heldRx
  let s := { s with path := { s.path with heldOut := [], heldRx := [] } }
  (s.each ho State.relaunch).each hr State.reReceive

/-- The packets that a port holds before their decode are flushed with their ingress (R178, R131). -/
def State.flushHeld (s : State) (p : Nat) : State :=
  let hr := s.path.heldRx
  let mine := hr.filter (fun y => y.rx.port == p)
  if mine.isEmpty then s
  else
    let s := { s with path := { s.path with heldRx := hr.filter (fun y => y.rx.port != p) } }
    s.each mine (fun s y => s.countPort p (if y.rx.tlp.op.nonPosted then 14 else 13))

/-- The parts of a request at 256 MiB boundaries of its address (R91), of which there is at most one within its 4,096 bytes. A part
knows how many bytes of the request lie behind it, so that the completions of both cover the whole request. -/
def splitFolio (t : Tlp) : List Tlp :=
  let k := 2 ^ 28 - t.addr.toNat % 2 ^ 28
  if t.len ≤ k then [t]
  else [{ t with len := k, payload := t.payload.take k, rest := t.len - k },
        { t with addr := t.addr + BitVec.ofNat 64 k, len := t.len - k, payload := t.payload.drop k }]

end Sys2Proof.Machine
end

