-- ==== Sys2Proof/Machine/Control.lean ====
section
/-!
DEFINITION. Configuration requests (R58, R65 to R69, R75, R281), what writing a header field does (R66, R72 to R76, R255),
messages (R87), back-invalidate snoops (R84), locks (R80), resets of a hierarchy (R73).
-/
namespace Sys2Proof.Machine

/-! ### What a configuration write does -/

/-- Recovery with a rate change begins on a port that is UP and not in Recovery (R65, R255). -/
def State.startRecovery (s : State) (p : Nat) : State :=
  if (s.port p).sup = .up ∧ s.role p ≠ .fabric then s.modPort p (fun x => { x with recovering := true, inL1 := false }) else s

/-- Retrain Link of a vDSB acts on a device port for TYPE PORT only (R65). -/
def State.retrainLink (s : State) (h v : Nat) : State :=
  match s.attach h v with
  | some w => if attachType w = .port then s.startRecovery (fld w 5 0) else s
  | none => s

/-- Secondary Bus Reset written in a bridge (R73, R74). -/
def State.sbrWritten (s : State) (h f : Nat) (on : Bool) : State :=
  if f = 0 then
    if on then s.beginReset h false (fun x => { x with rstSbr := true })
    else s.modHier h (fun x => { x with rstSbr := false })
  else if on then (match s.attach h (f - 2) with | some w => s.vdsbTargetReset w | none => s)
  else s

/-- Interrupts of a management endpoint that were pending and may go now (R68, R423). -/
def State.msixRelease (s : State) (h : Nat) : State :=
  let p := (s.hier h).pba
  if p.isEmpty ∨ s.cfgF h 1 0x14 31 31 = 0 ∨ s.cfgF h 1 0x14 30 30 = 1 then s
  else (s.modHier h (fun x => { x with pba := [] })).each p (fun s k => s.mepMsix h k)

/-- Link Disable of a vDSB of a type other than PORT was written (R65): the reported link goes or comes, which Data Link Layer State
Changed tells. -/
def State.linkShownChanged (s : State) (h v : Nat) : State :=
  match s.attach h v with
  | some w =>
    if attachType w ≠ .port ∧ (s.hier h).present.contains v then
      let s := s.setCfgBits h (fnV v) 0x22 0x01000000
      let c := s.cfgW h (fnV v) 0x22
      if bitOf c 5 && bitOf c 12 then s.vdsbMsi h v else s
    else s
  | none => s

/-- The effects of a host's configuration write on a word, beyond the stored bits (R66). `val` is what was written. -/
def State.cfgEffects (s : State) (h f d old new val : Nat) : State :=
  let rose := fun (k : Nat) => !bitOf old k && bitOf new k
  let fell := fun (k : Nat) => bitOf old k && !bitOf new k
  match d with
  | 1 => if rose 2 then s.push (.busMaster h f true) else if fell 2 then s.push (.busMaster h f false) else s
  | 15 => if f = 1 then s else if rose 22 then s.sbrWritten h f true else if fell 22 then s.sbrWritten h f false else s
  | 0x14 => if f = 1 then s.msixRelease h else s
  | 0x20 =>
    if f < 2 then s
    else
      let s := if rose 4 ∨ fell 4 then (s.linkShownChanged h (f - 2)).push .recheck else s
      if bitOf val 5 then s.retrainLink h (f - 2) else s
  | 0x57 =>
    if f < 2 then s
    else if bitOf val 22 ∧ bitsOf new 17 16 ≠ 0 ∧ !s.dpcStatus h (f - 2) then s.dpcTrigger h (f - 2) 3 else s
  | 0x58 => if 2 ≤ f ∧ fell 0 then s.push .recheck else s
  | _ => if f ≠ 1 ∧ 0x8E ≤ d ∧ d < 0x9E then s.push (.marginCap h f (d - 0x8E) (BitVec.ofNat 32 val)) else s

/-- A host's configuration write to a word of a function (R66). -/
def State.cfgWrite (s : State) (h f d val be : Nat) : State :=
  let old := s.cfgW h f d
  let new := cfgMerge (fnKind f) d old val be
  (s.setCfgW h f d new).cfgEffects h f d old new (val &&& beMask be)

/-! ### Routing of configuration requests (R57, R58, R65) -/

/-- Where a configuration request goes. -/
inductive CfgTo where
  | fn (f : Nat)
  | dmv (fn : Nat)
  | below (v : Nat)
  | none
  deriving DecidableEq, Repr

/-- The vDSB of a device and function number on the internal bus (R57). -/
def vdsbAt (dev fn : Nat) : Option Nat := if fn ≤ 1 ∧ dev < 32 then some (dev + 32 * fn) else Option.none

/-- Below a vDSB: its target, or the data mover function that the device answers for (R65, R281). -/
def State.cfgBelow (s : State) (h v : Nat) (first : Bool) (dev fn : Nat) : CfgTo :=
  if !(s.hier h).present.contains v then .none
  else match s.attach h v with
    | some w => if attachType w = .dmvVf then (if first ∧ dev = 0 ∧ fn = 0 then .dmv (fld w 11 0) else .none) else .below v
    | Option.none => .none

/-- The function or target of a configuration request (R57, R58, R65, R281). -/
def State.cfgTo (s : State) (h : Nat) (r : MsgRoute) : CfgTo :=
  match r with
  | .type0 0 fn =>
    if h = 48 then (if fn = 0 then .fn 1 else .none)
    else if fn = 0 then .fn 0
    else if fn = 1 then (if s.actF (offHvhCtl h) 24 24 = 1 then .fn 1 else .none)
    else if fn = 2 ∧ s.dirF 0x5C0000 13 8 = h then .dmv 0
    else .none
  | .byId bus dev fn =>
    let sec := s.cfgF h 0 6 15 8
    if h = 48 ∨ bus < sec ∨ s.cfgF h 0 6 23 16 < bus then .none
    else if bus = sec then
      match vdsbAt dev fn with
      | some v => if s.vdsbShown h v then .fn (fnV v) else .none
      | Option.none => .none
    else
      match (List.range 64).find? (fun v =>
        s.vdsbShown h v && decide (s.cfgF h (fnV v) 6 15 8 ≤ bus ∧ bus ≤ s.cfgF h (fnV v) 6 23 16)) with
      | some v => s.cfgBelow h v (bus == s.cfgF h (fnV v) 6 15 8) dev fn
      | Option.none => .none
  | _ => .none

/-- A configuration request as it leaves a device port: Type 0 (R65). -/
def asType0 (t : Tlp) : Tlp :=
  match t.op, t.route with
  | .cfgRead, .byId _ dev fn | .cfgWrite, .byId _ dev fn => { t with route := .type0 dev fn }
  | _, _ => t

/-- A configuration request below a vDSB in the form its target takes (R65): Type 0 at a device port, unchanged into the fabric. -/
def belowForm (a : Tgt) (t : Tlp) : Tlp :=
  match a with
  | .port _ _ => asType0 t
  | .fid _ _ => t

/-- A request of a hierarchy sent to the target of a vDSB with no check of the guard (R65, R307); in QUIESCED nothing is forwarded (R31), but for its cause 3,
where configuration requests go on (R328). -/
def State.sendBelow (s : State) (h v : Nat) (r : Req) : State :=
  if s.dpcStatus h v || (s.glb.mode == .quiesced && s.glb.quiesceCause != 3) then s.refuse r.ing r.fid r.tlp
  else match (s.attach h v).bind attachTgt with
    | some t =>
      s.sendFound { r with tlp := belowForm t r.tlp }
        { aims := [⟨none, 0, t, r.tlp.addr.toNat⟩], gather := none, multicast := false, folio := none, space := none,
          prefetch := false }
    | none => s.refuse r.ing r.fid r.tlp

/-- Count a non-posted request that the device answers (R342). -/
def State.answered (s : State) (p : Nat) : State := s.countPort p 5

/-- A host's configuration request (R58, R65, R66, R75). The word number is in `addr`, the byte enables in `be`. -/
def State.hostConfig (s : State) (h : Nat) (x : Rx) : State :=
  let t := x.tlp
  let ing : Ingress := .port x.port
  let d := t.addr.toNat % 1024
  if s.rrs h then ((s.countHier h 0).answer ing 0 t .crs false []).answered x.port
  else match s.cfgTo h t.route with
    | .fn f =>
      if t.op = .cfgRead then (s.answer ing 0 t .ok false (leBytes 4 (s.cfgRead h f d).toNat)).answered x.port
      else ((s.cfgWrite h f d (leNat t.payload) (t.be.toNat % 16)).answer ing 0 t .ok false []).answered x.port
    | .dmv fn => s.push (.dmvCfg h fn x)
    | .below v =>
      s.sendBelow h v (s.reqAt x (some h))
    | .none => s.refuse ing 0 t

/-! ### Locks (R80) -/

/-- The Unlock message. -/
def unlockMsg : Tlp := { tlp0 with op := .msg, route := .unlock }

/-- The locks that a hierarchy holds. -/
def State.locksOf (s : State) (h : Nat) : List Nat :=
  (s.path.swPorts.filter (fun x => x.2.lock == some h)).map (·.1)

/-- Free the lock of an egress port; requests held behind it go on (R80). -/
def State.freeLock (s : State) (p : Nat) : State :=
  if (s.swPort p).lock.isSome then (s.modSwPort p (fun x => { x with lock := none })).retryHeld else s

/-- Send Unlock to a port and free its lock (R80, R73). -/
def State.unlockPort (s : State) (p : Nat) : State :=
  (s.enqueue (s.devicePacket unlockMsg) [copyTo p unlockMsg]).freeLock p

/-! ### Messages and snoops (R84, R87, R104) -/

/-- The target of a vDSB for a message from its host; a bridge that forwards nothing (R69, R76) has none. -/
def State.messageTgt (s : State) (h v : Nat) : Option Tgt := if s.vdsbShut h v then none else (s.attach h v).bind attachTgt

/-- The presented vDSBs whose targets a broadcast message reaches (R87). -/
def State.broadcastTgts (s : State) (h : Nat) : List Tgt := (s.hier h).present.filterMap (s.messageTgt h)

/-- A message toward targets: one packet, a copy for each. -/
def State.sendMessage (s : State) (r : Req) (ts : List Tgt) : State :=
  let s := s.checkTgts ts
  let cs := ts.map (fun t => s.aimCopy (s.edgeFid r.ing) r.tc r.tlp false r.under.isSome ⟨none, 0, t, r.tlp.addr.toNat⟩)
  let s := s.noteDeads r cs
  s.launch (s.packetOf r r.tlp none none) (cs.filterMap (fun c => match c with | .ok c => some c | .error _ => none))

/-- A host's message (R87): consumed by the vUSB, broadcast, or routed by ID as a configuration request is. LTR is discarded,
and a PTM request is an Unsupported Request (R85). -/
def State.hostMessage (s : State) (h : Nat) (x : Rx) : State :=
  let r := s.reqAt x (some h)
  match x.tlp.route with
  | .broadcast => s.sendMessage r (s.broadcastTgts h)
  | .byId bus dev fn =>
    (match s.cfgTo h (.byId bus dev fn) with
     | .below v => (match s.messageTgt h v with | some t => s.sendMessage r [t] | none => s)
     | _ => s)
  | .ptm => s.refuse (.port x.port) 0 x.tlp
  | .unlock => s.each (s.locksOf h) State.unlockPort
  | _ => s

/-- A message toward the host of a hierarchy (R87, R104), through vDSB v where one is known; dropped and counted where the hierarchy is
contained (R327), or a bridge on its way forwards nothing (R69, R76). -/
def State.hostMsg (s : State) (h : Nat) (v : Option Nat) (p : Nat) (r : Req) : State :=
  if s.contained .hierarchy h then (s.countShut h true).countPort p 4
  else if s.d3 h 0 || v.any (s.vdsbShut h) then s.countPort p 4
  else s.sendMessage r [.port (s.hier h).onPort none]

/-- A message to the host edge of port q (R104), from edge `src`, which came in on port p. -/
def State.edgeMsg (s : State) (q p src : Nat) (r : Req) : State :=
  match s.hierOn q with
  | some h => s.hostMsg h (s.fabricVdsb h src) p r
  | none => s.countPort p 4

/-- A device port's message that goes upstream as its MODE states, or is discarded (R104). -/
def State.upMessage (s : State) (x : Rx) : State :=
  let r := s.reqAt x
  let k := if 0 < (s.port x.port).lds then x.tlp.ld else 0
  let w := s.upWord x.port k
  match fld w 13 12 with
  | 0 => (match s.upVdsb x.port k with | some (h, v) => s.hostMsg h (some v) x.port r | none => s)
  | 1 =>
    let f := fld w 11 0
    let s := s.checkRoute f
    (match s.localHost r.ing f r.tc with
     | some q => s.edgeMsg q x.port ((s.edgeFid r.ing).getD 0) r
     | none => s.sendMessage r [.fid f none])
  | _ => s

/-- A device port's message: LTR is discarded and a PTM request is an Unsupported Request (R85); others go upstream (R104). -/
def State.deviceMessage (s : State) (x : Rx) : State :=
  match x.tlp.route with
  | .ltr => s
  | .ptm => s.refuse (.port x.port) 0 x.tlp
  | _ => s.upMessage x

/-- A back-invalidate snoop (R84): to the host port its BI-ID names, with a bookmark; a contained hierarchy takes none (R327). -/
def State.deviceSnoop (s : State) (x : Rx) : State :=
  if (s.hier x.tlp.ld).active && decide (x.tlp.ld < 48) && !s.contained .hierarchy x.tlp.ld then
    let r := s.reqAt x
    s.sendOne r x.tlp ⟨none, 0, .port (s.hier x.tlp.ld).onPort none, x.tlp.addr.toNat⟩ none false 0 .snoop
  else s

/-- A configuration request, message or snoop that arrived over the fabric, at the port where it leaves (R65, R106). -/
def State.fabricControl (s : State) (x : Rx) : State :=
  match s.fabricRoute x with
  | .edge q =>
    let r := s.reqAt x
    if x.tlp.op = .msg then (if s.role q = .host then s.edgeMsg q x.port x.srcFid r else s.sendMessage r [.port q x.ld])
    else if x.tlp.op = .biSnp ∧ (s.hierOn q).any (s.contained .hierarchy) then s
    else s.sendOne r (if s.role q = .device then asType0 x.tlp else x.tlp) ⟨none, 0, .port q x.ld, x.tlp.addr.toNat⟩ none false 0 (s.purposeOf r)
  | .hop q rel => s.forwardFabric x q rel (x.dstFid.getD 0)
  | .internal => s.answerUr x
  | .none => (s.countDev 7).refuse (.port x.port) x.srcFid x.tlp

/-- Stage 4 for a configuration request, message or snoop (R87). -/
def State.doControl (s : State) (x : Rx) : State :=
  match s.role x.port with
  | .host =>
    match s.hierOn x.port with
    | none => s.refuse (.port x.port) 0 x.tlp
    | some h => if x.tlp.op = .msg then s.hostMessage h x else s.hostConfig h x
  | .device =>
    match x.tlp.op with
    | .msg => s.deviceMessage x
    | .biSnp => s.deviceSnoop x
    | _ => s.refuse (.port x.port) 0 x.tlp
  | .fabric => s.fabricControl x
  | _ => s

/-! ### The rest of a hierarchy reset (R73) -/

/-- R73 steps 2, 3 and 5: prefetched data, locks, and the host port's bookmarks, whose completions are discarded. -/
def State.doHierReset (s : State) (h port : Nat) : State :=
  let s := s.pfDiscard (fun x => x.hier == h)
  let s := s.each (s.locksOf h) State.unlockPort
  { s with path := { s.path with
    bookmarks := s.path.bookmarks.map (fun b =>
      if b.2.port = some port ∧ !b.2.dmv then (b.1, { b.2 with discard := true }) else b),
    streams := tdel s.path.streams h } }

end Sys2Proof.Machine
end

