-- ==== Sys2Proof/Machine/Egress.lean ====
section
/-!
DEFINITION. Egress: which heads may go (R117 to R119), the arbiter of R121, building what leaves (R94, R424), late faults
(R124 to R126), underruns (R123), header-cell errors (R111).
-/
namespace Sys2Proof.Machine

/-! ### Passing (R118, R119) -/

/-- When a later packet passes an older one. -/
inductive Pass where
  | no | whenBlocked | free
  deriving DecidableEq, Repr

/-- The family of an ordering type: PCI Express, CXL.mem toward a device, CXL.mem toward a host. -/
def OrdType.family : OrdType → Nat
  | .p | .np | .cpl => 0
  | .req | .rwd | .birsp => 1
  | .ndr | .drs | .bisnp => 2

/-- R118 and R119: `later` behind `older` in one class and share group; the families are independent. -/
def passes (later older : OrdType) : Pass :=
  if later.family ≠ older.family then .free
  else match later, older with
    | .p, .np | .cpl, .np | .birsp, .req | .birsp, .rwd | .ndr, .bisnp | .drs, .bisnp => .whenBlocked
    | _, _ => .no

/-! ### Tags and bookmarks at the head of a queue (R23, R424) -/

/-- Whether an entry leaves in the CXL.mem tag space of its port. -/
def State.memTag (s : State) (p : Nat) (e : QEntry) (x : Packet) : Bool :=
  (e.convert || x.tlp.op.isMem) && s.role p != .fabric

/-- How many egress tags an entry needs (R424): one for each line of a converted request, one for a request with a
bookmark. -/
def tagsNeeded (e : QEntry) (x : Packet) : Nat :=
  if e.convert then max 1 (linesOf e.addr.toNat x.tlp.len)
  else if x.bookmark.isSome && x.tlp.op.nonPosted then 1 else 0

/-- An entry at the head waits for an egress tag (R424) or a bookmark (R23). -/
def State.headHeld (s : State) (p : Nat) (e : QEntry) (x : Packet) : Bool :=
  let n := tagsNeeded e x
  let mem := s.memTag p e x
  (n != 0 && decide (s.tagSpace p mem < (s.tagsUsed p mem).length + n))
    || (e.convert && x.bookmark.isNone
        && !s.bmAvailable (match x.ingress with | .port q => some q | .device => some p) x.dmv.isSome)

/-- What an entry lacks now. -/
structure HeadState where
  entry : QEntry
  cells : Nat
  blocked : Bool
  ready : Bool
  deriving DecidableEq, Repr

/-- The first entry of each ordering type in a class and share group, oldest first. -/
def headsOf : List QEntry → List OrdType → List QEntry
  | [], _ => []
  | e :: t, seen => if seen.contains e.typ then headsOf t seen else e :: headsOf t (e.typ :: seen)

/-- A completion that the device makes for a request waits until the data already returned for it has left (R312). DEDUCED (log 87):
it is queued meanwhile and nothing passes it on that account. -/
def State.endWaits (s : State) (p : Nat) (e : QEntry) (x : Packet) : Bool :=
  x.tlp.op == .cpl && x.tlp.synth && (s.queue p).any (fun o => decide (o.age < e.age) && o.dstFid == e.dstFid &&
    match tfind s.path.packets o.pkt with
    | some y => y.tlp.op == .cpl && y.tlp.reqId == x.tlp.reqId && y.tlp.tag == x.tlp.tag
    | none => false)

/-- The heads of a class and group with their states. `cred` tells which entries have egress credit. -/
def State.headStates (s : State) (p : Nat) (cred : QEntry → Bool) (c g : Nat) : List HeadState :=
  (headsOf ((s.queue p).filter (fun e => e.tc == c && e.group == g)) []).filterMap (fun e =>
    (tfind s.path.packets e.pkt).map (fun x =>
      let b := !cred e || s.headHeld p e x
      ⟨e, e.cells, b, !b && !s.endWaits p e x && (match e.release with | some t => decide (t ≤ s.cclkNow) | none => true)⟩))

/-- The oldest eligible head of a class and group (R121 steps 1 and 5). -/
def eligibleOf : List HeadState → List HeadState → Option HeadState
  | _, [] => none
  | older, h :: t =>
    if h.ready && older.all (fun o => match passes h.entry.typ o.entry.typ with
        | .free => true | .whenBlocked => o.blocked | .no => false) then some h
    else eligibleOf (older ++ [h]) t

/-- The eligible head of a class and group at a port. -/
def State.eligible (s : State) (p : Nat) (cred : QEntry → Bool) (c g : Nat) : Option HeadState :=
  eligibleOf [] (s.headStates p cred c g)

/-! ### Arbitration (R121) -/

/-- One deficit round robin: the candidates with the cells they would send, the weights, the deficits and the place. The
answer is the choice with the new deficits. DESIGN CHOICE (log 74): it visits in ascending number and wraps, and begins at number 0, where
it stands without having added a quantum. -/
def drr (cands : List (Nat × Nat)) (weight : Nat → Nat) (size : Nat) : Nat → Tbl Nat → Nat → Option (Nat × Tbl Nat)
  | 0, _, _ => none
  | n + 1, d, k =>
    match cands.find? (fun x => x.1 == k) with
    | some (_, cells) =>
      if cells ≤ tget 0 d k then some (k, tput 0 d k (tget 0 d k - cells))
      else
        let j := (k + 1) % size
        let d := if cands.any (fun x => x.1 == j) then tput 0 d j (tget 0 d j + 4 * weight j) else d
        drr cands weight size n d j
    | none =>
      let j := (k + 1) % size
      let d := if cands.any (fun x => x.1 == j) then tput 0 d j (tget 0 d j + 4 * weight j) else d
      drr cands weight size n d j

/-- WEIGHT and STRICT of a class at a port (R121). -/
def State.classArb (s : State) (p c : Nat) : Bool × Nat :=
  let w := (s.act (offSwc p + 0x20 + 4 * (c / 4))).toNat
  let lo := 8 * (c % 4)
  (bitOf w (lo + 7), bitsOf w (lo + 6) lo)

/-- The share groups with an eligible head in a class. -/
def State.groupsOf (s : State) (p : Nat) (cred : QEntry → Bool) (c : Nat) : List (Nat × HeadState) :=
  (((s.queue p).filter (fun e => e.tc == c)).map (·.group)).eraseDups.filterMap (fun g =>
    (s.eligible p cred c g).map (fun h => (g, h)))

/-- The choice within a class (R121 steps 4 and 5): group deficits after it, the group stood at, and the head. A group of
weight 0 is served only when no other is eligible, the lowest-numbered first. -/
def State.pickGroup (s : State) (p : Nat) (cred : QEntry → Bool) (c : Nat) : Option (HeadState × Tbl Nat × Nat) :=
  let gs := s.groupsOf p cred c
  let weight := fun g => s.actF (0x710000 + 4 * g) 7 0
  let nz := gs.filter (fun x => weight x.1 != 0)
  let d := (s.swPort p).groupDeficit
  if nz.isEmpty then
    match gs.foldl (fun (m : Option (Nat × HeadState)) x => match m with | some y => if x.1 < y.1 then some x else m | none => some x) none with
    | some x => some (x.2, d, x.1)
    | none => none
  else
    let own := d.filterMap (fun x => if x.1 / 64 = c then some (x.1 % 64, x.2) else none)
    match drr (nz.map (fun x => (x.1, x.2.cells))) weight 64 512 own (tget 0 (s.swPort p).groupAt c) with
    | some (g, own') =>
      (nz.find? (fun x => x.1 == g)).map (fun x =>
        (x.2, own'.foldl (fun t y => tput 0 t (64 * c + y.1) y.2) (d.filter (fun y => y.1 / 64 != c)), g))
    | none => none

/-- The arbiter's choice at a port, and the port's deficits after it (R121). -/
def State.arbitrate (s : State) (p : Nat) (cred : QEntry → Bool) : Option (QEntry × SwPort) :=
  let cs := (List.range 8).filterMap (fun c => (s.pickGroup p cred c).map (fun x => (c, x)))
  let strict := cs.filter (fun x => (s.classArb p x.1).1)
  let put := fun (c : Nat) (x : HeadState × Tbl Nat × Nat) (y : SwPort) =>
    { y with groupDeficit := x.2.1, groupAt := tput 0 y.groupAt c x.2.2 }
  match strict.getLast? with
  | some (c, x) => some (x.1.entry, put c x (s.swPort p))
  | none =>
    match drr (cs.map (fun x => (x.1, x.2.1.cells))) (fun c => (s.classArb p c).2) 8 512 (s.swPort p).classDeficit (s.swPort p).classAt with
    | some (c, d) =>
      (cs.find? (fun x => x.1 == c)).map (fun x =>
        (x.2.1.entry, { put c x.2 (s.swPort p) with classDeficit := d, classAt := c }))
    | none => none

/-- A class or group whose queues are empty loses its deficit (R121). -/
def State.dropDeficits (s : State) (p : Nat) : State :=
  let q := s.queue p
  s.modSwPort p (fun y =>
    { y with classDeficit := y.classDeficit.filter (fun x => q.any (fun e => e.tc == x.1)),
             groupDeficit := y.groupDeficit.filter (fun x => q.any (fun e => e.tc == x.1 / 64 && e.group == x.1 % 64)) })

/-! ### Building what leaves (R94, R424) -/

/-- The lines of a converted request: number, address of the line, first byte of the request in it, bytes (R94). A
zero-length read has one line. -/
def linesAt (a len : Nat) : List (Nat × Nat × Nat × Nat) :=
  if len = 0 then [(0, a / 64 * 64, a % 64, 0)]
  else (List.range (linesOf a len)).map (fun j =>
    let la := (a / 64 + j) * 64
    let lo := if j = 0 then a % 64 else 0
    let hi := min 64 (a + len - la)
    (j, la, lo, hi - lo))

/-- A byte of a write is enabled. -/
def Tlp.enabled (t : Tlp) (i : Nat) : Bool := t.be == 0 || bitOf t.be.toNat i

/-- Some byte of a line, `lo` to `hi` of the payload, was found bad. -/
def badIn (bad : Option (Nat × Nat)) (lo hi : Nat) : Bool :=
  match bad with | some (a, b) => decide (a < hi ∧ lo < b) | none => false

/-- The 64 bytes of a MemWrPtl that writes `bytes` from byte `lo` of its line on; what the others hold is open (R94). -/
def padLine (lo : Nat) (bytes : List Byte) : List Byte :=
  (List.range lo).map Config.padByte ++ bytes ++ (List.range (64 - lo - bytes.length)).map Config.padByte

/-- The CXL.mem messages of a converted request (R94): the line number with each. The mask of a MemWrPtl names exactly the bytes that
are written, and a line with a bad byte carries the poison bit (R125). -/
def convertTlp (t : Tlp) (a : Nat) (bad : Option (Nat × Nat)) : List (Nat × Tlp) :=
  (linesAt a t.len).map (fun x =>
    let base : Tlp := { t with addr := BitVec.ofNat 64 x.2.1, len := 64, payload := [], be := 0, ecrc := .none }
    if t.op = .memRead then (x.1, { base with op := .cMemRd })
    else
      let first := x.2.1 + x.2.2.1 - a
      let bytes := (t.payload.drop first).take x.2.2.2
      let base := { base with ep := t.ep || badIn bad first (first + x.2.2.2) }
      if x.2.2.2 = 64 ∧ t.be = 0 then (x.1, { base with op := .cMemWr, payload := bytes })
      else
        (x.1, { base with
          op := .cMemWrPtl, payload := padLine x.2.2.1 bytes,
          be := BitVec.ofNat 64 (bitSet (((List.range x.2.2.2).filter (fun i => t.enabled (first + i))).map (fun i => x.2.2.1 + i))) }))

/-- Give one message to the link of a port: PCI Express and CXL at once, Brodoth through its link layer. -/
def State.emit (s : State) (p : Nat) (x : Packet) (e : QEntry) (t : Tlp) : State :=
  let s := (s.countPort p 1).countPort p 3 t.payload.length
  let s := if t.op = .cMemRd ∨ t.op = .cMemWr ∨ t.op = .cMemWrPtl then s.countPort p 25 else s
  if s.role p = .fabric then s.push (.bflSend p t e.ld x.srcFid e.dstFid x.tc x.ttl)
  else s.out (.tx p t e.ld x.srcFid none x.tc)

/-- Take an egress tag for a message of a bookmark (R424). -/
def State.takeTag (s : State) (b p : Nat) (mem : Bool) (m : Option Nat) (line choice : Nat) (dst : Option Nat) : Nat × State :=
  match s.freeTag p mem choice, s.bm b with
  | some t, some y => (t, s.bmSet b { y with tags := y.tags ++ [⟨p, t, m, line, false, mem, dst⟩] })
  | _, _ => (0, s)

/-- Send the messages of an entry, each with its own egress tag where it awaits an answer. -/
def State.emitAll (s : State) (p : Nat) (x : Packet) (e : QEntry) (b : Option Nat) (choice : Nat) (ms : List (Nat × Tlp)) : State :=
  let mem := s.memTag p e x
  s.each ms (fun s m =>
    match b with
    | some b =>
      let (t, s) := s.takeTag b p mem e.member m.1 choice e.dstFid
      s.emit p x e { m.2 with tag := t, ld := (e.ld).getD m.2.ld }
    | none => s.emit p x e { m.2 with ld := (e.ld).getD m.2.ld })

/-- The bookmark that absorbs the Cmps of a converted posted write (R23, R150). -/
def State.absorbBookmark (s : State) (p : Nat) (x : Packet) (e : QEntry) : Nat × State :=
  s.takeBookmark
    { bookmark0 with
      purpose := (match x.dmv with | some (f, k, n) => .dmv f k n | none => .absorb), dmv := x.dmv.isSome, port := (match x.ingress with | .port q => some q | .device => some p), ingress := x.ingress,
      hier := x.hier, tlp := { x.tlp with payload := [] }, srcFid := x.srcFid, slot := x.slot, gen := x.gen, tc := x.tc,
      group := x.group, timer := s.timerOf x.ingress, ports := [p], target := e.addr, converted := true, mig := x.mig,
      gather := x.gather, merge := e.member.toList.map (fun m => ⟨m, true, false, true, e.word⟩) }

/-- Raw bandwidth of a port in units of 0.5 GT/s lanes (R122). -/
def State.bandwidth (s : State) (p : Nat) : Nat :=
  (match (s.port p).rate with | 0 => 5 | 1 => 10 | 2 => 16 | 3 => 32 | 4 => 64 | _ => 128) * (s.port p).width

/-- An entry leaves as CXL.mem messages. -/
def State.memEgress (s : State) (p : Nat) (x : Packet) (e : QEntry) : Bool := e.convert || (x.tlp.op.isMem && s.role p != .fabric)

/-- A packet is sent only when complete (R122). -/
def State.storeForward (s : State) (p : Nat) (x : Packet) (e : QEntry) : Bool :=
  bitOf (s.act (offSwc p + 0x10)).toNat 31 || s.memEgress p x e
    || (match x.ingress with | .port q => decide (s.bandwidth q < s.bandwidth p) | .device => false)

/-- Take an entry off its queue. -/
def State.unqueue (s : State) (p : Nat) (e : QEntry) : State :=
  { s with path := { s.path with queues := tput [] s.path.queues p ((s.queue p).filter (fun f => f.age != e.age)) } }

/-- A packet as it leaves: the ECRC it came with is made anew (R124), and a bad line carries the poison bit (R125). -/
def Packet.leaving (x : Packet) : Tlp := { x.tlp with ecrc := x.tlp.ecrc.anew, ep := x.tlp.ep || x.bad.isSome }

/-- The entry leaves whole (R98, R122, R424). -/
def State.sendWhole (s : State) (p : Nat) (x : Packet) (e : QEntry) (choice : Nat) : State :=
  let s := if s.storeForward p x e then s.countPort p 9 else s
  let s := if s.observing then
      (s.push (.measured 1 (s.cclkNow - x.born) (match x.ingress with | .port q => q | .device => 64) p x.tc 0)).push (.leaves p x e x.bad.isSome)
    else s
  let s :=
    if e.convert then
      match x.bookmark with
      | some b => s.emitAll p x e (some b) choice (convertTlp x.tlp e.addr.toNat x.bad)
      | none =>
        let (b, s) := s.absorbBookmark p x e
        s.emitAll p x e (some b) choice (convertTlp x.tlp e.addr.toNat x.bad)
    else
      s.emitAll p x e (if x.tlp.op.nonPosted then x.bookmark else none) choice [(0, { x.leaving with addr := e.addr })]
  ((s.unqueue p e).dropCopy e.pkt).dropDeficits p

/-! ### Packets found bad (R111, R124 to R126) -/

/-- The copies of a packet that a test picks are not sent; with its last copy the packet goes. A class or group that empties at any port
loses its deficit (R121). -/
def State.dropCopies (s : State) (id : Nat) (f : Nat → QEntry → Bool) : State :=
  let gone := s.path.queues.flatMap (fun q => (q.2.filter (fun e => e.pkt == id && f q.1 e)).map (fun e => (q.1, e)))
  s.each gone (fun s x => ((s.unqueue x.1 x.2).dropCopy id).dropDeficits x.1)

/-- No copy of a packet is sent any more. -/
def State.dropPacket (s : State) (id : Nat) : State := s.dropCopies id (fun _ _ => true)

/-- A bookmark's request is merged (R147, R154): each of its copies answers for a member. -/
def Tlp.merged (t : Tlp) : Bool := t.op.isWrite || (t.op == .memRead && t.len == 0)

/-- Copies of a packet found bad are not sent (R143). A request with a bookmark is answered as on expiry (R126), the copy of a merge for
its member (R148). -/
def State.withhold (s : State) (id : Nat) (x : Packet) (f : QEntry → Bool) : State :=
  let gone := s.path.queues.flatMap (fun q => q.2.filter (fun e => e.pkt == id && f e))
  let s := s.dropCopies id (fun _ e => f e)
  match x.bookmark with
  | some b =>
    if x.tlp.op.nonPosted then
      s.each gone (fun s e => s.push (.bmResult b (if x.tlp.merged then e.member else none) 0 .synthesised))
    else s
  | none => s

/-- A transmission is nullified, or tail-marked on a fabric port, after `got` bytes of payload (R123, R125). -/
def State.nullify (s : State) (p : Nat) (x : Packet) (e : QEntry) (got : Nat) : State :=
  if s.role p = .fabric then s.push (.bflTail p { x.tlp with addr := e.addr } e.ld x.srcFid e.dstFid x.tc x.ttl got)
  else s.out (.nullified p)

/-- BAD is set in the header of a record or copy (R334). -/
def setBad (ws : List Quad) : List Quad := ws.set 1 (ws.getD 1 0 ||| 0x100000)

/-- A packet is found bad while records or mirror copies of it still wait (R336, R339): they tell so, and bytes that never arrived are
zero in a copy. -/
def State.markSeen (s : State) (id got : Nat) (kind : LateKind) : State :=
  let cut := fun (d : List Byte) =>
    if kind = .length ∨ kind = .linkDown then d.take got ++ List.replicate (d.length - got) (0 : Byte) else d
  { s with obs := { s.obs with
    queue := s.obs.queue.map (fun r => if r.pkt = some id then { r with words := setBad r.words } else r),
    sessions := tmap session0 (fun _ (x : Session) => { x with
      queue := x.queue.map (fun c => if c.pkt = some id then { c with words := setBad c.words, payload := cut c.payload } else c) })
      s.obs.sessions } }

/-- A packet whose transmission is marked was observed as its first cell left (R336). -/
def State.noteLeaves (s : State) (p : Nat) (x : Packet) (e : QEntry) : State := if s.observing then s.push (.leaves p x e true) else s

/-- The bytes of a payload that a late fault makes bad: one cell, or all from the first that did not come good. -/
def badRange (len got : Nat) : LateKind → Nat × Nat
  | .cell => (got / 64 * 64, got / 64 * 64 + 64)
  | _ => (got, max len (got + 1))

/-- The sources of a late fault (R124, R317). -/
def State.lateRaise (s : State) (x : Packet) (kind : LateKind) : State :=
  let s := s.lateFault x
  match kind, x.ingress with
  | .ecrc, .port q => s.ecrcLog q x.tlp
  | _, _ => s

/-- A response that was found bad as it is sent again (R126): bytes that never arrived are zero, and what an uncorrectable cell held is
open. -/
def Tlp.resent (t : Tlp) (got : Nat) : LateKind → Tlp
  | .length | .linkDown => t.mended got
  | .ecrc => { t with ep := true }
  | .cell =>
    { t with ep := true, payload := t.payload.zipIdx.map (fun x => if x.2 / 64 = got / 64 then Config.poisonByte x.2 else x.1) }

/-- A late fault as the entry is sent (R124 to R126, R143). CXL.mem messages are sent only when complete (R122), and a line that the buffer
spoils goes with its poison bit; of other copies one already being sent is marked. What is not started is not sent, but a response goes
again with EP = 1. -/
def State.sendLate (s : State) (p : Nat) (x : Packet) (e : QEntry) (got : Nat) (kind : LateKind) (choice : Nat) : State :=
  let s := (s.lateRaise x kind).markSeen e.pkt got kind
  let started := !s.storeForward p x e && !e.underrun
  let y := { x with bad := some (badRange x.tlp.payload.length got kind) }
  let s := { s with path := { s.path with packets := tins s.path.packets e.pkt y } }
  if s.memEgress p x e && !x.tlp.payload.isEmpty && kind == .cell then
    (s.withhold e.pkt x (fun f => f.age != e.age)).sendWhole p y e choice
  else
    let s := if started then (s.nullify p x e got).noteLeaves p x e else s
    if x.tlp.op.response then
      { s with path := { s.path with packets := tins s.path.packets e.pkt { y with tlp := x.tlp.resent got kind } } }
    else s.withhold e.pkt x (fun _ => true)

/-- A double-bit error in the header cell (R111). -/
def State.sendHeaderBad (s : State) (e : QEntry) : State :=
  let s := match tfind s.path.packets e.pkt with
    | some x => s.each ((s.path.queues.flatMap (fun (q : Nat × List QEntry) => q.2)).filter (fun (f : QEntry) => f.pkt == e.pkt)) (fun s (f : QEntry) => s.dmvLost x f.typ)
    | none => s
  ((s.dropPacket e.pkt).countDev 6).raiseDev 1475

/-- An underrun (R123): the transmission is nullified, the packet stays at the head. -/
def State.sendUnderrun (s : State) (p : Nat) (x : Packet) (e : QEntry) : State :=
  if s.storeForward p x e ∨ e.underrun then s
  else
    let q := (s.queue p).map (fun f => if f.age = e.age then { f with underrun := true } else f)
    ((({ s with path := { s.path with queues := tput [] s.path.queues p q } }).countPort p 8).nullify p x e 0).noteLeaves p x e

/-- Brodoth links carry DATA flits in this mode (Across the modes of the Brodoth link): no new ones in TEST or QUIESCED. DESIGN CHOICE
(log 90): with cause 3 of QUIESCED the answers that R328 has the device make on fabric ports leave. -/
def State.dataOn (s : State) : Bool :=
  match s.glb.mode with
  | .quiesced => s.glb.quiesceCause == 3
  | .test => false
  | _ => true

/-- An egress link can accept a packet (R121). -/
def State.egress (s : State) (p : Nat) (cred : QEntry → Bool) (choice : Nat) (fate : SendFate) : State :=
  if !s.portActive p || (s.role p == .fabric && !s.dataOn) then s
  else
    let s := s.useWords [3, 4, 7] (some p) none
    match s.arbitrate p cred with
    | none => s
    | some (e, y) =>
      match tfind s.path.packets e.pkt with
      | none => s
      | some x =>
        match fate with
        | .whole => (s.modSwPort p (fun _ => y)).sendWhole p x e choice
        | .late got kind => (s.modSwPort p (fun _ => y)).sendLate p x e got kind choice
        | .header => s.sendHeaderBad e
        | .underrun => s.sendUnderrun p x e

end Sys2Proof.Machine
end

