-- ==== Sys2Proof/Machine/Complete.lean ====
section
/-!
DEFINITION. Responses: matching by egress tag (R424, R78), completions to the requester (R428, R312), merges (R147 to R150,
R154), failover (R152, R153), expiry and flush answers (R77, R131, R31).
-/
namespace Sys2Proof.Machine

/-! ### Matching (R424, R78) -/

/-- The bookmark and tag of a response that a test picks. -/
def State.findTag (s : State) (f : TagUse → Bool) : Option (Nat × Bookmark × TagUse) :=
  s.path.bookmarks.findSome? (fun x => (x.2.tags.find? (fun t => !t.done && f t)).map (fun t => (x.1, x.2, t)))

/-- The bookmark and tag of a response that came in on a port from fabric ID `src`. Every port has a tag space of its own (R424). A response
over the fabric may come back through another fabric port than its request left by: then the source of the response picks the request
among those with its tag (DEDUCED, log 23). -/
def State.matchTag (s : State) (p tag src : Nat) (mem : Bool) : Option (Nat × Bookmark × TagUse) :=
  if s.role p = .fabric then
    let fab := fun (t : TagUse) => t.tag == tag && s.role t.port == .fabric
    (s.findTag (fun t => fab t && t.port == p && t.dst == some src)).or
      ((s.findTag (fun t => fab t && t.dst == some src)).or
        ((s.findTag (fun t => fab t && t.port == p)).or (s.findTag fab)))
  else s.findTag (fun t => t.tag == tag && t.port == p && t.mem == mem)

/-- The response ends its part, line or copy (R424): a read's completion that leaves bytes to come does not. -/
def endsPart (y : Bookmark) (t : Tlp) : Bool :=
  !(t.op == .cpl && t.status == .ok && y.tlp.op == .memRead && !y.converted
    && decide (y.returned + t.payload.length < y.tlp.len))

/-- A tag is freed (R424). -/
def endTag (t : TagUse) (l : List TagUse) : List TagUse :=
  l.map (fun u => if u.port = t.port ∧ u.tag = t.tag ∧ u.mem = t.mem then { u with done := true } else u)

/-- A completion that was found bad goes on with EP = 1 (R124, R126). -/
def State.mendRx (s : State) (x : Rx) : Rx × State :=
  if !x.tlp.ecrc.isBad then (x, s)
  else ({ x with tlp := x.tlp.mended x.tlp.payload.length }, s.lateFault { packet0 with ingress := .port x.port, tlp := x.tlp })

/-- How a response came; whether it was found bad. -/
def State.viaOf (s : State) (x : Rx) (bad : Bool) : Via :=
  { port := x.port, tc := x.tc, ecrc := x.tlp.ecrc != .none, bad, born := x.first.getD s.cclkNow, arrival := x.arrival, took := x.took }

/-- A response whose bookmark is in this device (R78, R424): the tag of a quarantined one stays in use. DESIGN CHOICE (log 73): R87 has configuration completions of a device port go
as its UPk.MODE states, and answers go by bookmark; where both rows speak, the bookmark decides. -/
def State.takeResponse (s : State) (x : Rx) : State :=
  let bad := x.tlp.ecrc.isBad
  let (x, s) := s.mendRx x
  let t := x.tlp
  match s.matchTag x.port t.tag x.srcFid (t.op != .cpl) with
  | none => s.countPort x.port 12
  | some (b, y, u) =>
    if y.quarantined then s.countPort x.port 12
    else
      let s := if endsPart y t then s.bmSet b { y with tags := endTag u y.tags } else s
      s.push (.bmResult b u.member u.line (.answer t.status t.ep t.payload t.synth (s.viaOf x bad)))

/-- A response at stage 4 (R87, R106, R188, R424); what it enqueues is known once its bookmark has dealt with it (R336). -/
def State.doResponse (s : State) (x : Rx) : State := s.observedBy x (fun s =>
  if s.role x.port = .fabric then
    match s.fabricRoute x with
    | .hop q rel => s.forwardFabric x q rel (x.dstFid.getD 0)
    | .none => s.countDev 7
    | _ => s.takeResponse x
  else s.takeResponse x)

/-! ### To the requester -/

/-- A response to the requester of a bookmark, in the class its own ingress assigns (R116), which for one built from CXL.mem responses
is MEMTC, with the ECRC made anew where it came with one (R124); nothing where the completions are discarded (R73). -/
def State.respond (s : State) (y : Bookmark) (w : Via) (t : Tlp) : State :=
  if y.discard then s
  else match y.purpose with
  | .dmv f k n => s.push (.dmvCpl f k n t)
  | _ =>
    let cls := s.classOf (.port w.port) (if y.converted then { t with op := .drs } else t) w.tc
    s.sendToward
      { packet0 with tlp := { t with ecrc := if w.ecrc && !y.converted then .good else .none }, ingress := .port w.port, tc := cls.1,
                     group := cls.2, slot := s.path.slotAt, gen := s.path.gen, built := y.converted,
                     srcFid := (s.portFid w.port).getD ((s.internalFid).getD 0), born := w.born, arrival := w.arrival, took := w.took,
                     answers := some y.num, flow := y.flow, bad := if w.bad && !y.converted then some (0, t.payload.length + 1) else none }
      y.ingress y.srcFid

/-- The request of a bookmark from its first byte not yet returned. -/
def restOf (y : Bookmark) : Tlp :=
  { y.tlp with addr := y.tlp.addr + BitVec.ofNat 64 y.returned, len := y.tlp.len - y.returned }

/-- An answer the device makes for the requester of a bookmark (R116: in its own class). -/
def State.selfAnswer (s : State) (y : Bookmark) (r : CplStatus × Bool × List Byte) (cell : Option (Charge × Ingress) := none) : State :=
  if y.discard then s
  else match y.purpose with
  | .dmv f k n => s.push (.dmvCpl f k n (responseTo y.tlp r.1 r.2.1 r.2.2 (r.1 != .ok || r.2.1)))
  | .fetch _ | .cset => s
  | _ =>
    s.sendToward { s.devicePacket (responseTo (restOf y) r.1 r.2.1 r.2.2 true) with answers := some y.num, flow := y.flow } y.ingress y.srcFid
      cell

/-- A bookmark is freed by the arrival of a response, and its round trip measured (R352). -/
def State.bmDone (s : State) (b : Nat) (y : Bookmark) : State :=
  let s := if s.observing then
      s.push (.measured 2 (s.cclkNow - y.born) (y.charged.getD 64) (y.ports.head?.getD 64) y.tc 0) else s
  s.bmFree b

/-- A bookmark that a response frees, by its number. -/
def State.bmAnswered (s : State) (b : Nat) : State := match s.bm b with | some y => s.bmDone b y | none => s

/-- The end of a read that the guard cut (R312): one Unsupported Request completion for the rest, which the device makes itself. -/
def State.guardTail (s : State) (y : Bookmark) : State :=
  if y.guardEnd then s.selfAnswer y (.ur, false, []) else s

/-! ### Converted reads (R94, R428) -/

/-- Bytes of the request that a line holds: first byte within the line, and how many. -/
def lineSpan (y : Bookmark) (j : Nat) : Nat × Nat :=
  let lo := if j = 0 then y.tlp.addr.toNat % 64 else 0
  (lo, min 64 (y.tlp.addr.toNat % 64 + y.tlp.len - 64 * j) - lo)

/-- Send the lines that are in order (R428): each in a completion of its own, which is one of the divisions allowed. -/
def State.deliverLines (s : State) (b : Nat) : Nat → State
  | 0 => s
  | n + 1 =>
    match s.bm b with
    | none => s
    | some y =>
      let j := (y.tlp.addr.toNat % 64 + y.returned) / 64
      match (if y.returned < y.tlp.len then y.lines.find? (fun l => l.line == j) else none) with
      | none => s
      | some l =>
        let sp := lineSpan y j
        let d := (l.data.drop sp.1).take sp.2
        let s := s.bmSet b { y with returned := y.returned + sp.2, lines := y.lines.filter (fun k => k.line != j) }
        (s.respond y l.via ((responseTo y.tlp .ok l.poison d false).restFrom y.tlp y.returned)).deliverLines b n

/-- A line of a converted read came back. One that waits for an earlier line waits in its bookmark and holds no credits (R113). -/
def State.lineBack (s : State) (b : Nat) (y : Bookmark) (line : Nat) (poison : Bool) (data : List Byte) (w : Via) : State :=
  if y.tlp.len = 0 then (s.respond y w (responseTo y.tlp .ok false [] false)).bmDone b y
  else
    let y := { y with lines := y.lines ++ [⟨line, data, poison, w⟩] }
    let s := (s.bmSet b y).deliverLines b (y.lines.length + 1)
    match s.bm b with
    | some z =>
      if z.tlp.len ≤ z.returned then (s.guardTail z).bmDone b z
      else s.bmSet b { z with lines := z.lines.map (fun l => { l with via := { l.via with took := [] } }) }
    | none => s

/-- A line of a converted read is answered with an error: that answers the read as an expiry does (R94, R312). -/
def State.lineError (s : State) (b : Nat) (y : Bookmark) : State :=
  let s := s.selfAnswer y (.ca, false, [])
  if y.tags.all (·.done) then s.bmDone b y else s.bmQuarantine b

/-! ### Plain requests -/

/-- An answer came for a request of a port (R424, R428, R312). -/
def State.plainAnswer (s : State) (b : Nat) (y : Bookmark) (line : Nat) (st : CplStatus) (poison : Bool) (d : List Byte) (synth : Bool)
    (w : Via) : State :=
  if y.converted then
    if st = .ok then s.lineBack b y (line + y.lineBase) poison d w else s.lineError b y
  else
    let s := s.respond y w ((responseTo y.tlp st poison d synth).restFrom y.tlp y.returned)
    if y.tlp.op = .memRead ∧ st = .ok then
      let y := { y with returned := y.returned + d.length }
      if y.tlp.len ≤ y.returned then (s.guardTail y).bmDone b y else s.bmSet b y
    else s.bmDone b y

/-- The answer of R31 for a bookmark still in use 50 ms after entry. -/
def quiesceAnswer (t : Tlp) : Option (CplStatus × Bool × List Byte) := flushOf t

/-- Something came of a request of a port with a single target. -/
def State.plainResult (s : State) (b : Nat) (y : Bookmark) (line : Nat) : BmResult → State
  | .answer st po d sy w => s.plainAnswer b y line st po d sy w
  | .expired | .synthesised =>
    (match expiryOf y.tlp with | some r => s.selfAnswer y r | none => s).bmQuarantine b
  | .flushed cell =>
    match flushOf y.tlp with
    | some r => (s.selfAnswer y r cell).bmFree b
    | none => s.bmQuarantine b
  | .quiesced =>
    (match quiesceAnswer y.tlp with | some r => s.selfAnswer y r | none => s).bmFree b

/-! ### Merges (R147 to R150, R154) -/

/-- N of R149. -/
def mergeN (y : Bookmark) : Nat :=
  if y.minAck = 0 then (y.merge.filter (·.active)).length else y.minAck

/-- The decision of a merge (R149, R154), whose time is measured for a write (R352). `answered`: it comes of the arrival of a response. -/
def State.mergeDecide (s : State) (b : Nat) (y : Bookmark) (g : Nat) (answered : Bool) : State :=
  let s := if s.observing && y.tlp.op.isWrite then s.push (.measured 3 (s.cclkNow - y.born) 64 64 y.tc g) else s
  if mergeN y ≤ (y.merge.filter (fun m => m.active && m.success)).length then
    let s := s.selfAnswer y (.ok, false, [])
    if answered then s.bmDone b y else s.bmFree b
  else
    let s := if y.tlp.op = .memRead then s.selfAnswer y (.ca, false, []) else s
    (s.raiseDev 1481 g (y.tlp.info y.port y.hier)).bmQuarantine b

/-- The reason for which an outcome is a failure (R148, R151, R156, R31); none for a success. -/
def BmResult.failure : BmResult → Option MergeFail
  | .answer st _ _ synth _ => if synth then some .synth else if st = .ok then none else some .status
  | .synthesised => some .synth
  | .expired => some .timer
  | .flushed _ => some .flushed
  | .quiesced => some .quiesced

/-- The place of a reason among a gathering's counts. -/
def MergeFail.place : MergeFail → Nat
  | .status => 0
  | .synth => 1
  | .timer => 2
  | .flushed => 3
  | .quiesced => 4

/-- Something came from outside. -/
def BmResult.isAnswer : BmResult → Bool
  | .answer _ _ _ _ _ => true
  | _ => false

/-- A member's outcome (R147, R148): a failure is counted by reason (R149), and the member moves to LOST (R155). With no member, every
pending one fails. -/
def State.mergeResult (s : State) (b : Nat) (y : Bookmark) (g : Nat) (m : Option Nat) (r : BmResult) : State :=
  let hit := fun (p : MergePart) => p.pending && (m == none || m == some p.member)
  let s := match r.failure with
    | some w => s.each (y.merge.filter hit) (fun s p =>
        (s.modGCounts g (fun c => { c with failures := bump c.failures w.place })).loseCopy g p.member p.word y.gen)
    | none => s
  let y := { y with merge := y.merge.map (fun p =>
    if hit p then { p with pending := false, success := r.failure.isNone && m.isSome } else p) }
  let s := s.bmSet b y
  if y.merge.any (·.pending) then s else s.mergeDecide b y g r.isAnswer

/-! ### Mirrored reads (R152, R153) -/

/-- The device's Req of a bookmark, for a reissue with the class, group and source of the original (R153). -/
def reqOf (y : Bookmark) (t : Tlp) : Req :=
  { ing := y.ingress, fid := y.srcFid, tlp := t, tc := y.tc, group := y.group, hier := y.hier, fn := none }

/-- A mirrored read ends with a poisoned answer (R152, R138). -/
def State.readPoisoned (s : State) (b : Nat) (y : Bookmark) (answered : Bool) : State :=
  let s := s.selfAnswer y (.ok, true, poisonData (y.tlp.len - y.returned))
  if y.tags.all (·.done) then (if answered then s.bmDone b y else s.bmFree b) else s.bmQuarantine b

/-- The poisoned answer when no member is left (R152). -/
def State.readExhausted (s : State) (b : Nat) (y : Bookmark) (g : Nat) (answered : Bool) : State :=
  (s.readPoisoned b y answered).raiseDev 1482 g (y.tlp.info y.port y.hier)

/-- A mirrored read still in use 50 ms after QUIESCED began: answered as with no member left, and freed (R31). -/
def State.readDrained (s : State) (b : Nat) (y : Bookmark) (g : Nat) : State :=
  ((s.selfAnswer y (.ok, true, poisonData (y.tlp.len - y.returned))).raiseDev 1482 g (y.tlp.info y.port y.hier)).bmFree b

/-- Send the rest of a read to a member (R152). -/
def State.reissueTo (s : State) (b : Nat) (y : Bookmark) (g m : Nat) : State :=
  let e := s.gEntry g
  let aim := (e.aim m y.folio (y.target.toNat % 2 ^ 28)).move y.returned
  let t := restOf y
  let r := { reqOf y t with born := s.cclkNow }
  let s := s.checkTgts [aim.tgt]
  let c := s.aimCopy (s.edgeFid r.ing) r.tc t true r.under.isSome aim
  let cs := match c with | .ok c => [c] | .error _ => []
  let s := (s.noteDeads r [c]).modGCounts g (fun c => { c with failover := wrapInc 8 c.failover })
  let s := s.bmSet b
    { y with tried := y.tried ++ [m], ports := cs.map (·.port), converted := cs.any (·.convert), lines := [], timed := true,
             lineBase := (y.tlp.addr.toNat % 64 + y.returned) / 64,
             merge := [⟨m, true, false, true, e.memberWord m⟩] }
  let s := s.launch { s.packetOf r t (some b) none with bookmark := some b } cs
  if cs.isEmpty then s.push (.bmResult b (some m) 0 .synthesised) else s

/-- A member failed a read: lost, unless it only returned poison, which is counted for it (R152, R155). -/
def State.readBad (s : State) (y : Bookmark) (g m : Nat) (poisonOnly : Bool) : State :=
  if poisonOnly then (s.modGCounts g (fun c => { c with poison := bump c.poison m })).raiseDev 1483 g (y.tlp.info y.port y.hier)
  else match y.merge.find? (fun p => p.member == m) with
    | some p => s.loseCopy g m p.word y.gen
    | none => s

/-- A member failed a read: the rest goes to the next member (R152). A gathering whose entry the check finds bad has no members to try,
and poisons the read (R138). -/
def State.readFail (s : State) (b : Nat) (y : Bookmark) (g m : Nat) (poisonOnly answered : Bool) : State :=
  let s := (s.readBad y g m poisonOnly).checkGather g
  if s.gBad g then s.readPoisoned b y answered
  else match (s.gEntry g).nextMember m y.tried with
    | some k => s.reissueTo b y g k
    | none => s.readExhausted b y g answered

/-- The member a mirrored read is with now. -/
def Bookmark.member (y : Bookmark) : Option Nat := y.merge.head?.map (·.member)

/-- Something came of a mirrored read (R152, R153); with no member, its bookmark expired or was quiesced. -/
def State.mirrorResult (s : State) (b : Nat) (y : Bookmark) (g : Nat) (m : Option Nat) (line : Nat) (r : BmResult) : State :=
  match m with
  | none => (match r with | .quiesced => s.readDrained b y g | _ => s.plainResult b y line r)
  | some k =>
    if y.member ≠ some k then (if r.isAnswer then s.countDev 9 else s)
    else match r with
      | .answer st po d sy w =>
        if st ≠ .ok ∨ sy then s.readFail b y g k false true
        else if po then s.readFail b y g k true true
        else s.plainAnswer b y line st po d sy w
      | _ => s.readFail b y g k false false

/-! ### Converted posted writes (R150) -/

/-- The data mover learns of its converted write (R297): with LEN 0 of a failure, with LEN 1 of the end. -/
def State.noteDmv (s : State) (y : Bookmark) (bad : Bool) : State :=
  match y.purpose with
  | .dmv f k n =>
    if y.discard then s
    else s.push (.dmvCpl f k n { tlp0 with op := .ndr, len := b2n (!bad), status := if bad then .ca else .ok })
  | _ => s

/-- Something came of a converted posted write: a failure loses its member; the last Cmp frees the bookmark. -/
def State.absorbResult (s : State) (b : Nat) (y : Bookmark) (r : BmResult) : State :=
  let bad : Bool := match r with | .answer st _ _ sy _ => st != .ok || sy | _ => true
  let s := if bad then s.noteDmv y true else s
  let ends := !r.isAnswer || y.tags.all (·.done)
  let s := if ends then s.noteDmv y false else s
  let s := match y.gather, y.merge, bad with
    | some g, m :: _, true => s.loseCopy g m.member m.word y.gen
    | _, _, _ => s
  match r with
  | .answer _ _ _ _ _ => if y.tags.all (·.done) then s.bmDone b y else s
  | .quiesced => s.bmFree b
  | _ => s.bmQuarantine b

/-! ### Prefetch reads (R81, R82) -/

/-- A prefetch read to a gathering failed at its member (R152, R155). -/
def State.prefetchBad (s : State) (y : Bookmark) (poisonOnly : Bool) : State :=
  match y.gather, y.member with
  | some g, some m => s.readBad y g m poisonOnly
  | _, _ => s

/-- Something came of a prefetch read: kept, or dropped and never reissued (R82, R153). -/
def State.prefetchResult (s : State) (b : Nat) (y : Bookmark) (line : Nat) (r : BmResult) : State :=
  let forget := fun (s : State) => { s with path := { s.path with prefetch := s.path.prefetch.filter (fun x => x.bookmark != b) } }
  match r with
  | .answer st po d sy w =>
    if st ≠ .ok ∨ po ∨ sy then
      let s := (forget s).prefetchBad y (st == .ok && !sy)
      if y.tags.all (·.done) then s.bmDone b y else s.bmQuarantine b
    else
      let y := { y with lines := y.lines ++ [⟨(if y.converted then line else y.lines.length), d, false, w⟩],
                        returned := y.returned + (if y.converted then (lineSpan y line).2 else d.length) }
      if y.returned < y.tlp.len then s.bmSet b y
      else
        let data := (List.range y.lines.length).flatMap (fun j =>
          match y.lines.find? (fun l => l.line == j) with
          | some l => if y.converted then (l.data.drop (lineSpan y j).1).take (lineSpan y j).2 else l.data
          | none => [])
        let s := { s with path := { s.path with prefetch := s.path.prefetch.map (fun (x : Prefetch) =>
          if x.bookmark = b ∧ x.data.isNone then { x with data := some (data.take x.len), bookmark := 65536 } else x) } }
        s.bmDone b y
  | .expired | .synthesised => ((forget s).prefetchBad y false).bmQuarantine b
  | .flushed _ => ((forget s).prefetchBad y false).bmFree b
  | .quiesced => (forget s).bmFree b

/-- Something came of a forwarded snoop: the host's response goes back to the expander; nothing on expiry (R84, R31). -/
def State.snoopResult (s : State) (b : Nat) (y : Bookmark) : BmResult → State
  | .answer st po d sy w => (s.respond y w (responseTo y.tlp st po d sy)).bmDone b y
  | .quiesced => s.bmFree b
  | _ => s.bmQuarantine b

/-- Something came of a request that entered through a port, or of one of its parts. -/
def State.requestResult (s : State) (b : Nat) (y : Bookmark) (m : Option Nat) (line : Nat) (r : BmResult) : State :=
  match y.gather with
  | none => s.plainResult b y line r
  | some g =>
    if y.tlp.merged then s.mergeResult b y g m r
    else s.mirrorResult b y g m line r

/-! ### Timers (R77, R78, R151) -/

/-- The completion-timeout source of a bookmark (R77), and the hierarchy's count (R343). -/
def State.timeoutSource (s : State) (y : Bookmark) : State :=
  let s := match y.ingress with
    | .port p => s.raisePort p 11 (y.tlp.info none y.hier)
    | .device => s.raiseDev 1494 0 (y.tlp.info none y.hier)
  match y.hier with | some h => s.countHier h 12 | none => s

/-- A bookmark's timer expires (R77). -/
def State.bmTimeout (s : State) (b : Nat) : State :=
  match s.bm b with
  | some y => if y.quarantined then s else (s.timeoutSource y).push (.bmResult b none 0 .expired)
  | none => s

/-- The quarantine of a bookmark ends (R78). -/
def State.quarantineEnd (s : State) (b : Nat) : State :=
  match s.bm b with
  | some y => if y.quarantined then s.bmFree b else s
  | none => s

/-- The merge timer of a bookmark expires (R151). -/
def State.mergeTimeout (s : State) (b : Nat) : State :=
  match s.bm b with
  | some y => if y.merge.any (·.pending) ∧ !y.quarantined ∧ (y.tlp.op.isWrite ∨ y.tlp.len = 0) then s.push (.bmResult b none 0 .expired) else s
  | none => s

/-- The failover timer of a mirrored read expires (R151, R152). -/
def State.failoverTimeout (s : State) (b : Nat) : State :=
  match s.bm b with
  | some y =>
    if y.quarantined ∨ !y.timed ∨ y.tlp.len = 0 ∨ y.tlp.op.isWrite then s
    else match y.member with | some m => s.push (.bmResult b (some m) 0 .expired) | none => s
  | none => s

/-- What of a bookmark's request left through a port and has not ended: every such part of a merge, one tag of anything else. -/
def portTags (p : Nat) (y : Bookmark) : List TagUse :=
  let l := y.tags.filter (fun t => t.port == p && !t.done)
  if y.gather.isSome && y.tlp.op != .memWrite then (l.filterMap (·.member)).eraseDups.filterMap (fun m => l.find? (fun t => t.member == some m))
  else l.take 1

/-- Every bookmark whose request left through a flushed port is answered as on expiry (R131 step 6); a part of a merge, or a read, with a
member there fails (R156). -/
def State.answerPort (s : State) (p : Nat) : State :=
  s.each s.path.bookmarks (fun s x =>
    if x.2.quarantined then s
    else s.each (portTags p x.2) (fun s t => s.push (.bmResult x.1 (if x.2.gather.isSome then t.member else none) t.line .synthesised)))

end Sys2Proof.Machine
end

