-- ==== Sys2Proof/Machine/Fence.lean ====
section
/-!
DEFINITION. Fences of table writes (R99 to R102, R162) and table entries as the device writes them.
-/
namespace Sys2Proof.Machine

/-- No packet older than generation g is in the device (R97 to R99). -/
def State.drainClear (s : State) (g : Nat) : Bool :=
  s.path.packets.all (fun x => decide (g ≤ x.2.gen)) && s.path.heldOut.all (fun x => decide (g ≤ x.pkt.gen))

/-- No packet and no bookmark older than generation g is left (R100). DESIGN CHOICE (log 70): a quarantined bookmark is still in use, and
counts as not freed until its quarantine ends. -/
def State.completionClear (s : State) (g : Nat) : Bool :=
  s.drainClear g && s.path.bookmarks.all (fun x => decide (g ≤ x.2.gen))

/-- No packet older than g, and no older bookmark that merges or reads through a gathering (R162); one that only absorbs the Cmps of a
converted posted write (R150) does neither. -/
def State.gatherClear (s : State) (n g : Nat) : Bool :=
  s.drainClear g && s.path.bookmarks.all (fun x => decide (g ≤ x.2.gen) || x.2.gather != some n || x.2.tlp.op == .memWrite)

/-- A fence of a command is clear. -/
def State.fenceKindClear (s : State) (g : Nat) : FenceKind → Bool
  | .slot => decide (s.liveSlots < 14)
  | .drain => s.drainClear g
  | .completion => s.completionClear g
  | .gather n => s.gatherClear n g

/-- Every fence of a waiting command is clear. -/
def State.fenceClear (s : State) (f : FenceWait) : Bool := f.kinds.all (s.fenceKindClear f.gen)

/-- End a command (R266). -/
def State.done (s : State) (o : Origin) (status : Nat) (result : Nat := 0) : State := s.push (.cmdDone o status result)

/-- A table write has advanced the generation: its command completes when its fences clear (R99, R100, R162). -/
def State.waitFence (s : State) (o : Origin) (kinds : List FenceKind) : State :=
  let f : FenceWait := ⟨o, s.path.gen, kinds, 0, s.spine.ticks⟩
  if s.fenceClear f then s.done o 0
  else { s with path := { s.path with fences := s.path.fences ++ [f] } }

/-- The waiting commands of one kind whose fences are clear complete. -/
def State.fencesClear (s : State) (pick : FenceWait → Bool) : State :=
  let go := s.path.fences.filter (fun f => pick f && s.fenceClear f)
  let s := { s with path := { s.path with fences := s.path.fences.filter (fun f => !(pick f && s.fenceClear f)) } }
  s.each go (fun s f => s.done f.origin 0 f.result)

/-- The fence limit passes for the waiting command number k (R101), which has waited DEC_FENCE_CTL.LIMIT MTICK. -/
def State.fenceExpire (s : State) (k : Nat) : State :=
  match s.path.fences[k]? with
  | some f =>
    if s.spine.ticks < f.since + s.dirF 0x631004 7 0 then s
    else if s.fenceClear f then s.push .fenceCheck
    else ((({ s with path := { s.path with fences := s.path.fences.eraseIdx k } }).done f.origin 4 f.result)).raiseDev 1478
  | none => s

/-! ### Table entries -/

/-- MIGRATING of a folio entry (R92). -/
def folioMigrating (e : BitVec 128) : Bool := bitOf e.toNat 28

/-- A folio entry with MIGRATING set or cleared. -/
def setMigrating (e : BitVec 128) (b : Bool) : BitVec 128 := BitVec.ofNat 128 (setBits e.toNat 28 28 (b2n b))

/-- A migration holds index i (R96, R165, R177): its entry, if it can be read, shows MIGRATING, or a context holds the index. -/
def State.folioHeld (s : State) (i : Nat) : Bool :=
  (folioMigrating (s.folio i) && !s.path.failFolio.contains i)
    || s.mig.ctxs.any (fun x => x.2.phase != .idle && x.2.marked && x.2.folio == i)

/-- Reserved fields and KIND of a folio entry (R92, R96). -/
def folioOk (e : BitVec 128) : Bool :=
  efld e 119 112 == 0 && efld e 77 76 == 0 && efld e 39 30 == 0 && efld e 24 24 == 0 && efld e 19 16 == 0
    && decide (efld e 23 20 ≤ 5)

/-- A routing entry that ROUTE_WRITE accepts (R108): the next hops within NH_COUNT are fabric ports, whatever KIND. -/
def State.routeOk (s : State) (e : Quad) : Bool :=
  qfld e 55 48 == 0 && qfld e 11 10 == 0 && qfld e 9 8 != 3 &&
    (List.range (qfld e 23 22 + 1)).all (fun j => s.role (nextHop e j) == .fabric)

/-- Write a routing entry (R105, R208). -/
def State.setRoute (s : State) (f : Nat) (e : Quad) : State :=
  (s.modPath (fun x => { x with
    route := tput 0 x.route f (BitVec.ofNat 64 (withCheck 56 e.toNat)),
    failRoute := sdel x.failRoute f, routeChanged := tins x.routeChanged f s.cclkNow })).push .recheck

end Sys2Proof.Machine
end

