-- ==== Sys2Proof/Machine/Migration.lean ====
section
/-!
DEFINITION. The migration engine (R164 to R179): acceptance, passes, settles, copying, the hold and the flip, ends,
resynchronisation.
-/
namespace Sys2Proof.Machine

/-- The target fields of a folio entry (R92). -/
def targetOf (e : BitVec 128) : MigTarget :=
  { kind := efld e 23 20, port := efld e 83 78, ld := efld e 87 84, fid := efld e 99 88, remoteLd := bitOf e.toNat 29,
    dpa := efld e 75 40 }

/-- Where a migration target lies (R92). -/
def MigTarget.tgt (t : MigTarget) : Tgt :=
  match t.kind with
  | 1 => .port t.port none
  | 2 => .port t.port (some t.ld)
  | _ => .fid t.fid (if t.remoteLd then some t.ld else none)

/-- The same port, logical device or edge (R165). -/
def MigTarget.same (a b : MigTarget) : Bool := a.tgt == b.tgt && a.dpa == b.dpa

/-- A member as a migration target (R179). -/
def GEntry.migTarget (e : GEntry) (m i : Nat) : MigTarget :=
  let dpa := e.mDpa m + (i - e.first)
  match e.mKind m with
  | 0 => ⟨1, e.mTarget m, 0, 0, false, dpa⟩
  | 1 => ⟨2, e.mTarget m, e.mLd m, 0, false, dpa⟩
  | 2 => ⟨3, 0, 0, e.mTarget m, false, dpa⟩
  | _ => ⟨3, 0, e.mLd m, e.mTarget m, true, dpa⟩

/-- A mode in which migrations run (R165). -/
def State.migMode (s : State) : Bool := s.glb.mode == .standalone || s.glb.mode == .member || s.glb.mode == .anchor

/-! ### Unsettled writes (R169) -/

/-- Writes of a pass parity that have not settled: packets in the device, and bookmarks not freed or expired. DESIGN CHOICE (log 70): R169
does not say whether a bookmark that expired, and is in quarantine (R78), is freed under R77 for a settle; here its write has settled. -/
def State.unsettled (s : State) (c : Nat) (par : Bool) : Bool :=
  s.path.packets.any (fun x => x.2.mig == some (c, par)) || s.path.heldOut.any (fun x => x.pkt.mig == some (c, par))
    || s.path.bookmarks.any (fun x => x.2.mig == some (c, par) && !x.2.quarantined)

/-- Bookmarks of a purpose, of a migration that still waits for them. -/
def State.anyPurpose (s : State) (f : Purpose → Bool) : Bool :=
  s.path.bookmarks.any (fun x => f x.2.purpose && !x.2.quarantined && !x.2.discard)

/-! ### Requests of the engine (R172) -/

/-- A request of the engine: class and group of the device's own packets (R172). -/
def State.engineReq (s : State) (t : Tlp) : Req :=
  { ing := .device, fid := 0, tlp := t, tc := (s.classOf .device t 0).1, group := (s.classOf .device t 0).2, hier := none, fn := none }

/-- The shared pool has n bookmarks for the engine (R172). -/
def State.enginePool (s : State) (n : Nat) : Bool := decide (s.bmShared + n ≤ 47104)

/-- Send a request of the engine, which takes a bookmark of the shared pool; one that cannot be sent fails at once (R177, R187). -/
def State.engineSend (s : State) (r : Req) (edge : Option Nat) (tgt : Tgt) (addr : Nat) (p : Purpose) : State :=
  let s := s.checkTgts [tgt]
  let c := s.aimCopy edge r.tc r.tlp true false ⟨none, 0, tgt, addr⟩
  let cs := match c with | .ok x => [x] | .error _ => []
  let s := s.noteDeads r [c]
  let (b, s) := s.takeBookmark { s.bookmarkOf r r.tlp p (cs.map (·.port)) (cs.any (·.convert)) addr none false 0 with port := none }
  let s := s.launch { s.packetOf r r.tlp (some b) none with srcFid := edge.getD 0 } cs
  if cs.isEmpty then s.push (.bmResult b none 0 (.flushed none)) else s

/-- A posted write of the engine, with no bookmark until it is converted. The answer tells whether it could be sent (R187). -/
def State.enginePost (s : State) (r : Req) (tgt : Tgt) (addr : Nat) : Bool × State :=
  let s := s.checkTgts [tgt]
  match s.aimCopy s.internalFid r.tc r.tlp true false ⟨none, 0, tgt, addr⟩ with
  | .ok x => (true, s.launch (s.packetOf r r.tlp none none) [x])
  | .error w => (false, s.noteDead r w)

/-- The link of a target carries CXL.mem (R172). -/
def State.tgtMem (s : State) (t : MigTarget) : Bool :=
  match t.tgt with | .port p _ => s.carriesMem p | .fid _ _ => false

/-! ### Ends (R176, R177) -/

/-- The completion STATUS of an end (R177, R270), and LAST of MIG_Ccc_RESULT (R185). -/
def migEndCode : MigEnd → Nat × Nat
  | .none => (0, 0)
  | .done => (0x02, 1)
  | .fenceExpired => (0x04, 2)
  | .aborted => (0x05, 3)
  | .noConverge => (0x06, 4)
  | .holdExpired => (0x07, 5)
  | .sourceError => (0x08, 6)
  | .destError => (0x09, 7)
  | .entryError => (0x0A, 8)
  | .quiesced => (0x0B, 9)
  | .memberLost => (0x0C, 10)

/-- The context that a bookmark of the engine belongs to. -/
def Purpose.context : Purpose → Option Nat
  | .migRead c _ | .migWrite c _ | .migSettle c | .migConfirm c => some c
  | _ => none

/-- What remains of a context's requests is absorbed and discarded (R176); its copy reads still count as outstanding (R172). DESIGN
CHOICE (log 76): so are those of an abandoned final step (R174) and of a folio begun again (R179). -/
def State.migRelease (s : State) (c : Nat) : State :=
  { s with
    mig := { s.mig with
      copyBuf := s.mig.copyBuf.filter (fun x => x.ctx != c), writes := s.mig.writes.filter (fun x => x.ctx != c) },
    path := { s.path with
      bookmarks := s.path.bookmarks.map (fun b => if b.2.purpose.context = some c then (b.1, { b.2 with discard := true }) else b) } }

/-- The HOLD histogram takes the time since entry into FINAL (R352). -/
def State.holdMeasure (s : State) (c : Nat) : State :=
  if s.observing ∧ (s.ctx c).phase = .final then s.push (.measured 4 (s.cclkNow - (s.ctx c).finalAt) 64 64 0 0) else s

/-- A migration ends with a status (R177): the source named, the command completed. -/
def State.migFinish (s : State) (c : Nat) (e : MigEnd) : State :=
  let x := s.ctx c
  let s := (s.migRelease c).modCtx c (fun y => { y with phase := .idle, marked := false, resync := false, last := e, origin := .none, settleTodo := [] })
  let s := if e = .done ∨ e = .aborted then s else s.raiseDev 1485 c
  (s.done x.origin (migEndCode e).1 (x.granules % 2 ^ 32 + 2 ^ 32 * min x.pass 255)).retryHeld

/-- A context leaves COPY or FINAL without a flip (R176): the hold ends, entry i is restored. -/
def State.migStop (s : State) (c : Nat) (e : MigEnd) : State :=
  let x := s.ctx c
  if x.phase = .copy ∨ x.phase = .final then
    let s := s.holdMeasure c
    let s := if x.marked ∧ e ≠ .entryError then (s.setFolio x.folio (setMigrating x.entry false)).advanceGen else s
    s.migFinish c e
  else s

/-! ### Passes (R171, R173) -/

/-- Every granule of a folio. -/
def allGranules : Nat := 2 ^ 65536 - 1

/-- RESYNC: the source is the acting primary, chosen again at the start of each pass (R179), from the entry as it is looked up (R138). The
answer is false when no member is ACTIVE, or the entry cannot be read (DESIGN CHOICE, log 92). -/
def State.passSource (s : State) (c : Nat) : Bool × State :=
  let x := s.ctx c
  if x.resync then
    let s := s.checkGather x.gather
    let e := s.gEntry x.gather
    match (if s.gBad x.gather then none else e.acting) with
    | some m => (true, s.modCtx c (fun y => { y with srcMember := m, src := e.migTarget m x.folio, dst := e.migTarget x.member x.folio }))
    | none => (false, s)
  else (true, s)

/-- Pass 1 begins, when the completion fence of R166 clears or a folio is begun again (R179). -/
def State.firstPass (s : State) (c : Nat) : State :=
  match s.passSource c with
  | (false, s) => s.migStop c .sourceError
  | (true, s) => s.modCtx c (fun y =>
      { y with phase := .copy, pass := 1, step := .copying, todo := allGranules, todoCount := 65536, unconfirmed := 0, unconfirmedCount := 0,
               confirmIssued := false, settleTodo := [] })

/-- The bitmap swap of R171 step 1, with the granules of an abandoned set added (R174); then the settle. -/
def State.nextPass (s : State) (c : Nat) (phase : MigPhase) (extra : Nat) : State :=
  match s.passSource c with
  | (false, s) => s.migStop c .sourceError
  | (true, s) =>
    let n := if extra = 0 then (s.ctx c).dirtyCount else popCount 65536 ((s.ctx c).dirty ||| extra)
    (s.modCtx c (fun y =>
      { y with phase := phase, step := .settle, todo := y.dirty ||| extra, todoCount := n, dirty := 0, dirtyCount := 0,
               unconfirmed := 0, unconfirmedCount := 0, parity := !y.parity, pass := y.pass + 1, settleIssued := false,
               confirmIssued := false, settleTodo := [] })).push (.migCheck c)

/-- The source IDs, classes and groups of the settle reads of a FABRIC source (R169): every enabled hierarchy's host edge in each class,
and the device's own. -/
def State.settleFlows (s : State) : List (Nat × Nat × Nat) :=
  let hosts := s.enabledHiers.flatMap (fun x =>
    let p := x.2
    match s.portFid p with
    | some f => (List.range 8).map (fun t => (f, t, s.actF (offSwc p + 0x18) 5 0))
    | none => [])
  let own := (s.internalFid.map (fun f => (f, s.actF 0x710100 8 6, s.actF 0x710100 5 0))).toList
  hosts ++ own

/-- One settle read of a context (R169). -/
def State.settleRead (s : State) (c : Nat) (f : Nat × Nat × Nat) : State :=
  let x := s.ctx c
  let r : Req := { ing := .device, fid := f.1, tlp := { tlp0 with op := .memRead, addr := BitVec.ofNat 64 (x.src.dpa * 2 ^ 28), len := 0 },
                   tc := f.2.1, group := f.2.2, hier := none, fn := none }
  s.engineSend r (some f.1) x.src.tgt (x.src.dpa * 2 ^ 28) (.migSettle c)

/-- Issue what the shared pool has bookmarks for of a context's settle reads (R169, R172). -/
def State.settleIssue (s : State) (c : Nat) : State :=
  let fs := (s.ctx c).settleTodo.take (47104 - s.bmShared)
  (s.modCtx c (fun y => { y with settleTodo := y.settleTodo.drop fs.length })).each fs (fun s f => s.settleRead c f)

/-- A context stands at its settle (R169, R173 step 2). -/
def State.settling (s : State) (c : Nat) : Bool :=
  ((s.ctx c).phase == .copy || (s.ctx c).phase == .final) && (s.ctx c).step == .settle

/-- Look at a context's settle (R169): with every write of the previous parity settled, the settle reads of a FABRIC source
are issued. -/
def State.migCheckSettle (s : State) (c : Nat) : State :=
  if !s.settling c || s.unsettled c (!(s.ctx c).parity) then s
  else
    let s := if (s.ctx c).settleIssued then s
      else s.modCtx c (fun y => { y with settleIssued := true, settleTodo := if y.src.kind = 3 then s.settleFlows else [] })
    s.settleIssue c

/-- SETTLE_COMPLETE (R169): once every write of the previous parity has settled and every settle read has completed, copying begins. -/
def State.settleDone (s : State) (c : Nat) : State :=
  let s := s.migCheckSettle c
  if s.settling c && (s.ctx c).settleIssued && !s.unsettled c (!(s.ctx c).parity) && (s.ctx c).settleTodo.isEmpty
      && !s.anyPurpose (fun p => p == .migSettle c) then
    s.modCtx c (fun y => { y with step := .copying })
  else s

/-! ### Copying (R172) -/

/-- Copy reads outstanding across all contexts (R172). -/
def State.copyReads (s : State) : Nat :=
  (s.path.bookmarks.filter (fun x => match x.2.purpose with | .migRead _ _ => true | _ => false)).length

/-- The lowest bit set of a bitmap. -/
def lowestBit (n : Nat) : Nat := Nat.log2 (n ^^^ (n &&& (n - 1)))

/-- Reads that a granule takes: one for each line of a CXL.mem source, else one (R172). -/
def State.granuleReads (s : State) (t : MigTarget) : Nat := if s.tgtMem t then 64 else 1

/-- Issue the source reads of the next granule, in ascending order, within the limits of R172. DESIGN CHOICE (log 93): the granule counts
in MIG_Ccc_COPIED (R185) as its reads are issued. -/
def State.copyGranule (s : State) (c : Nat) : State :=
  let s := s.useWords [9] none none
  let x := s.ctx c
  if (x.phase = .copy ∨ x.phase = .final) ∧ x.step = .copying ∧ x.todo ≠ 0
      ∧ s.copyReads + s.granuleReads x.src ≤ s.actF 0x901004 27 16 ∧ s.enginePool (s.granuleReads x.src) then
    let g := lowestBit x.todo
    let a := x.src.dpa * 2 ^ 28 + 4096 * g
    let s := s.modCtx c (fun y =>
      { y with todo := y.todo - 2 ^ g, todoCount := y.todoCount - 1, unconfirmed := y.unconfirmed ||| 2 ^ g,
               unconfirmedCount := y.unconfirmedCount + 1, granules := wrapInc 32 y.granules })
    if s.tgtMem x.src then
      s.each (List.range 64) (fun s j =>
        s.engineSend (s.engineReq { tlp0 with op := .cMemRd, addr := BitVec.ofNat 64 (a + 64 * j), len := 64 }) s.internalFid x.src.tgt
          (a + 64 * j) (.migRead c g))
    else
      s.engineSend (s.engineReq { tlp0 with op := .memRead, addr := BitVec.ofNat 64 a, len := 4096 }) s.internalFid x.src.tgt a (.migRead c g)
  else s

/-- The source failed (R177); in RESYNC mode the member that failed is lost, and the folio restarts at pass 1 from the new acting primary,
its hold over (R179): from FINAL it enters COPY, and takes MIG_CTL (R170). DESIGN CHOICE (log 76): a copy set whose writes had not settled goes back to the current bitmap, since pass 1 has
no settle. -/
def State.migSourceFail (s : State) (c : Nat) : State :=
  let x := s.ctx c
  if !x.resync then s.migStop c .sourceError
  else
    let s := (((s.holdMeasure c).loseMember x.gather x.srcMember).migRelease c).modCtx c (fun y =>
      let y := if y.phase = .final then { y with ctl := s.act 0x901000 } else y
      if y.step = .settle then
        { y with dirty := y.dirty ||| y.todo, dirtyCount := popCount 65536 (y.dirty ||| y.todo) }
      else y)
    (s.firstPass c).retryHeld

/-- The destination failed (R177); in RESYNC mode that is the failure of member m (R159). -/
def State.migDestFail (s : State) (c : Nat) : State :=
  let x := s.ctx c
  if x.resync then s.loseMember x.gather x.member else s.migStop c .destError

/-- Issue one write of a copy to the destination (R172): a 64-byte line by CXL.mem, with a bookmark of the shared pool, or a longer
stretch. -/
def State.copyIssue (s : State) (w : CopyWrite) : State :=
  let x := s.ctx w.ctx
  let a := x.dst.dpa * 2 ^ 28 + 4096 * w.granule + w.off
  if s.tgtMem x.dst then
    s.engineSend (s.engineReq { tlp0 with op := .cMemWr, addr := BitVec.ofNat 64 a, len := 64, payload := w.data, ep := w.poison })
      s.internalFid x.dst.tgt a (.migWrite w.ctx w.granule)
  else
    match s.enginePost (s.engineReq { tlp0 with op := .memWrite, addr := BitVec.ofNat 64 a, len := w.data.length, payload := w.data, ep := w.poison })
      x.dst.tgt a with
    | (true, s) => s
    | (false, s) => s.migDestFail w.ctx

/-- Write a part of a copy to the destination; with the shared pool empty, a write that takes a bookmark waits (R172, R178). -/
def State.copyWrite (s : State) (c g off : Nat) (data : List Byte) (poison : Bool) : State :=
  let w : CopyWrite := ⟨c, g, off, data, poison⟩
  if !s.tgtMem (s.ctx c).dst || (s.mig.writes.isEmpty && s.enginePool 1) then s.copyIssue w
  else { s with mig := { s.mig with writes := s.mig.writes ++ [w] } }

/-- Copy writes, settle reads that waited for the shared pool go on (R172, R178). -/
def State.migPump (s : State) : State :=
  let ws := s.mig.writes.take (47104 - s.bmShared)
  let s := ({ s with mig := { s.mig with writes := s.mig.writes.drop ws.length } }).each ws State.copyIssue
  s.each (s.mig.ctxs.map (·.1)) (fun s c => if s.settling c && !(s.ctx c).settleTodo.isEmpty then s.settleIssue c else s)

/-- A granule whose reads and writes have all come back is confirmed where the destination answers each write. -/
def State.granuleConfirm (s : State) (c g : Nat) : State :=
  let busy := s.anyPurpose (fun p => p == .migRead c g || p == .migWrite c g) || s.mig.writes.any (fun w => w.ctx == c && w.granule == g)
  if s.tgtMem (s.ctx c).dst ∧ !busy ∧ bitOf (s.ctx c).unconfirmed g then
    s.modCtx c (fun y => { y with unconfirmed := y.unconfirmed - 2 ^ g, unconfirmedCount := y.unconfirmedCount - 1 })
  else s

/-- A poisoned line is counted (R172, R185). -/
def State.copyPoison (s : State) (c : Nat) : State := s.modCtx c (fun y => { y with poisons := min 255 (y.poisons + 1) })

/-- The 512-byte stretches of a granule whose lines are all there, for a destination without CXL.mem (R172). -/
def fullChunks (l : List LineData) : List Nat :=
  (List.range 8).filter (fun k => (List.range 8).all (fun j => l.any (fun x => x.line == 8 * k + j)))

/-- A line that no completion is made of. -/
def via0 : Via := ⟨0, 0, false, false, 0, 0, []⟩

/-- Cut bytes into lines numbered from `j`. -/
def cutLines : Nat → Nat → List Byte → Bool → List LineData
  | 0, _, _, _ => []
  | n + 1, j, d, po => if d.isEmpty then [] else ⟨j, d.take 64, po, via0⟩ :: cutLines n (j + 1) (d.drop 64) po

/-- Lines of a granule arrived: written on, line by line or in 512-byte writes (R172). A read of one line starts at the
line its address names. -/
def State.copyLines (s : State) (c g : Nat) (ls : List LineData) : State :=
  let s := s.each (ls.filter (·.poison)) (fun s _ => s.copyPoison c)
  if s.tgtMem (s.ctx c).dst then s.each ls (fun s l => s.copyWrite c g (64 * l.line) l.data l.poison)
  else
    s.each (fullChunks ls) (fun s k =>
      let part := (List.range 8).filterMap (fun j => ls.find? (fun l => l.line == 8 * k + j))
      s.copyWrite c g (512 * k) (part.flatMap (·.data)) (part.any (·.poison)))

/-- Lines of a granule arrived for a destination without CXL.mem: they wait for their 512-byte stretch (R172). -/
def State.bufferLines (s : State) (c g : Nat) (ls : List LineData) : State :=
  let all := (s.mig.copyBuf.filter (fun x => x.ctx == c && x.granule == g)).map (·.line) ++ ls
  let full := fullChunks all
  let keep := (all.filter (fun l => !full.contains (l.line / 8))).map (fun l => (⟨c, g, l⟩ : CopyLine))
  let s := { s with mig := { s.mig with copyBuf := s.mig.copyBuf.filter (fun (x : CopyLine) => !(x.ctx == c && x.granule == g)) ++ keep } }
  s.copyLines c g (all.filter (fun l => full.contains (l.line / 8)))

/-- Something came of a copy read (R172, R177). -/
def State.migReadResult (s : State) (b : Nat) (y : Bookmark) (c g : Nat) : BmResult → State
  | .answer st po d sy _ =>
    if st ≠ .ok ∨ sy then ((s.bmAnswered b).migSourceFail c)
    else
      let ls := cutLines 64 ((y.tlp.addr.toNat % 4096 + y.returned) / 64) d po
      let n := y.returned + d.length
      let s := if y.tlp.len ≤ n then s.bmAnswered b else s.bmSet b { y with returned := n }
      if s.tgtMem (s.ctx c).dst then (s.copyLines c g ls).granuleConfirm c g else s.bufferLines c g ls
  | .expired | .synthesised => (s.bmQuarantine b).migSourceFail c
  | _ => (s.bmFree b).migSourceFail c

/-- Something came of a copy write (R172, R177). -/
def State.migWriteResult (s : State) (b c g : Nat) : BmResult → State
  | .answer st _ _ sy _ => if st ≠ .ok ∨ sy then (s.bmAnswered b).migDestFail c else (s.bmAnswered b).granuleConfirm c g
  | .expired | .synthesised => (s.bmQuarantine b).migDestFail c
  | _ => (s.bmFree b).migDestFail c

/-- Something came of a settle read (R169, R177). -/
def State.migSettleResult (s : State) (b c : Nat) : BmResult → State
  | .answer st _ _ sy _ => if st ≠ .ok ∨ sy then (s.bmAnswered b).migStop c .sourceError else s.bmAnswered b
  | .expired | .synthesised => (s.bmQuarantine b).migStop c .sourceError
  | _ => (s.bmFree b).migStop c .sourceError

/-- Something came of a confirmation read (R172, R177): the pass's copy writes are confirmed. -/
def State.migConfirmResult (s : State) (b c : Nat) : BmResult → State
  | .answer st _ _ sy _ =>
    if st ≠ .ok ∨ sy then (s.bmAnswered b).migDestFail c
    else (s.bmAnswered b).modCtx c (fun y => { y with unconfirmed := 0, unconfirmedCount := 0 })
  | .expired | .synthesised => (s.bmQuarantine b).migDestFail c
  | _ => (s.bmFree b).migDestFail c

/-- Every copy read has come back, and every copy write is confirmed; a destination without CXL.mem is asked by one
zero-length read after the last write (R172). -/
def State.confirmed (s : State) (c : Nat) : Bool × State :=
  let x := s.ctx c
  if x.todo ≠ 0 ∨ s.anyPurpose (fun p => match p with | .migRead k _ | .migWrite k _ => k == c | _ => false)
      ∨ s.mig.writes.any (fun w => w.ctx == c) then (false, s)
  else if x.unconfirmed = 0 ∨ s.tgtMem x.dst then (true, s)
  else if x.confirmIssued || !s.enginePool 1 then (false, s)
  else
    let a := x.dst.dpa * 2 ^ 28
    (false, (s.modCtx c (fun y => { y with confirmIssued := true })).engineSend
      (s.engineReq { tlp0 with op := .memRead, addr := BitVec.ofNat 64 a, len := 0 }) s.internalFid x.dst.tgt a (.migConfirm c))

/-- A pass of COPY is complete (R170, R171): on to FINAL, another pass, or NO_CONVERGE. DESIGN CHOICE (log 94): a further pass is within
the same state COPY, which keeps the values of MIG_CTL that it was entered with. -/
def State.passComplete (s : State) (c : Nat) : State :=
  let x := s.ctx c
  if x.phase = .copy ∧ x.step = .copying then
    match s.confirmed c with
    | (false, s) => s
    | (true, s) =>
      if x.dirtyCount ≤ fld x.ctl 11 0 then
        let s := s.modCtx c (fun y => { y with ctl := s.act 0x901000, finalAt := s.cclkNow })
        (s.nextPass c .final 0).modCtx c (fun y => { y with pass := x.pass })
      else if x.pass < fld x.ctl 31 24 then s.nextPass c .copy 0
      else s.migStop c .noConverge
  else s

/-- The flip edge (R173, R175, R159 step 3): entry i is replaced, the generation advances, held writes go on. -/
def State.flip (s : State) (c : Nat) : State :=
  let x := s.ctx c
  if x.phase = .final ∧ x.step = .copying then
    match s.confirmed c with
    | (false, s) => s
    | (true, s) =>
      let s := if x.resync then s.checkGather x.gather else s
      if x.resync ∧ s.gBad x.gather then s.migStop c .sourceError
      else
      let s := s.holdMeasure c
      let s :=
        if x.resync then
          let e := s.gEntry x.gather
          let s := if x.marked then s.setFolio x.folio (setMigrating x.entry false) else s
          let s := s.putGWord x.gather 1 (e.setMark (e.mark + 1)).w1
          if e.count ≤ e.mark + 1 then s.putGWord x.gather (2 + x.member) ((e.setMState x.member 1).memberWord x.member) else s
        else
          let t := x.dst
          let e := x.entry.toNat
          let e := setBits (setBits (setBits e 23 20 t.kind) 83 78 t.port) 87 84 t.ld
          let e := setBits (setBits (setBits e 99 88 t.fid) 29 29 (b2n t.remoteLd)) 75 40 t.dpa
          s.setFolio x.folio (setMigrating (BitVec.ofNat 128 e) false)
      let s := s.advanceGen
      (s.modCtx c (fun y => { y with phase := .fence, step := .waitFence, marked := false, fenceGen := s.path.gen, fenceSince := s.spine.ticks })).retryHeld.push
        .fenceCheck
  else s

/-- The hold timer reaches HOLD_MAX before the flip edge (R170, R174). -/
def State.holdExpire (s : State) (c : Nat) : State :=
  let x := s.ctx c
  if x.phase = .final then
    let s := s.modCtx c (fun y => { y with abandons := y.abandons + 1 })
    if x.abandons + 1 < fld x.ctl 15 12 then
      let s := s.holdMeasure c
      let s := s.modCtx c (fun y => { y with ctl := s.act 0x901000 })
      ((s.migRelease c).nextPass c .copy (x.todo ||| x.unconfirmed)).retryHeld
    else s.migStop c .holdExpired
  else s

/-! ### Starting (R165, R166, R179) -/

/-- The folio of a RESYNC context: FIRST + MARK (R179). DESIGN CHOICE (log 95): the generation advances and the context waits under the
completion fence whether or not the entry was rewritten with MIGRATING, which the entry of another KIND or gathering is not. -/
def State.resyncFolio (s : State) (c : Nat) : State :=
  let x := s.ctx c
  let e := s.gEntry x.gather
  let i := e.first + e.mark
  let s := s.checkFolio i
  let f := s.folio i
  let mark := efld f 23 20 == 4 && efld f 111 100 == x.gather && !s.path.failFolio.contains i
  let s := if mark then s.setFolio i (setMigrating f true) else s
  let s := s.advanceGen
  (s.modCtx c (fun y =>
    { y with phase := .copy, step := .waitFence, folio := i, entry := f, marked := mark, dirty := 0, dirtyCount := 0, pass := 1,
             todo := 0, todoCount := 0, unconfirmed := 0, unconfirmedCount := 0, ctl := s.act 0x901000, fenceGen := s.path.gen,
             settleIssued := false, confirmIssued := false, settleTodo := [] })).push .fenceCheck

/-- A destination of MIGRATE_START with a bit set outside the fields that are used (R271): KIND, PORT, LD_ID, FABRIC_ID, REMOTE_LD
and DPA of the folio entry (R92). -/
def destUnused (q4 q5 : Quad) : Bool :=
  ([(23, 20), (83, 78), (87, 84), (99, 88), (29, 29), (75, 40)].foldl (fun e (b : Nat × Nat) => setBits e b.1 b.2 0)
    (q5.toNat * 2 ^ 64 + q4.toNat)) != 0

/-- The destination of a descriptor is out of range (R165 BAD_TARGET). -/
def State.badTarget (s : State) (q4 q5 : Quad) (src dst : MigTarget) : Bool :=
  destUnused q4 q5 || dst.kind == 0 || decide (3 < dst.kind) || (dst.kind != 3 && s.role dst.port != .device)
    || (dst.kind == 3 && s.glb.mode == .standalone) || src.same dst

/-- A context as an accepted MIGRATE_START begins with it: what it shows of its last migration stays, but for the counts (R185). -/
def MigCtx.begun (x : MigCtx) : MigCtx := { migCtx0 with last := x.last }

/-- MIGRATE_START in FOLIO mode (R165, R166). The answer of a refusal is its STATUS. -/
def State.migStartFolio (s : State) (o : Origin) (c rate i : Nat) (q4 q5 : Quad) : State :=
  if !s.migMode then s.done o 0x25
  else
    let s := s.checkFolio i
    let e := s.folio i
    let dst := targetOf (BitVec.ofNat 128 (q5.toNat * 2 ^ 64 + q4.toNat))
    if (s.ctx c).phase ≠ .idle then s.done o 0x50
    else if s.folioHeld i ∨ s.mig.ctxs.any (fun x => x.2.phase != .idle && x.2.folio == i) then s.done o 0x42
    else if s.path.failFolio.contains i ∨ efld e 23 20 = 0 ∨ 3 < efld e 23 20 then s.done o 0x51
    else if s.badTarget q4 q5 (targetOf e) dst then s.done o 0x52
    else
      let s := (s.setFolio i (setMigrating e true)).advanceGen
      (s.modCtx c (fun y =>
        { y.begun with
          phase := .copy, folio := i, entry := e, marked := true, src := targetOf e, dst := dst, rate := rate, pass := 1,
          ctl := s.act 0x901000, fenceGen := s.path.gen, origin := o })).push .fenceCheck

/-- MIGRATE_START in RESYNC mode (R165, R179). -/
def State.migStartResync (s : State) (o : Origin) (c rate g m : Nat) : State :=
  if !s.migMode then s.done o 0x25
  else
    let s := s.checkGather g
    if (s.ctx c).phase ≠ .idle then s.done o 0x50
    else if s.gBad g ∨ (s.gEntry g).typ ≠ 1 ∨ 3 ≤ m ∨ (s.gEntry g).mState m ≠ 3
        ∨ s.mig.ctxs.any (fun x => x.2.phase != .idle && x.2.resync && x.2.gather == g) then s.done o 0x53
    else
      (s.modCtx c (fun y => { y.begun with phase := .copy, resync := true, gather := g, member := m, rate := rate, origin := o })).resyncFolio c

/-- MIGRATE_ABORT (R170, R176). -/
def State.migAbort (s : State) (o : Origin) (c : Nat) : State :=
  let x := s.ctx c
  if x.phase = .copy ∨ x.phase = .final then (s.migStop c .aborted).done o 0 else s.done o 0x54

/-- A completion fence of a context clears (R166 step 4, R170, R175, R179). -/
def State.migFence (s : State) (c : Nat) : State :=
  let x := s.ctx c
  if x.phase = .copy ∧ x.step = .waitFence then (if s.completionClear x.fenceGen then s.firstPass c else s)
  else if x.phase = .fence ∧ s.completionClear x.fenceGen then
    if x.resync then
      let e := s.gEntry x.gather
      if e.mState x.member = 3 then s.resyncFolio c
      else if e.mState x.member = 1 then s.migFinish c .done
      else s.migFinish c .memberLost
    else s.migFinish c .done
  else s

/-- Every context waiting on a fence is looked at. -/
def State.migFences (s : State) : State := s.each (s.mig.ctxs.map (·.1)) State.migFence

/-- The fence limit passes for a context in FENCE (R170, R101), which has waited DEC_FENCE_CTL.LIMIT MTICK for a fence that is not clear. -/
def State.migFenceExpire (s : State) (c : Nat) : State :=
  let x := s.ctx c
  if x.phase ≠ .fence ∨ s.spine.ticks < x.fenceSince + s.dirF 0x631004 7 0 then s
  else if s.completionClear x.fenceGen then s.push .fenceCheck
  else (s.migFinish c .fenceExpired).raiseDev 1478

/-! ### Other events -/

/-- A RESYNC member moved to LOST: the resynchronisation ends (R159, R177). -/
def State.doResyncLost (s : State) (g m : Nat) : State :=
  s.each (s.mig.ctxs.filter (fun x => x.2.resync && x.2.gather == g && x.2.member == m)) (fun s x => s.migStop x.1 .memberLost)

/-- A port was flushed (R177): migrations to or from it end. -/
def State.migPortFlushed (s : State) (p : Nat) : State :=
  s.each (s.mig.ctxs.filter (fun x => x.2.phase == .copy || x.2.phase == .final)) (fun s x =>
    let y := s.ctx x.1
    let at' := fun (t : MigTarget) => t.kind != 3 && t.port == p
    if y.resync then s
    else if at' y.src then s.migStop x.1 .sourceError
    else if at' y.dst then s.migStop x.1 .destError
    else s)

/-- Entry i of a migration fails its check (R177 ENTRY_ERROR). -/
def State.migEntryError (s : State) (i : Nat) : State :=
  s.each (s.mig.ctxs.filter (fun x => (x.2.phase == .copy || x.2.phase == .final) && x.2.folio == i)) (fun s x =>
    s.migStop x.1 .entryError)

/-- Entry into QUIESCED ends every migration (R177), and resynchronised members move to LOST. -/
def State.migQuiesce (s : State) : State :=
  s.each s.mig.ctxs (fun s x =>
    if x.2.phase = .idle then s
    else
      let s := if x.2.phase = .fence then s.migFinish x.1 .quiesced else s.migStop x.1 .quiesced
      if x.2.resync then s.loseMember x.2.gather x.2.member else s)

end Sys2Proof.Machine
end

