-- ==== Sys2Proof/Machine/Heat.lean ====
section
/-!
DEFINITION. What the device sends toward hosts in its own name (R72, R306, R327), and the heat engine's epochs and reports
(R181 to R184).
-/
namespace Sys2Proof.Machine

/-! ### The device's own packets toward a host -/

/-- A packet of function f toward the host of a hierarchy (R72, R327): memory requests of every function are gated by the vUSB's Bus Master
Enable, and none is made by a function in D3hot, nor passes a vUSB that is (R69). Containment of the
hierarchy or of the device stops all but the management function's traffic (R327, R328). Messages of the bridges are not gated. -/
def State.upAllowed (s : State) (h f : Nat) (t : Tlp) : Bool :=
  if h = 48 then true
  else (s.hier h).active &&
    (t.op == .msg || (s.bme h 0 && !s.d3 h 0 && !s.d3 h f
      && (!(s.contained .hierarchy h || s.contained .device 0) || (f == 1 && s.privHier == some h))))

/-- The requester ID of a function (R57, R281): by the bus numbers that the host gave the vUSB. -/
def State.fnRid (s : State) (h f : Nat) : BitVec 16 :=
  BitVec.ofNat 16 (
    if h = 48 then 256 * Config.endpaperBus h
    else if f < 2 then 256 * s.cfgF h 0 6 7 0 + f
    else 256 * s.cfgF h 0 6 15 8 + 8 * ((f - 2) % 32) + (f - 2) / 32)

/-- The port a hierarchy's host is on. -/
def State.upPort (s : State) (h : Nat) : Nat := if h = 48 then 0 else (s.hier h).onPort

/-- Send a packet of the device toward a hierarchy's host. -/
def State.doSendUp (s : State) (h f : Nat) (t : Tlp) : State :=
  let t := { t with reqId := s.fnRid h f }
  if s.upAllowed h f t then
    if s.glb.mode = .endpaper then ((s.countPort 0 1).countPort 0 3 t.payload.length).out (.tx 0 t none 0 none 0)
    else s.enqueue (s.devicePacket t) [copyTo (s.upPort h) t]
  else if h < 48 ∧ (s.hier h).active ∧ s.hostShut h then s.countShut h t.op.posted
  else s

/-- Cut a write into packets of at most 512 bytes that cross no 512-byte boundary (R85). -/
def cutWrite : Nat → Nat → List Byte → List (Nat × List Byte)
  | 0, _, _ => []
  | n + 1, a, d =>
    if d.isEmpty then []
    else
      let k := 512 - a % 512
      (a, d.take k) :: cutWrite n (a + k) (d.drop k)

/-- The requests of at most 4,096 bytes that an access of the management endpoint makes to the guard (R311): offset and size. -/
def guardCuts (n : Nat) : List (Nat × Nat) :=
  (List.range ((n + 4095) / 4096)).map (fun j => (4096 * j, min 4096 (n - 4096 * j)))

/-- Posted writes of the management endpoint of hierarchy h (R85). -/
def State.mepSend (s : State) (h a : Nat) (d : List Byte) : State :=
  s.each (cutWrite (d.length / 512 + 2) a d) (fun s w =>
    s.push (.sendUp h 1 { tlp0 with op := .memWrite, addr := BitVec.ofNat 64 w.1, len := w.2.length, payload := w.2 }))

/-- A write of the management endpoint of hierarchy h, checked by the guard (R306, R312): allowed parts leave, forbidden ones
are dropped. The answer tells whether a part was forbidden. -/
def State.mepWrite (s : State) (h a : Nat) (d : List Byte) : Bool × State :=
  (guardCuts d.length).foldl (fun acc w =>
    let g := acc.2.guard (.mep h) .host .write (a + w.1) w.2
    (acc.1 || g.1.any (fun p => !p.ok),
     g.2.each (g.1.filter (·.ok)) (fun s p => s.mepSend h (a + w.1 + p.off) ((d.drop (w.1 + p.off)).take p.len)))) (false, s)

/-- A read of the management endpoint of hierarchy h passes the guard (R306, R312). -/
def State.mepReadOk (s : State) (h a n : Nat) : Bool × State :=
  (guardCuts n).foldl (fun acc w =>
    let g := acc.2.guard (.mep h) .host .read (a + w.1) w.2
    (acc.1 && g.1.all (·.ok), g.2)) (true, s)

/-- A management endpoint may issue requests of its own: presented, Bus Master Enable set (R72), not in D3hot (R69); while record 255 is open only the
management function (R328). -/
def State.mepOn (s : State) (h : Nat) : Bool :=
  s.bme h 1 && !s.d3 h 1 && (h == 48 || ((s.hier h).active && s.actF (offHvhCtl h) 24 24 == 1
    && (!s.contained .device 0 || s.privHier == some h)))

/-- Bytes written to the open region of the scratchpad; others are dropped (R372). -/
def State.spadWrite (s : State) (a : Nat) (bytes : List Byte) : State :=
  { s with mgmt := { s.mgmt with
    spad := (bytes.zipIdx).foldl (fun t b =>
      if 0x20000000 ≤ a + b.2 ∧ a + b.2 < 0x20020000 then tput 0 t (a + b.2) b.1 else t) s.mgmt.spad } }

/-! ### Heat epochs (R181, R182) -/

/-- MIG_HEAT_CTL. -/
def State.heatCtl (s : State) : Word := s.act 0x901010

/-- EPOCH in ns (R181). -/
def State.epochNs (s : State) : Nat := fld s.heatCtl 15 0 * 1000000

/-- Change the heat engine. -/
def State.modHeat (s : State) (f : Heat → Heat) : State := { s with mig := { s.mig with heat := f s.mig.heat } }

/-- The watch registers, as an epoch takes them (R182). -/
def State.watchWords (s : State) : Tbl Word :=
  (s.regs.active.filter (fun x => decide (0x904000 ≤ x.1 ∧ x.1 < 0x908000))).map (fun x => ((x.1 - 0x904000) / 4, x.2))

/-- A bank as an epoch begins with it. -/
def State.freshBank (s : State) : HeatBank := { bank0 with watch := s.watchWords, start := s.ns }

/-- The next whole multiple of the epoch length past now (R181). -/
def State.nextBoundary (s : State) : Nat := if s.epochNs = 0 then 0 else (s.ns / s.epochNs + 1) * s.epochNs

/-- Q0 of a report (R183). -/
def heatQ0 (b : HeatBank) (valid : Bool) : Nat :=
  let n := (b.watch.filter (fun x => bitOf x.2.toNat 31)).length
  place n 60 48 + place (b2n b.sat) 34 34 + place (b2n b.extended) 33 33 + place (b2n valid) 32 32 + b.seq % 2 ^ 32

/-- A folio or leaf record (R183). -/
def heatRecord (x : HeatCount) : Nat := 2 ^ 32 * x.writes + x.reads

/-- The 64-bit word at an offset of a report whose writing is complete (R183); none where nothing is written. -/
def heatReportWord (b : HeatBank) (off : Nat) : Option Nat :=
  if off < 0x40 then
    some (match off / 8 with | 0 => heatQ0 b true | 1 => b.start | 2 => b.fin | _ => 0)
  else if off < 0x1000 then none
  else if off < 0x5000 then
    let k := (off - 0x1000) / 4 / 2 * 2
    some ((tget (0 : Word) b.watch k).toNat + 2 ^ 32 * (tget (0 : Word) b.watch (k + 1)).toNat)
  else if off < 0x8000 then none
  else if off < 0x408000 then some (heatRecord (tget heat0 b.folios ((off - 0x8000) / 8)))
  else if off < 0x808000 then
    let j := (off - 0x408000) / 8
    some (if bitOf (tget (0 : Word) b.watch (j / 128)).toNat 31 then heatRecord (tget heat0 b.leaves j) else 0)
  else none

/-- The buffer of an epoch's report (R183). -/
def State.heatBase (s : State) (seq : Nat) : Nat :=
  2 ^ 32 * (s.act 0x901018).toNat + 2 ^ 25 * s.actF 0x901014 31 25 + (seq % 2) * 2 ^ 24

/-- The stretches of a report: the header, then the written pages (R183). -/
def heatParts : List (Nat × Nat) :=
  (0, 64) :: ((List.range 2056).filter (fun i => i != 0 && !(5 ≤ i && i < 8 : Bool))).map (fun i => (4096 * i, 4096))

/-- The bytes of a stretch of a report as it is first written: Q0 with VALID = 0 (R184). -/
def heatBytes (b : HeatBank) (x : Nat × Nat) : List Byte :=
  (List.range (x.2 / 8)).flatMap (fun k =>
    leBytes 8 (if x.1 + k = 0 then heatQ0 b false else (heatReportWord b (x.1 + 8 * k)).getD 0))

/-- A write of the report being written (R184): posted, of the endpoint of the hierarchy it began with, through the guard (R306). -/
def State.heatWrite (s : State) (off : Nat) (d : List Byte) : State := (s.mepWrite s.mig.heat.hier (s.mig.heat.base + off) d).2

/-- The next stretch of the report being written is issued (R184). DESIGN CHOICE (log 77): whenever the host port's queue is empty. -/
def State.heatPump (s : State) : State :=
  match s.mig.heat.left with
  | [] => s
  | x :: l =>
    if s.mig.heat.writing ∧ (s.queue (s.upPort s.mig.heat.hier)).isEmpty then
      (s.modHeat (fun y => { y with left := l })).heatWrite x.1 (heatBytes s.mig.heat.closed x)
    else s

/-- A report begins (R184): its header goes out first. -/
def State.heatBegin (s : State) (hh : Nat) (bank : HeatBank) : State :=
  (s.modHeat (fun x =>
    { x with writing := true, closed := bank, hier := hh, base := s.heatBase bank.seq, left := heatParts.drop 1 })).heatWrite 0
      (heatBytes bank (0, 64))

/-- Close the open epoch (R181, R184): the bank switches and its report begins, unless the previous one is still being
written. DESIGN CHOICE (log 96): where counting stops (EN = 0) while the previous report is still being written, the closed epoch's report
is not written, and counts as one not written. -/
def State.heatClose (s : State) (again : Bool) : State :=
  let h := s.mig.heat
  if !h.isOpen then s
  else if h.writing ∧ again then
    s.modHeat (fun x => { x with missed := wrapInc 8 x.missed, cur := { x.cur with extended := true }, boundary := s.nextBoundary })
  else
    let seq := wrapInc 32 h.seq
    let bank := { h.cur with fin := s.ns, seq := seq }
    let hh := s.actF 0x901010 25 20
    let fresh := s.freshBank
    let s := s.modHeat (fun x =>
      { x with seq := seq, cur := if again then fresh else bank0, isOpen := again, boundary := s.nextBoundary })
    if s.mepOn hh ∧ !h.writing then s.heatBegin hh bank
    else s.modHeat (fun x => { x with fault := wrapInc 8 x.fault })

/-- Spine time crosses an epoch boundary (R181). -/
def State.heatBoundary (s : State) : State :=
  if s.mig.heat.isOpen ∧ s.mig.heat.boundary ≤ s.ns then s.heatClose true else s

/-- HEAT_REPORT_COMPLETE (R184): with every record issued, Q0 is written again with VALID = 1. -/
def State.heatComplete (s : State) : State :=
  if s.mig.heat.writing ∧ s.mig.heat.left.isEmpty then
    (s.heatWrite 0 (leBytes 8 (heatQ0 s.mig.heat.closed true))).modHeat (fun x => { x with writing := false, closed := bank0 })
  else s

/-- A report being written ends early: nothing more of it is issued (R184). -/
def State.heatCut (s : State) : State :=
  s.modHeat (fun x => { x with writing := false, closed := bank0, left := [], fault := wrapInc 8 x.fault })

/-- A report ends when its endpoint may no longer write (R184). -/
def State.doHeatCheck (s : State) : State := if s.mig.heat.writing ∧ !s.mepOn s.mig.heat.hier then s.heatCut else s

/-- A reset of the report's hierarchy, of whichever kind, ends it (R73, R184). -/
def State.heatReset (s : State) (h : Nat) : State := if s.mig.heat.writing ∧ s.mig.heat.hier = h then s.heatCut else s

/-- A binding at E0 may switch heat counting on or off, or change the epoch length (R181); in TEST no epoch runs. -/
def State.heatBinding (s : State) : State :=
  let on := bitOf s.heatCtl.toNat 31 && s.glb.mode != .test
  if on ∧ !s.mig.heat.isOpen then
    s.modHeat (fun x => { x with isOpen := true, cur := s.freshBank, boundary := s.nextBoundary })
  else if !on ∧ s.mig.heat.isOpen then s.heatClose false
  else if s.mig.heat.isOpen ∧ s.ns < s.mig.heat.boundary then s.modHeat (fun x => { x with boundary := s.nextBoundary })
  else s

/-- A forward step of spine time past a boundary closes the epoch once, at the step; the epoch that spans a forward step is marked
EXTENDED (R183). A backward step moves the next boundary (R181). -/
def State.heatStep (s : State) (forward : Bool) : State :=
  if !s.mig.heat.isOpen then s
  else if forward then
    let s := s.modHeat (fun x => { x with cur := { x.cur with extended := true } })
    if s.mig.heat.boundary ≤ s.ns then s.heatClose true else s
  else s.modHeat (fun x => { x with boundary := s.nextBoundary })

end Sys2Proof.Machine
end

