-- ==== Sys2Proof/Machine/Threshold.lean ====
section
/-!
DEFINITION. The occupancies of the threshold counters (R351), and counting them over CCLK.
-/
namespace Sys2Proof.Machine

/-- The mirror copies that share packets' cells: the packet of each, and its cells (R142, R339). -/
def State.mirrorRefs (s : State) : List (Nat × Nat) :=
  s.obs.sessions.flatMap (fun x => x.2.queue.filterMap (fun c => c.pkt.map (fun p => (p, c.cells))))

/-- REPL_CELLS: cells of packets with a reference count above one, which counts member copies and mirror copies (R142, R163). -/
def State.replCells (s : State) : Nat :=
  let m := s.mirrorRefs
  let count := fun (p : Nat) => (m.filter (fun c => c.1 == p)).length
  let queued := s.path.packets.foldl (fun n x => if 1 < x.2.refs + count x.1 then n + x.2.cells + x.2.extra else n) 0
  let left := m.eraseDups.filter (fun c => (tfind s.path.packets c.1).isNone && decide (1 < count c.1))
  left.foldl (fun n c => n + c.2) queued

/-- The occupancy that SOURCE and INST select (R351). -/
def State.occupancy (s : State) (src inst : Nat) : Nat :=
  match src with
  | 1 => s.egrCells inst
  | 2 => s.sharedHeld (.port inst)
  | 3 => s.poolUsed
  | 4 => s.path.bookmarks.length
  | 5 => (s.path.bookmarks.filter (fun x => x.2.charged == some inst)).length
  | 6 => s.npWaiting inst
  | 7 => (s.bfl inst).replay.length
  | 8 => s.replCells
  | 9 => (tget session0 s.obs.sessions inst).held
  | 10 => s.obs.queue.length
  | _ => 0

/-- The threshold counters with a source selected: number and select word. -/
def State.thrSelected (s : State) : List (Nat × Word) :=
  (s.regs.active.filter (fun x => decide (0x1020000 ≤ x.1 ∧ x.1 < 0x1022000) && x.1 % 16 == 0 && fld x.2 31 28 != 0)).map
    (fun x => ((x.1 - 0x1020000) / 16, x.2))

/-- `n` CCLK pass at the present occupancies (R351). -/
def State.thrAdvance (s : State) (n : Nat) : State :=
  s.each s.thrSelected (fun s x =>
    if fld x.2 19 0 < s.occupancy (fld x.2 31 28) (fld x.2 27 22) then
      { s with obs := { s.obs with thr := tmod 0 s.obs.thr x.1 (fun v => wrapAdd 48 v n) } }
    else s)

end Sys2Proof.Machine
end

