-- ==== Sys2Proof/Machine/Spine.lean ====
section
/-!
DEFINITION. Spine time, its reference and servo (R35 to R44); advancing the core clock (R25).
-/
namespace Sys2Proof.Machine

/-! ### Ring memory -/

/-- Change observation. -/
def State.modObs (s : State) (f : Obs → Obs) : State := { s with obs := f s.obs }

/-- Write bytes to ring memory (R263): by the management endpoint, or on the management local bus. The answer tells whether the
guard forbade a part (R312). -/
def State.memPut (s : State) (m : RingMem) (a : Nat) (bytes : List Byte) : Bool × State :=
  match m with
  | .host h => s.mepWrite h a bytes
  | .localBus => (false, (s.spadWrite a bytes).out (.localWrite a bytes))
  | .nowhere => (false, s)

/-- Write bytes to ring memory, whatever the guard says of it. -/
def State.memWrite (s : State) (m : RingMem) (a : Nat) (bytes : List Byte) : State := (s.memPut m a bytes).2

/-- Ring memory can be written now (R72, R278). -/
def State.memOn (s : State) : RingMem → Bool
  | .host h => s.mepOn h
  | .localBus => true
  | .nowhere => true

/-- Words as bytes (R8). -/
def wordBytes (ws : List Quad) : List Byte := ws.flatMap (fun (q : Quad) => leBytes 8 q.toNat)

/-! ### Instants (R347 to R350) -/

/-- A counter's live value. -/
def State.counter (s : State) (n : Nat) : Nat := tget 0 s.counts n

/-- The words of a SNAPSHOT record (R349). -/
def State.snapWords (s : State) (first count tns : Nat) (late : Bool) : List Quad :=
  [BitVec.ofNat 64 (s.obs.snaps + b2n late * 2 ^ 32 + b2n s.obs.frozen.isSome * 2 ^ 33), BitVec.ofNat 64 tns, BitVec.ofNat 64 s.ns,
   BitVec.ofNat 64 (count * 2 ^ 16 + first), BitVec.ofNat 64 s.glb.serial, 0, 0, 0]
    ++ (List.range count).map (fun i => BitVec.ofNat 64 (s.counter (first + i)))

/-- An instant is taken (R347 to R349). -/
def State.takeInstant (s : State) (x : Instant) (late : Bool) : State :=
  match x.act with
  | .freeze =>
    (s.modObs (fun o => { o with frozen := some ⟨s.counts, o.thr, o.bins⟩, freezeNs := s.ns })).push (.cmdDone x.origin 0 0)
  | .thaw => (s.modObs (fun o => { o with frozen := none })).push (.cmdDone x.origin 0 0)
  | .snapshot first count mem addr =>
    let s := s.modObs (fun o => { o with snaps := wrapInc 32 o.snaps })
    match addr with
    | none => s.push (.cmdDone x.origin 0 (s.counter first))
    | some a =>
      if s.memOn mem then
        let r := s.memPut mem a (wordBytes (s.snapWords first count x.tns late))
        r.2.push (.cmdDone x.origin (if r.1 then 0x23 else 0) 0)
      else s.push (.cmdDone x.origin 0x26 0)

/-- The pending instants that time has reached are taken, in the order of their effect stages (R347, R350). -/
def State.takeDue (s : State) (late : Bool) : State :=
  let due := fun (x : Instant) => decide (x.tns * 2 ^ 40 ≤ s.spine.t40)
  let go := s.obs.instants.filter due
  (s.modObs (fun o => { o with instants := o.instants.filter (fun x => !due x) })).each go (fun s x => s.takeInstant x late)

/-! ### Advancing -/

/-- The nominal increment of one CCLK, 0.625 ns, in units of 2^-40 ns (R35). -/
def nominalInc : Nat := 687194767360

/-- Ports at which a request is held for a bookmark, and those at which one is held under NP_LIMIT (R342). -/
def State.heldPorts (s : State) : List Nat × List Nat :=
  (((s.path.heldRx.filter (fun x => x.reason == .noBookmark)).map (·.rx.port)).eraseDups,
   ((s.path.heldOut.filterMap (fun x => match x.pkt.ingress with
      | .port p => if x.copies.any (fun c => s.lockBlocks x.pkt c.port) then none else some p
      | .device => none)).eraseDups))

/-- Let n edges of CCLK pass (R25, R35): spine time advances, and each cycle of a hold or of L1 is counted (R24, R342). -/
def State.pass (s : State) (n : Nat) : State :=
  let s := s.thrAdvance n
  let h := s.heldPorts
  let l1 := (s.links.ports.filter (fun x => x.2.inL1)).map (·.1)
  let s := { s with spine := { s.spine with t40 := s.spine.t40 + n * s.spine.inc, cclk := s.spine.cclk + n } }
  let s := s.each h.1 (fun s p => s.countPort p 6 n)
  let s := s.each h.2 (fun s p => s.countPort p 7 n)
  s.each l1 (fun s p => s.countPort p 26 n)

/-- CCLK edges until spine time is at or beyond a time in units of 2^-40 ns. -/
def State.edgesTo (s : State) (t : Nat) : Nat :=
  if t ≤ s.spine.t40 ∨ s.spine.inc = 0 then 0 else (t - s.spine.t40 + s.spine.inc - 1) / s.spine.inc

/-- Put a number in its place in a rising list, once. -/
def insUp (n : Nat) : List Nat → List Nat
  | [] => [n]
  | m :: l => if n < m then n :: m :: l else if n = m then m :: l else m :: insUp n l

/-- Let n edges of CCLK pass. A pending instant that falls on one of them is taken there, with the values as they stand at the start
of that CCLK (R347, R350). -/
def State.advance (s : State) (n : Nat) : State :=
  let c := s.cclkNow
  let stops := (s.obs.instants.map (fun x => s.edgesTo (x.tns * 2 ^ 40))).filter (fun k => decide (k ≤ n))
  let s := s.each (stops.foldr insUp []) (fun s k => (s.pass (c + k - s.cclkNow)).takeDue false)
  s.pass (c + n - s.cclkNow)

/-- Let CCLK edges pass until spine time is at or beyond `ns`. -/
def State.advanceToNs (s : State) (ns : Nat) : State := s.advance (s.edgesTo (ns * 2 ^ 40))

/-! ### Reading (R36) -/

/-- FRAC of local spine time (R35). -/
def State.frac (s : State) : Nat := s.spine.t40 / 2 ^ 24 % 2 ^ 16

/-- A requester's latch set. -/
def State.latch (s : State) : Path → LatchSet
  | .mf => s.spine.latchMf
  | .fw _ => s.spine.latchFw

/-- Change a requester's latch set. -/
def State.setLatch (s : State) (p : Path) (l : LatchSet) : State :=
  match p with
  | .mf => { s with spine := { s.spine with latchMf := l } }
  | .fw _ => { s with spine := { s.spine with latchFw := l } }

/-- A read of SPN_TIME_LO latches NS[63:32] and FRAC (R36); the value read is NS[31:0]. -/
def State.latchTime (s : State) (p : Path) : State :=
  s.setLatch p { s.latch p with nsHi := s.ns / 2 ^ 32 % 2 ^ 32, frac := s.frac }

/-! ### The reference (R37, R38, R41, R42) -/

/-- The mode that governs the reference: in QUIESCED, the mode entered from. -/
def State.timeMode (s : State) : Mode := if s.glb.mode = .quiesced then s.glb.enteredFrom else s.glb.mode

/-- The reference selected by mode and SPN_SRC_CTL. -/
def State.refSelected (s : State) : TimeRef :=
  match s.timeMode with
  | .standalone | .test | .anchor => if s.dirF 0x100020 0 0 = 1 then .external else .none
  | .member => match s.fabric.upstream with | some p => .fabric p | none => .none
  | _ => .none

/-- The reference selected is valid: it is there, and not lost under R42. -/
def State.refValid (s : State) : Bool :=
  match s.spine.ref with
  | .none => false
  | .external => s.spine.extClk && !s.spine.ppsLost
  | .fabric p => (s.bfl p).phase == .active && decide (s.spine.missed < 8)

/-- The increment for an applied rate r = num / K, K = 2^40 × 64 × 625,000 (R40): |r| is clamped to 500 ppm; the result is
the exact one rounded down or up, which the spec leaves open. -/
def State.setRate (s : State) (num : Int) : State :=
  let k : Int := 2 ^ 40 * 64 * 625000
  let num := if k / 2000 < num then k / 2000 else if num < -(k / 2000) then -(k / 2000) else num
  let prod := (687194767360 : Int) * num
  let q := Int.fdiv prod k
  if Int.fmod prod k = 0 then { s with spine := { s.spine with inc := ((687194767360 : Int) - q).toNat } }
  else
    let r := s.drawBelow 2
    { r.2 with spine := { r.2.spine with inc := ((687194767360 : Int) - q - (Int.ofNat r.1)).toNat } }

/-- r = y (R40, R41). -/
def State.holdRate (s : State) : State := s.setRate s.spine.yAcc

/-- A valid reference takes the servo from FREE to ACQUIRE with y = 0, and from HOLDOVER to ACQUIRE with y held (R41). -/
def State.acquire (s : State) : State :=
  if s.refValid then
    match s.spine.servo with
    | .free => { s with spine := { s.spine with servo := .acquire, yAcc := 0, goodRun := 0, badRun := 0 } }
    | .holdover =>
      { s with spine := { s.spine with servo := .acquire, goodRun := 0, badRun := 0, holdTicks := 0, holdExpired := false } }
    | _ => s
  else s

/-- The reference selected changes (R41): FREE with r = y, then at once ACQUIRE if another is selected and valid. -/
def State.doReselect (s : State) : State :=
  let r := s.refSelected
  if r = s.spine.ref then s
  else
    let was := s.spine.servo
    let s := { s with spine := { s.spine with
      ref := r, servo := .free, ppsSeen := false, goodRun := 0, badRun := 0, holdTicks := 0, holdExpired := false,
      missed := 0, ppsTheta := none } }
    (if was = .free then s else s.holdRate).acquire

/-- The reference is lost (R41). -/
def State.refLost (s : State) : State :=
  let s := { s with spine := { s.spine with goodRun := 0, badRun := 0 } }
  match s.spine.servo with
  | .acquire | .locked => ({ s with spine := { s.spine with servo := .holdover, holdTicks := 0 } }).holdRate
  | _ => s

/-! ### Steps (R50) -/

/-- An instant T − k ns in units of 2^-40 ns. -/
def t40Of (t k : Nat) : Nat := (t - k) * 2 ^ 40

/-- Units of a group, by SPN_UNIT_GROUP (R46). -/
def State.unitGroup (s : State) (u : Nat) : Nat := s.dirF (0x100200 + 4 * (u / 4)) (8 * (u % 4) + 4) (8 * (u % 4))

/-- The units of a set of groups. -/
def State.unitsOf (s : State) (groups : Nat) : List Nat := (List.range 188).filter (fun u => bitOf groups (s.unitGroup u))

/-- The unit of a BAR0 word with RWQ fields (R45). -/
def unitAt (off : Nat) : Option Nat := (locate off).bind placeUnit

/-- The shadow words of some units whose parity is bad (R48 step 2). -/
def State.shadowBad (s : State) (us : List Nat) : Bool :=
  s.regs.badShadow.any (fun o => match unitAt o with | some u => us.contains u | none => false)

/-- A binding whose gate closes now: its shadow words' parity is sampled (R48 step 2). A forward step that makes it late sets its
E0 to the 16th CCLK after the step (R50). -/
def State.gateOf (s : State) (b : BindReq) (late : Bool) : BindReq :=
  { b with
    stage := .gated, late := b.late || late, due := if late then some (s.cclkNow + 16) else b.due,
    badShadow := s.shadowBad (s.unitsOf b.groups) }

/-- The sampling of the shadow words of some groups is a check of them (R48 step 2, R55). -/
def State.sampleShadow (s : State) (groups : Nat) : State :=
  s.checkShadow (fun o => match unitAt o with | some u => bitOf groups (s.unitGroup u) | none => false)

/-- Change the pending bindings. -/
def State.setBinds (s : State) (l : List BindReq) : State := { s with regs := { s.regs with binds := l } }

/-- A unit's write gate is closed (R48, R49). -/
def State.gateClosed (s : State) (u : Nat) : Bool :=
  s.regs.binds.any (fun b => b.stage != .pending && b.stage != .armed && bitOf b.groups (s.unitGroup u))

/-- Write an RWQ word of the shadow quire, leaving bits of other access codes as they are. -/
def State.shadowWrite (s : State) (off : Nat) (w : Word) : State := s.setShad off w

/-- Apply the queued writes whose unit's gate is open, in arrival order (R48 step 7, R49). -/
def State.applyQueue (s : State) : State :=
  let go := s.regs.gateQueue.filter (fun w => match unitAt w.off with | some u => !s.gateClosed u | none => true)
  let stay := s.regs.gateQueue.filter (fun w => match unitAt w.off with | some u => s.gateClosed u | none => false)
  ({ s with regs := { s.regs with gateQueue := stay } }).each go (fun s w => s.shadowWrite w.off w.val)

/-- A step of spine time to `new`, in units of 2^-40 ns (R50). A forward step that reaches T − 10 ns sets E0 to the 16th CCLK after
it, also where the gate had closed before. DESIGN CHOICE (log 65): a backward step that still lands at or after T − 10 ns leaves the
binding pending, to be armed, gated and fired at its E0 as if time had come there by itself: R50 says only that it proceeds again from
step 1, so its gate may be closed for fewer than 16 CCLK, and it is not late. -/
def State.stepTime (s : State) (new : Nat) : State :=
  let old := s.spine.t40
  let s := { s with spine := { s.spine with t40 := new } }
  if old ≤ new then
    let reached := fun (b : BindReq) => (b.stage == .pending || b.stage == .armed) && decide (t40Of b.t 10 ≤ new)
    let s := s.each (s.regs.binds.filter reached) (fun s b => s.sampleShadow b.groups)
    let s := s.setBinds (s.regs.binds.map (fun b =>
      if reached b then s.gateOf b true
      else if b.stage = .gated ∧ t40Of b.t 10 ≤ new then { b with late := true, due := some (s.cclkNow + 16) }
      else if b.stage = .pending ∧ t40Of b.t 1000 ≤ new then { b with stage := .armed }
      else b))
    s.push (.timeStepped true)
  else
    let s := s.setBinds (s.regs.binds.map (fun b =>
      if b.stage = .pending ∨ b.stage = .armed ∨ b.stage = .gated then
        { b with stage := .pending, late := false, due := none, badShadow := false }
      else b))
    s.applyQueue.push (.timeStepped false)

/-- In HOLDOVER beyond SPN_HOLDOVER_LIMIT.LIMIT (R42). -/
def State.holdoverOver (s : State) : Bool :=
  let limit := s.dirF 0x100028 15 0
  s.spine.servo == .holdover && limit != 0 && decide (limit ≤ s.spine.holdTicks)

/-! ### Measurements and the servo (R37 to R41) -/

/-- The servo after a measurement θ, in units of 2^-40 ns (R40, R41): in FREE and HOLDOVER θ is reported and the estimate held. -/
def State.measure (s : State) (th : Int) : State :=
  let s := { s.acquire with spine := { s.acquire.spine with theta := th, measured := true } }
  if s.spine.servo = .free ∨ s.spine.servo = .holdover then s
  else
    let a := th.natAbs
    let good := if a ≤ 4 * 2 ^ 40 then s.spine.goodRun + 1 else 0
    let bad := if 50 * 2 ^ 40 < a then s.spine.badRun + 1 else 0
    let s := { s with spine := { s.spine with yAcc := s.spine.yAcc + th, goodRun := good, badRun := bad } }
    let s := s.setRate (s.spine.yAcc + 16 * th)
    match s.spine.servo with
    | .acquire =>
      if 100000 * 2 ^ 40 < a ∧ s.dirF 0x100020 2 2 = 1 then s.stepTime ((Int.ofNat s.spine.t40 - th).toNat)
      else if 16 ≤ good then { s with spine := { s.spine with servo := .locked, badRun := 0 } }
      else s
    | .locked => if 4 ≤ bad then { s with spine := { s.spine with servo := .acquire, goodRun := 0 } } else s
    | _ => s

/-- The distance of a time from the nearest instant k × P + D, within ±P/2, all in units of 2^-40 ns. DESIGN CHOICE (log 30): of a time
half-way between two instants it is +P/2, which R37 leaves open. -/
def nearest (t d p : Nat) : Int :=
  let r := (Int.ofNat t - Int.ofNat d) % Int.ofNat p
  if 2 * r ≤ Int.ofNat p then r else r - Int.ofNat p

/-- EXT_DELAY in units of 2^-40 ns (R37). -/
def State.extDelay (s : State) : Nat := s.dirF 0x100024 15 0 * 2 ^ 36

/-- P of R37. -/
def State.clkPeriod (s : State) : Nat := (if s.dirF 0x100020 1 1 = 1 then 40 else 100) * 2 ^ 40

/-- The measurement of an MTICK with the external reference: SPINE_CLK rose `n` CCLK after the MTICK edge (R37). -/
def State.measureExternal (s : State) (n : Nat) : State :=
  let th := match s.spine.ppsTheta with
    | some x => x
    | none => nearest (s.spine.t40 + n * s.spine.inc) s.extDelay s.clkPeriod
  ({ s with spine := { s.spine with ppsTheta := none } }).measure th

/-- θ of a time exchange (R39). Times are in units of 2^-40 ns. DESIGN CHOICE (log 30): R39 does not say how the half of an odd
sum is rounded; it is rounded down. -/
def State.thetaOf (s : State) (p t1 t2 t3 t4 : Nat) : Int :=
  let a := signed 16 (s.dirF (0x100100 + 4 * p) 15 0) * 2 ^ 36
  Int.fdiv ((Int.ofNat t4 - Int.ofNat t3) - (Int.ofNat t2 - Int.ofNat t1) - a) 2

/-- THETA of SPN_OFFSET: θ in units of 2^-8 ns, saturating (R39). DESIGN CHOICE (log 30): R39 does not say how a θ between two
units is shown; it is rounded down. -/
def thetaReg (th : Int) : Nat :=
  let v := Int.fdiv th (2 ^ 32)
  unsigned 32 (if 2 ^ 31 - 1 < v then 2 ^ 31 - 1 else if v < -(2 ^ 31) then -(2 ^ 31) else v)

/-- SPINE_PPS rises (R37): it marks a whole second plus EXT_DELAY, and is no longer lost (R42). DESIGN CHOICE (log 30): a difference
half-way between two multiples of P is rounded up, which R37 leaves open. -/
def State.ppsEdge (s : State) : State :=
  let s := { s with spine := { s.spine with ppsLost := false } }
  if s.spine.ref ≠ .external then s
  else
    let s := ({ s with spine := { s.spine with ppsSeen := true } }).acquire
    match s.spine.loadAtPps with
    | some v =>
      ({ s with spine := { s.spine with loadAtPps := none } }).stepTime (v * 2 ^ 40 + s.extDelay)
    | none =>
      let d := nearest s.spine.t40 s.extDelay (1000000000 * 2 ^ 40)
      if Int.ofNat s.clkPeriod < 2 * Int.ofNat d.natAbs then
        let p := Int.ofNat s.clkPeriod
        { s with spine := { s.spine with ppsTheta := some (Int.fdiv (2 * d + p) (2 * p) * p) } }
      else s

/-! ### Loading (R44) -/

/-- The value that SPN_TIME_SET_LO and HI hold. -/
def State.timeSet (s : State) : Nat := 2 ^ 32 * (s.dir 0x100034).toNat + (s.dir 0x100030).toNat

/-- The device takes its time from the fabric, so loads are refused (R44). -/
def State.loadRefused (s : State) : Bool := s.timeMode == .member

/-- A refused load or group field is counted (R44, R46). -/
def State.spnRefuse (s : State) : State := { s with spine := { s.spine with refusedCount := wrapInc 8 s.spine.refusedCount } }

/-- SPN_TIME_SET_CTL.ACT = 2: load now (R44). -/
def State.loadNow (s : State) : State :=
  if s.loadRefused then s.spnRefuse else s.stepTime (s.timeSet * 2 ^ 40)

/-- SPN_TIME_SET_CTL.ACT = 1: load at the next SPINE_PPS edge (R44); accepted only with the external reference selected and
a whole number of seconds, else treated as a reserved value (R14). DESIGN CHOICE (log 64): R44 does not say what ends a load that
waits; a deselected reference, a mode change or a load made at once leaves it waiting, and a later accepted one replaces it; and a load
at SPINE_PPS while the time comes from the fabric is both a refused load and a write "otherwise" treated as a reserved value: it is
counted as refused, and source 1473 is not raised. -/
def State.loadPps (s : State) : State :=
  if s.loadRefused then s.spnRefuse
  else if s.spine.ref = .external ∧ s.timeSet % 1000000000 = 0 then
    { s with spine := { s.spine with loadAtPps := some s.timeSet } }
  else s.raiseDev 1473 0 { raise0 with block := 1 }

/-! ### Group fields (R46) -/

/-- Some binding of a group is pending (R47). -/
def State.groupPending (s : State) (g : Nat) : Bool := s.regs.binds.any (fun b => bitOf b.groups g)

/-- A write to SPN_UNIT_GROUP_k (R46): each changed field of a group with a pending binding is refused and counted. -/
def State.writeGroups (s : State) (k : Nat) (w : Word) : State :=
  let off := 0x100200 + 4 * k
  let old := s.dir off
  let step := fun (acc : Nat × State) (j : Nat) =>
    let g0 := fld old (8 * j + 4) (8 * j)
    let g1 := fld w (8 * j + 4) (8 * j)
    if g0 = g1 then acc
    else if s.groupPending g0 || s.groupPending g1 then (acc.1, acc.2.spnRefuse)
    else (setBits acc.1 (8 * j + 4) (8 * j) g1, acc.2)
  let r := (List.range 4).foldl step (old.toNat, s)
  r.2.setDir off (BitVec.ofNat 32 r.1)

end Sys2Proof.Machine
end

