-- ==== Sys2Proof/Machine/Binding.lean ====
section
/-!
DEFINITION. Bindings: the decision of R47, withdrawal, and the steps of R48.
-/
namespace Sys2Proof.Machine

/-- SPN_BIND_PENDING (R47). -/
def State.pendingGroups (s : State) : Nat := s.regs.binds.foldl (fun n b => n ||| b.groups) 0

/-- The decision on a binding request (R47). -/
def State.quireBind (s : State) (o : Origin) (groups tns tfrac : Nat) : State :=
  if s.glb.mode = .endpaper then s.done o 0x25
  else if tns % 1000 ≠ 0 ∨ tfrac ≠ 0 then s.done o 0x30
  else if tns * 2 ^ 40 < s.spine.t40 + 4000 * 2 ^ 40 then s.done o 0x31
  else if s.spine.t40 + 2 ^ 36 * 2 ^ 40 < tns * 2 ^ 40 then s.done o 0x32
  else if s.pendingGroups &&& groups ≠ 0 then s.done o 0x33
  else if groups = 0 then s.done o 0x01
  else
    let s := { s with glb := { s.glb with bindAccepted := true } }
    s.setBinds (s.regs.binds ++ [⟨groups, tns, .pending, false, none, false, 0, o⟩])

/-- The withdrawal of a binding (R47): all groups of exactly one accepted request, before T − 1,000 ns. -/
def State.withdraw (s : State) (o : Origin) (groups tns tfrac : Nat) : State :=
  match s.regs.binds.find? (fun b => b.groups == groups && b.t == tns && tfrac == 0) with
  | none => s.done o 0x34
  | some b =>
    if s.spine.t40 < t40Of tns 1000 ∧ b.stage = .pending then
      ((s.setBinds (s.regs.binds.filter (fun c => c != b))).done b.origin 0x03).done o 0
    else s.done o 0x31

/-! ### The steps of R48 -/

/-- Step 1: the bindings of instant T are armed. -/
def State.bindArm (s : State) (t : Nat) : State :=
  if s.regs.binds.any (fun b => b.t == t && b.stage == .pending) then
    let s := s.advanceToNs (t - 1000)
    s.setBinds (s.regs.binds.map (fun b => if b.t = t ∧ b.stage = .pending then { b with stage := .armed } else b))
  else s

/-- Step 2: the write gate closes 16 CCLK before E0. -/
def State.bindGate (s : State) (t : Nat) : State :=
  if s.regs.binds.any (fun b => b.t == t && (b.stage == .pending || b.stage == .armed)) then
    let s := s.advance (s.edgesTo (t * 2 ^ 40) - 16)
    let s := s.each (s.regs.binds.filter (fun b => b.t == t && (b.stage == .pending || b.stage == .armed)))
      (fun s b => s.sampleShadow b.groups)
    s.setBinds (s.regs.binds.map (fun b => if b.t = t ∧ (b.stage = .pending ∨ b.stage = .armed) then s.gateOf b false else b))
  else s

/-- CCLK edges until E0 of the gated bindings of instant T: what a forward step set, or the first edge at or beyond T (R48, R50). -/
def State.edgesToE0 (s : State) (t : Nat) : Nat :=
  match (s.regs.binds.filter (fun b => b.t == t && b.stage == .gated)).findSome? (·.due) with
  | some n => n - s.cclkNow
  | none => s.edgesTo (t * 2 ^ 40)

/-- Step 3: requests with a bad shadow word are cancelled, one CCLK before E0. -/
def State.bindCancel (s : State) (t : Nat) : State :=
  let bad := s.regs.binds.filter (fun b => b.t == t && b.stage == .gated && b.badShadow)
  if bad.isEmpty then s
  else
    let s := s.advance (s.edgesToE0 t - 1)
    let s := { s with spine := { s.spine with parityHold := wrapAdd 8 s.spine.parityHold bad.length } }
    let s := (s.setBinds (s.regs.binds.filter (fun b => !bad.contains b))).applyQueue
    s.each bad (fun s b => s.done b.origin 0x0D)

/-- The words of a quire that belong to some units. -/
def unitWords (us : List Nat) (t : Tbl Word) : Tbl Word :=
  t.filter (fun x => match unitAt x.1 with | some u => us.contains u | none => false)

/-- Replace the words of some units in one quire by those of another. -/
def replaceUnits (us : List Nat) (into src : Tbl Word) : Tbl Word :=
  (unitWords us src).foldl (fun t x => tins t x.1 x.2)
    (into.filter (fun x => match unitAt x.1 with | some u => !us.contains u | none => true))

/-- Offsets of words outside some units. -/
def outsideUnits (us : List Nat) (l : List Nat) : List Nat :=
  l.filter (fun o => match unitAt o with | some u => !us.contains u | none => true)

/-- Offsets of words of some units. -/
def insideUnits (us : List Nat) (l : List Nat) : List Nat :=
  l.filter (fun o => match unitAt o with | some u => us.contains u | none => false)

/-- Step 4, E0: the active selector flips in every unit of every group bound at T (R48, R47, R50). DESIGN CHOICE (log 65): R50 does
not say when LATE_COUNT counts a late binding that is cancelled or stepped back before it fires; it is counted when it fires. -/
def State.bindFlip (s : State) (t : Nat) : State :=
  let go := s.regs.binds.filter (fun b => b.t == t && b.stage == .gated && !b.badShadow)
  if go.isEmpty then s
  else
    let us := s.unitsOf (go.foldl (fun n b => n ||| b.groups) 0)
    let late := (go.filter (·.late)).length
    let unq := if s.spine.servo = .locked then 0 else go.length
    let first := !s.glb.firstBound && !s.glb.firstFired
    let e0 := s.ns
    let s := { s with
      spine := { s.spine with late := wrapAdd 8 s.spine.late late, unqual := wrapAdd 8 s.spine.unqual unq },
      glb := { s.glb with firstFired := true },
      regs := { s.regs with
        old := replaceUnits us s.regs.old s.regs.active,
        active := replaceUnits us s.regs.active s.regs.shadow,
        badActive := (insideUnits us s.regs.badShadow).foldl sadd (outsideUnits us s.regs.badActive),
        latActive := (insideUnits us s.regs.latShadow).foldl sadd (outsideUnits us s.regs.latActive),
        binds := s.regs.binds.map (fun b => if go.contains b then { b with stage := .fired, e0 := e0 } else b) } }
    (s.countDev 10 go.length).push (.bound us first)

/-- The instant T comes (R48 steps 1 to 4): what was not armed or gated yet is, requests with a bad shadow word are
cancelled, and at E0 the others fire. A late binding fires at the 16th CCLK after the step that made it late (R50). -/
def State.bindFire (s : State) (t : Nat) : State :=
  if s.regs.binds.any (fun b => b.t == t && (b.stage == .pending || b.stage == .armed || b.stage == .gated)) then
    let due := (s.regs.binds.filter (fun b => b.t == t && b.stage == .gated)).findSome? (·.due)
    let s := (s.bindArm t).bindGate t
    let s := s.bindCancel t
    (match due with | some n => s.advance (n - s.cclkNow) | none => s.advanceToNs t).bindFlip t
  else s

/-- Step 5: the previous active quire is released, 18 CCLK after E0. -/
def State.bindRelease (s : State) (t : Nat) : State :=
  let go := s.regs.binds.filter (fun b => b.t == t && b.stage == .fired)
  if go.isEmpty then s
  else
    let us := s.unitsOf (go.foldl (fun n b => n ||| b.groups) 0)
    { s with regs := { s.regs with
      old := s.regs.old.filter (fun x => match unitAt x.1 with | some u => !us.contains u | none => false),
      binds := s.regs.binds.map (fun b => if go.contains b then { b with stage := .released } else b) } }

/-- Step 6: copy-forward begins, 32 CCLK after E0. -/
def State.bindCopy (s : State) (t : Nat) : State :=
  let s := s.bindRelease t
  s.setBinds (s.regs.binds.map (fun b => if b.t = t ∧ b.stage = .released then { b with stage := .copying } else b))

/-- Step 7: each shadow quire equals its active quire, a bad word as bad as it was there (DEDUCED, log 54), the gate opens, queued writes are applied, the pending bits clear and
the requests complete as BOUND. -/
def State.bindComplete (s : State) (t : Nat) : State :=
  let s := s.bindCopy t
  let go := s.regs.binds.filter (fun b => b.t == t && b.stage == .copying)
  if go.isEmpty then s
  else
    let us := s.unitsOf (go.foldl (fun n b => n ||| b.groups) 0)
    let s := s.checkActive (fun o => !(insideUnits us [o]).isEmpty)
    let s := { s with regs := { s.regs with
      shadow := replaceUnits us s.regs.shadow s.regs.active,
      badShadow := outsideUnits us s.regs.badShadow,
      latShadow := outsideUnits us s.regs.latShadow ++ insideUnits us s.regs.badActive,
      binds := s.regs.binds.filter (fun b => !go.contains b) } }
    let s := s.applyQueue
    let s := s.each go (fun s b => s.done b.origin 0x01 b.e0)
    if s.glb.firstBound then s else ({ s with glb := { s.glb with firstBound := true } }).push .firstBound

end Sys2Proof.Machine
end

