-- ==== Sys2Proof/Machine/Brodoth.lean ====
section
/-!
DEFINITION. The Brodoth link layer (R213 to R240): credits, sequence numbers and replay, the link slot, fall-back, the
initialisation of R224, and the full link reset of R239. DESIGN CHOICE
(log 79): the spec gives no command for a flit boundary; at the end of each step every ACTIVE link passes one boundary, and as many more
as fit into the CCLK that the step let pass, while there is something new to send. Flits that only repeat what stands (IDLE flits, the
init message of the state) go at every other boundary; a step that lets CCLK pass lists one of them in the outbox.
-/
namespace Sys2Proof.Machine

/-- `a − b` modulo `m`. -/
def modSub (m a b : Nat) : Nat := (a + m - b % m) % m

/-- The buffer class of a channel below 48 (R218). -/
def classOfChannel (c : Nat) : BufClass :=
  match c % 6 with
  | 0 => .p
  | 1 => .np
  | 2 => .cpl
  | 3 => .mreq
  | 4 => .mrsp
  | _ => .mbi

/-- PROTO of a packet (R218). -/
def PktOp.proto : PktOp → Nat
  | .cMemRd | .cMemWr | .cMemWrPtl | .biRsp => 2
  | .ndr | .drs | .biSnp => 3
  | _ => 1

/-- Data credits of a packet (R225). -/
def dataCredits (plen : Nat) : Nat := (plen + 63) / 64

/-! ### Credits (R225 to R228) -/

/-- The advertisement of a channel (R225). -/
def State.advertise (s : State) (p c : Nat) : Nat × Nat :=
  if c = 48 then (s.actF 0x404000 7 0, 0)
  else let r := s.tcReserve p (classOfChannel c); (r / 4, r - r / 4)

/-- The own advertisement of a channel as given at the last initialisation. -/
def BflPort.own (b : BflPort) (c : Nat) : Nat × Nat := b.ownAdv.getD c (0, 0)

/-- The partner's advertisement of a channel. -/
def BflPort.theirs (b : BflPort) (c : Nat) : Nat × Nat := b.partnerAdv.getD c (0, 0)

/-- Header and data credits that packets of a channel still hold at this receiver (R113, R128, R227): those charged to the reserve,
held before decode or after it, completed in the flit at hand, or not yet whole. An FMP holds its credit until it is whole. -/
def State.creditsHeld (s : State) (p c : Nat) : Nat × Nat :=
  let inBuf := s.path.packets.filter (fun x =>
    x.2.charge == .reserve p (classOfChannel c) && x.2.tc == c / 6 && x.2.session == s.bflSession p && decide (c < 48))
  let held := s.path.heldRx.filter (fun x => x.rx.port == p && x.rx.tc == c / 6 && x.rx.tlp.op.bufClass.code == c % 6 && decide (c < 48))
  let out := s.path.heldOut.filter (fun x =>
    x.pkt.ingress == .port p && x.pkt.tc == c / 6 && x.pkt.tlp.op.bufClass.code == c % 6 && decide (c < 48))
  let whole := s.actions.filterMap (fun x => match x with
    | .arrive y => if y.port = p ∧ y.tc = c / 6 ∧ y.tlp.op.bufClass.code = c % 6 ∧ c < 48 then some (dataCredits y.tlp.payload.length) else none
    | .fmp q _ => if q = p ∧ c = 48 then some 0 else none
    | _ => none)
  let part : Nat × Nat := match (s.bfl p).part with
    | some x => if 6 * x.bph.tc.val + x.bph.bclass.val = c then (1, dataCredits x.bph.plen.val) else (0, 0)
    | none => (0, 0)
  let partF := b2n (c == 48 && (s.bfl p).partFmp.isSome)
  (inBuf.length + held.length + out.length + whole.length + part.1 + partF,
   inBuf.foldl (fun n x => n + (x.2.cells - 1)) 0 + held.foldl (fun n x => n + dataCredits x.rx.tlp.payload.length) 0
    + out.foldl (fun n x => n + dataCredits x.pkt.tlp.payload.length) 0 + whole.foldl (· + ·) 0 + part.2)

/-- ALLOC of a channel (R226, R227): the advertisement, and everything received that has freed its credits. -/
def State.alloc (s : State) (p c : Nat) : Nat × Nat :=
  let b := s.bfl p
  (((b.own c).1 + tget 0 b.rcvH c + 65536 - (s.creditsHeld p c).1 % 65536) % 65536,
   ((b.own c).2 + tget 0 b.rcvD c + 65536 - (s.creditsHeld p c).2 % 65536) % 65536)

/-- The transmitter may send a packet of `d` data credits on a channel (R226, R236). -/
def State.bflCredit (s : State) (p c d : Nat) : Bool :=
  let b := s.bfl p
  if b.fbTx then !bitOf b.xoffIn c
  else decide (modSub 65536 (tget 0 b.limH c) (tget 0 b.usedH c + 1) ≤ 32767)
    && decide (modSub 65536 (tget 0 b.limD c) (tget 0 b.usedD c + d) ≤ 32767)

/-- The receiver counts a packet's credits (R227). One beyond its grant raises the BFL credit source and puts the receive
direction into fall-back (R228). -/
def State.bflReceive (s : State) (p c d : Nat) : State :=
  let b := s.bfl p
  let tooFew := !b.fbRx && (decide ((b.own c).1 < (s.creditsHeld p c).1 + 1) || decide ((b.own c).2 < (s.creditsHeld p c).2 + d))
  let s := s.modBfl p (fun b => { b with
    rcvH := tmod 0 b.rcvH c (fun n => wrapInc 16 n), rcvD := tmod 0 b.rcvD c (fun n => wrapAdd 16 n d) })
  if tooFew then (s.modBfl p (fun b => { b with fbRx := true })).raiseDev 1489 0 { raise0 with port := some p } else s

/-! ### The link slot (R215, R216, R227, R231, R236) -/

/-- HR of R236: B is 8 bytes per ns and lane, TF 32 ns over the width. -/
def State.headRoom (s : State) (p : Nat) : Nat := (((s.bfl p).rtt + 80) * (s.port p).width + 64 + 7) / 8 + 9

/-- What is free of a channel's reserve, and its HR (R236): in cells, on channel 48 in FMPs of the advertisement. -/
def State.xoffRoom (s : State) (p c : Nat) : Nat × Nat :=
  if c = 48 then (((s.bfl p).own 48).1 - (s.creditsHeld p 48).1, 4)
  else (s.tcReserve p (classOfChannel c) - s.tcReserved p (classOfChannel c) (c / 6), s.headRoom p)

/-- The XOFF map of the receive direction, with the hysteresis of R236. DESIGN CHOICE (log 97): on channel 48 XOFF is cleared as soon as
4 FMPs are free: HR + 16 may exceed what is advertised. -/
def State.xoffMap (s : State) (p : Nat) : Nat :=
  (List.range 49).foldl (fun n c =>
    let r := s.xoffRoom p c
    let x := if r.1 < r.2 then true else if c = 48 || decide (r.2 + 16 ≤ r.1) then false else bitOf (s.bfl p).xoffOut c
    n + b2n x * 2 ^ c) 0

/-- The credit update of a channel (R215). -/
def State.creditUpd (s : State) (p c : Nat) : CreditUpd :=
  ⟨Fin.ofNat 64 c, Fin.ofNat 65536 (s.alloc p c).1, Fin.ofNat 65536 (s.alloc p c).2⟩

/-- The next channel, in ascending cyclic order, whose ALLOC differs from what was last told (R227). -/
def State.changedChannel (s : State) (p : Nat) : Option Nat :=
  let b := s.bfl p
  ((List.range 49).map (fun i => (b.u0At + 1 + i) % 49)).find? (fun c =>
    (s.alloc p c).1 != (tfind b.toldH c).getD (b.own c).1 || (s.alloc p c).2 != (tfind b.toldD c).getD (b.own c).2)

/-- What a link slot tells of a channel is remembered (R227). -/
def State.told (s : State) (p c : Nat) : State :=
  let a := s.alloc p c
  s.modBfl p (fun b => { b with toldH := tins b.toldH c a.1, toldD := tins b.toldD c a.2 })

/-- The link slot of a flit sent now (R216): acknowledgement or the NAK that is due (R231), and credit updates or the XOFF map. Before
ACTIVE it carries none (R224). -/
def State.linkSlot (s : State) (p : Nat) : LinkSlot × State :=
  let b := s.bfl p
  if b.phase ≠ .active then (⟨0, 0, false, none, none, 0⟩, s)
  else
    let an : Fin 4 := if b.nakDue then 2 else 1
    let sq := Fin.ofNat 4096 (b.next + 4095)
    let s := s.modBfl p (fun b => { b with
      nakDue := false, nakSent := if b.nakDue then wrapInc 8 b.nakSent else b.nakSent, toldNext := b.next, toldFb := b.fbRx })
    if b.fbRx then
      let m := s.xoffMap p
      (⟨an, sq, true, none, none, BitVec.ofNat 49 m⟩, s.modBfl p (fun b => { b with xoffOut := m }))
    else
      let c1 := (b.u1At + 1) % 49
      let u0 := s.changedChannel p
      let slot : LinkSlot := ⟨an, sq, false, u0.map (s.creditUpd p), some (s.creditUpd p c1), 0⟩
      let s := match u0 with | some c => (s.told p c).modBfl p (fun b => { b with u0At := c }) | none => s
      (slot, (s.told p c1).modBfl p (fun b => { b with u1At := c1 }))

/-- The SEQ of an unsequenced flit: that of the last sequenced one, 4,095 when none was sent (R214). -/
def BflPort.lastSeq (b : BflPort) : Nat := (b.seq + 4095) % 4096

/-- Send an IDLE flit, for its link slot (R214, R234). -/
def State.sendIdle (s : State) (p : Nat) : State :=
  let r := s.linkSlot p
  r.2.out (.idle p (s.bfl p).lastSeq r.1)

/-- Send a LINK flit (R214, R216, R222). -/
def State.sendLink (s : State) (p : Nat) (m : LinkMsg) : State :=
  let r := s.linkSlot p
  r.2.out (.link p (s.bfl p).lastSeq m r.1)

/-! ### Sending (R219, R221, R229, R233, R234) -/

/-- Cut a list into stretches of `n`. -/
def chunks {α : Type} (n : Nat) : Nat → List α → List (List α)
  | 0, _ => []
  | k + 1, l => if l.isEmpty then [] else l.take n :: chunks n k (l.drop n)

/-- The slots of a packet (R217): its BPH, PHS + 1 slots of its protocol header, and its payload in 16-byte slots. -/
def packetSlots (h : Bph) (t : Tlp) (ld : Option Nat) : List FlitSlot :=
  .start h :: List.replicate (1 + b2n h.phs) (.header { t with payload := [] } ld) ++ (chunks 16 32 t.payload).map FlitSlot.data

/-- A flit with its sequence number. -/
def SeqFlit.number : SeqFlit → Nat
  | .data n _ _ => n
  | .mgmt n _ _ => n

/-- Send one sequenced flit and keep it for replay (R229, R233). -/
def State.sendSeq (s : State) (p : Nat) (f : Nat → SeqFlit) : State :=
  let b := s.bfl p
  let x := f b.seq
  let s := (s.modBfl p (fun b => { b with seq := (b.seq + 1) % 4096, replay := b.replay ++ [x] })).countPort p 17
  let r := s.linkSlot p
  r.2.out (.flit p x r.1)

/-- The BPH of a packet (R217); `phs`: its protocol header takes two slots. -/
def bphOf (t : Tlp) (srcFid dstFid tc ttl : Nat) (phs : Bool) : Bph :=
  { proto := Fin.ofNat 8 t.op.proto, tc := Fin.ofNat 8 tc, bclass := Fin.ofNat 8 t.op.bufClass.code, synth := t.synth, phs := phs,
    plen := Fin.ofNat 1024 t.payload.length, ttl := Fin.ofNat 16 ttl, dest := Fin.ofNat 4096 dstFid, src := Fin.ofNat 4096 srcFid }

/-- The channel of a BPH (R218). -/
def Bph.channel (h : Bph) : Nat := 6 * h.tc.val + h.bclass.val

/-- Slots of a packet follow those of the packets before it (R219). -/
def State.queueSlots (s : State) (p : Nat) (l : List (FlitSlot × Bool)) : State :=
  s.modBfl p (fun b => { b with txSlots := b.txSlots ++ l })

/-- A packet leaves on a fabric port (R217). Whether its protocol header, up to 32 bytes (R109), takes one slot or two is a free value
(log 79): the spec does not give the headers that the transaction engines hold. -/
def State.bflSend (s : State) (p : Nat) (t : Tlp) (ld : Option Nat) (srcFid : Nat) (dstFid : Option Nat) (tc ttl : Nat) : State :=
  let r := s.drawBelow 2
  r.2.queueSlots p ((packetSlots (bphOf t srcFid (dstFid.getD 0) tc ttl (r.1 == 1)) t ld).map (fun x => (x, false)))

/-- A packet is tail-marked after `got` bytes of its payload (R219): the last slot sent is the one marked. -/
def State.bflTail (s : State) (p : Nat) (t : Tlp) (ld : Option Nat) (srcFid : Nat) (dstFid : Option Nat) (tc ttl got : Nat) : State :=
  let r := s.drawBelow 2
  let l := (packetSlots (bphOf t srcFid (dstFid.getD 0) tc ttl (r.1 == 1)) t ld).take (2 + r.1 + (got + 15) / 16)
  r.2.queueSlots p (l.zipIdx.map (fun x => (x.1, decide (x.2 + 1 = l.length))))

/-- The words of an FMP (R191). -/
def Fmp.words (f : Fmp) : List Quad :=
  let h := f.typ.val + 16 * f.version.val + 256 * f.hopCount.val + 4096 * f.hopPtr.val + 2 ^ 16 * f.seq.val + 2 ^ 32 * f.path.toNat
    + 2 ^ 80 * f.ret.toNat
  natQuads 2 h ++ [f.source, f.dest] ++ f.body

/-- The FMP that words spell (R191). -/
def fmpOf (ws : List Quad) : Fmp :=
  let h := quadsNat (ws.take 2)
  { version := Fin.ofNat 16 (bitsOf h 7 4), typ := Fin.ofNat 16 (bitsOf h 3 0), hopPtr := Fin.ofNat 16 (bitsOf h 15 12),
    hopCount := Fin.ofNat 16 (bitsOf h 11 8), seq := Fin.ofNat 65536 (bitsOf h 31 16), path := BitVec.ofNat 48 (bitsOf h 79 32),
    ret := BitVec.ofNat 48 (bitsOf h 127 80), source := ws.getD 2 0, dest := ws.getD 3 0, body := ws.drop 4 }

/-- Body length of an FMP type, in 64-bit words (R192). -/
def fmpBody (typ : Nat) : Nat :=
  match typ with
  | 1 => 4
  | 2 => 60
  | 5 => 8
  | 6 => 4
  | 7 => 2
  | _ => 0

/-- Send an FMP on a port whose Brodoth link is active (R190); it waits for its flit boundary and for credit, behind earlier ones. -/
def State.fmpSend (s : State) (p : Nat) (f : Fmp) : State :=
  if (s.bfl p).phase = .active ∧ s.glb.mode ≠ .test then s.modBfl p (fun b => { b with waiting := b.waiting ++ [f] }) else s

/-- Header and data credits of a channel for the packets chosen whose BPH is not in a flit yet. -/
def BflPort.chosen (b : BflPort) (c : Nat) : Nat × Nat :=
  b.txSlots.foldl (fun n x => match x.1 with
    | .start h => if h.channel = c then (n.1 + 1, n.2 + dataCredits h.plen.val) else n
    | _ => n) (0, 0)

/-- A Brodoth port can take a queued entry now: new DATA flits may go, and the next has a slot left (R121, R226, R232, R233, R236). -/
def State.bflAccepts (s : State) (p : Nat) (e : QEntry) : Bool :=
  match tfind s.path.packets e.pkt with
  | some x =>
    let b := s.bfl p
    let c := 6 * x.tc + x.tlp.op.bufClass.code
    let n := b.chosen c
    (if b.fbTx then !bitOf b.xoffIn c
     else decide (modSub 65536 (tget 0 b.limH c) (tget 0 b.usedH c + n.1 + 1) ≤ 32767)
       && decide (modSub 65536 (tget 0 b.limD c) (tget 0 b.usedD c + n.2 + dataCredits x.tlp.payload.length) ≤ 32767))
      && b.replayAt.isNone && decide (b.replay.length < 2047) && decide (b.txSlots.length < 14)
  | none => false

/-! ### Flit boundaries (R234) -/

/-- The slots of an FMP (R221): the first is marked. -/
def Fmp.slots (f : Fmp) : List (List Quad × Bool) := (chunks 2 32 f.words).zipIdx.map (fun x => (x.1, x.2 == 0))

/-- FMPs are taken into the next MGMT flit while it has room and channel 48 has credit or XON (R226, R236). -/
def State.fillMgmt (s : State) (p : Nat) : Nat → State
  | 0 => s
  | n + 1 =>
    match (s.bfl p).waiting with
    | [] => s
    | f :: fs =>
      if (s.bfl p).txMgmt.length < 14 ∧ s.bflCredit p 48 0 then
        State.fillMgmt (s.modBfl p (fun b => { b with
          waiting := fs, txMgmt := b.txMgmt ++ f.slots, usedH := tmod 0 b.usedH 48 (fun n => wrapInc 16 n) })) p n
      else s

/-- The MARK field of some slots (R214). -/
def markBits (l : List Bool) : Nat := l.zipIdx.foldl (fun n x => n + b2n x.1 * 2 ^ x.2) 0

/-- A new MGMT flit (R221, R234): slots outside any FMP are zero. -/
def State.sendMgmt (s : State) (p : Nat) : State :=
  let s := s.fillMgmt p (s.bfl p).waiting.length
  let l := (s.bfl p).txMgmt.take 14
  let l := l ++ List.replicate (14 - l.length) ([0, 0], false)
  (s.modBfl p (fun b => { b with txMgmt := b.txMgmt.drop 14, sinceMgmt := 0 })).sendSeq p
    (fun n => .mgmt n (markBits (l.map (·.2))) (l.flatMap (·.1)))

/-- A new DATA flit (R219): slots after the last packet are NULL. A packet's credits are used when its BPH is placed (R226). -/
def State.sendData (s : State) (p : Nat) : State :=
  let l := (s.bfl p).txSlots.take 14
  let l := l ++ List.replicate (14 - l.length) (.null, false)
  let s := s.modBfl p (fun b => { b with txSlots := b.txSlots.drop 14, sinceMgmt := min 3 (b.sinceMgmt + 1) })
  let s := s.each l (fun s x => match x.1 with
    | .start h => s.modBfl p (fun b => { b with
        usedH := tmod 0 b.usedH h.channel (fun n => wrapInc 16 n),
        usedD := tmod 0 b.usedD h.channel (fun n => wrapAdd 16 n (dataCredits h.plen.val)) })
    | _ => s)
  s.sendSeq p (fun n => .data n (markBits (l.map (·.2))) (l.map (·.1)))

/-- The next flit of a replay in progress (R232): it goes with a new link slot (R216). -/
def State.sendReplay (s : State) (p k : Nat) (f : SeqFlit) : State :=
  let s := s.modBfl p (fun b => { b with
    replayAt := if k + 1 < b.replay.length then some (k + 1) else none, sinceMgmt := min 3 (b.sinceMgmt + 1) })
  let r := s.linkSlot p
  r.2.out (.flit p f r.1)

/-- A link slot sent now would tell something new: a NAK or an acknowledgement, a credit update, fall-back or its map (R227, R231,
R236). -/
def State.slotNews (s : State) (p : Nat) : Bool :=
  let b := s.bfl p
  b.nakDue || b.toldNext != b.next
    || (if b.fbRx then !b.toldFb || s.xoffMap p != b.xoffOut else (s.changedChannel p).isSome)

/-- One flit boundary of an ACTIVE link (R234 items 3 to 6); none where the flit would repeat what stands. New DATA flits go only in modes
that carry them (Across the modes). -/
def State.boundary (s : State) (p : Nat) : Option State :=
  let b := s.bfl p
  let room := decide (b.replay.length < 2047)
  let mgmt := (!b.txMgmt.isEmpty || (!b.waiting.isEmpty && s.bflCredit p 48 0)) && (b.txSlots.isEmpty || !s.dataOn || decide (3 ≤ b.sinceMgmt))
  if b.phase ≠ .active then none
  else match b.replayAt.bind (fun k => b.replay[k]?.map (fun f => (k, f))) with
    | some x => some (s.sendReplay p x.1 x.2)
    | none =>
      if room && mgmt then some (s.sendMgmt p)
      else if room && !b.txSlots.isEmpty && s.dataOn then some (s.sendData p)
      else if s.slotNews p then some ((s.modBfl p (fun b => { b with sinceMgmt := min 3 (b.sinceMgmt + 1) })).sendIdle p)
      else none

/-- At most n flit boundaries, while there is something to send. -/
def State.boundaries (p : Nat) : Nat → State → State
  | 0, s => s
  | n + 1, s => match s.boundary p with | some t => State.boundaries p n t | none => s

/-! ### Sequence check, acknowledgement and replay (R230 to R232) -/

/-- An event calls for a NAK (R231): the next link slot carries it, unless one is pending. -/
def State.callNak (s : State) (p : Nat) : State :=
  if (s.bfl p).nakPending ∨ (s.bfl p).phase ≠ .active then s
  else s.modBfl p (fun b => { b with nakPending := true, nakDue := true })

/-- The check of a sequenced flit (R230): whether it is accepted. -/
def State.seqCheck (s : State) (p sq : Nat) : Bool × State :=
  let d := modSub 4096 sq (s.bfl p).next
  if d = 0 then
    (true, (s.modBfl p (fun b => { b with next := (b.next + 1) % 4096, nakPending := false, nakDue := false })).countPort p 18)
  else if 2048 ≤ d then (false, s.modBfl p (fun b => { b with duplicates := wrapInc 8 b.duplicates }))
  else (false, s.callNak p)

/-- The check of an unsequenced flit, IDLE or LINK (R230). -/
def State.idleCheck (s : State) (p sq : Nat) : State :=
  if modSub 4096 sq (s.bfl p).next ≤ 2047 then s.callNak p else s

/-- Start a full link reset (R239): LINK_RESET goes out while the physical layer is in L0, and the port trains again. A link
whose physical layer is not in L0 is only counted. -/
def State.bflReset (s : State) (p : Nat) : State :=
  if s.role p ≠ .fabric then s
  else if (s.port p).sup = .up ∨ (s.port p).sup = .held then
    (s.each (List.range 4) (fun s _ => s.sendLink p .linkReset)).portDetect p
  else s.modBfl p (fun b => { b with resets := wrapInc 8 b.resets })

/-- Step 3 and 4 of R239 and the return to DOWN: replay buffer, credits, sequence numbers and fall-back are cleared; a packet
partly received is treated under R127. Counts stay. -/
def State.bflClear (s : State) (p : Nat) : State :=
  let b := s.bfl p
  let s := if b.part.isSome then s.countPort p 11 else s
  s.modBfl p (fun b => { bfl0 with
    session := b.session, ctl := b.ctl, crcErr := b.crcErr, nakSent := b.nakSent, replays := b.replays, resets := wrapInc 8 b.resets,
    duplicates := b.duplicates, tailBad := b.tailBad, overflow := b.overflow, discarded := b.discarded, reqId := b.reqId })

/-- Start a replay of every flit outstanding (R232), the first at the next flit boundary. -/
def State.startReplay (s : State) (p : Nat) : State :=
  let b := s.bfl p
  if b.replay.isEmpty then s
  else if b.starts = fld b.ctl 27 24 then (s.raisePort p 9).push (.bflReset p)
  else s.modBfl p (fun b => { b with replayAt := some 0, starts := b.starts + 1, replays := wrapInc 8 b.replays })

/-- The number of the flit before the oldest outstanding one: the acknowledgement held (R216, R232). -/
def BflPort.acked (b : BflPort) : Nat := (b.seq + 8191 - b.replay.length) % 4096

/-- Remove the flits up to and including `a` (R232). A value that is not newer is ignored (R216). -/
def State.bflAck (s : State) (p a : Nat) : State :=
  let b := s.bfl p
  let k := modSub 4096 a b.acked
  if 1 ≤ k ∧ k ≤ b.replay.length then
    s.modBfl p (fun b => { b with
      replay := b.replay.drop k, starts := 0,
      replayAt := b.replayAt.bind (fun j => if k < b.replay.length then some (j - k) else none) })
  else s

/-- A NAK (R232): it acknowledges, and every flit after it is sent again; a replay in progress that has not come to the first of them
yet goes on. -/
def State.bflNak (s : State) (p a : Nat) : State :=
  let b := s.bfl p
  let k := modSub 4096 a b.acked
  if k ≤ b.replay.length then
    let t := s.bflAck p a
    if b.replayAt.all (fun j => decide (k < j)) then t.startReplay p else t
  else s

/-- A credit update (R216, R226). -/
def State.bflUpdate (s : State) (p : Nat) (u : CreditUpd) : State :=
  let b := s.bfl p
  let c := u.ch.val
  let newer := fun (held new : Nat) => decide (1 ≤ modSub 65536 new held ∧ modSub 65536 new held ≤ 32767)
  let lh := if newer (tget 0 b.limH c) u.hdr.val then u.hdr.val else tget 0 b.limH c
  let ld := if newer (tget 0 b.limD c) u.data.val then u.data.val else tget 0 b.limD c
  if b.fbTx ∨ 48 < c ∨ (lh = tget 0 b.limH c ∧ ld = tget 0 b.limD c) then s
  else if (b.theirs c).1 < modSub 65536 lh (tget 0 b.usedH c) ∨ (b.theirs c).2 < modSub 65536 ld (tget 0 b.usedD c) then
    s.raiseDev 1489 0 { raise0 with port := some p }
  else s.modBfl p (fun b => { b with limH := tput 0 b.limH c lh, limD := tput 0 b.limD c ld })

/-- An XOFF map (R235, R236): the transmitter leaves credit accounting. -/
def State.bflXoff (s : State) (p : Nat) (m : Nat) : State :=
  s.modBfl p (fun b => { b with fbTx := true, xoffIn := m })

/-- The receiver acts on the link slot of every flit that is not bad (R216). -/
def State.onSlot (s : State) (p : Nat) (l : LinkSlot) : State :=
  if (s.bfl p).phase ≠ .active then s
  else
    let s := match l.an.val with
      | 1 => s.bflAck p l.anSeq.val
      | 2 => s.bflNak p l.anSeq.val
      | _ => s
    if l.fb then s.bflXoff p l.xoff.toNat
    else s.each (l.u0.toList ++ l.u1.toList) (fun s u => s.bflUpdate p u)

/-! ### Initialisation (R224) -/

/-- The common part of the own init messages (R223). -/
def State.ownFb (s : State) (p : Nat) : Bool := bitOf (s.bfl p).ctl.toNat 31

/-- The init message of the state is sent. -/
def State.sendInit (s : State) (p : Nat) : State :=
  let b := s.bfl p
  let w := (s.port p).width
  match b.phase with
  | .id => s.sendLink p (.initId p (s.ownFb p) s.glb.serial w)
  | .credit => s.sendLink p (.initCredit p (s.ownFb p) s.glb.serial w b.ownAdv)
  | .done => s.sendLink p (.initDone p (s.ownFb p) s.glb.serial w b.ownAdv)
  | _ => s

/-- A flit that repeats what stands (R224, R234 items 1 and 6): the init message of the state, and IDLE in HELD and in ACTIVE. -/
def State.repeatFlit (s : State) (p : Nat) : State :=
  match (s.bfl p).phase with
  | .down => s
  | .held | .active => s.sendIdle p
  | _ => s.sendInit p

/-- The flit boundaries of a step in which `n` CCLK passed: a flit of 256 bytes takes 51.2 CCLK divided by the width at 64 GT/s (R213,
R25). No more are looked at than there is work for; where there is none and CCLK passed, a flit that repeats what stands. -/
def State.flitPump (s : State) (n : Nat) : State :=
  s.each s.fabric.links (fun s x =>
    let work := x.2.replay.length + x.2.txSlots.length + x.2.txMgmt.length + 32 * x.2.waiting.length + 64
    if (s.boundary x.1).isSome then State.boundaries x.1 (min (1 + n * (s.port x.1).width * 10 / 512) work) s
    else if n = 0 then s
    else s.repeatFlit x.1)

/-- Initialisation begins, or waits in HELD while the port is flushed (R224, R133). The settings are taken now (R240). -/
def State.bflStart (s : State) (p : Nat) : State :=
  if s.flushing p then s.modBfl p (fun b => { b with phase := .held })
  else
    let s := s.modBfl p (fun b => { b with
      phase := .id, ctl := s.act (0x400000 + 0x100 * p), ownAdv := (List.range 49).map (s.advertise p) })
    s.sendInit p

/-- A TIME_REQ is sent (R237, R238). -/
def State.sendTimeReq (s : State) (p : Nat) : State :=
  let id := ((s.bfl p).reqId + 1) % 256
  (s.modBfl p (fun b => { b with reqId := id, req := some (s.spine.t40 / 2 ^ 24) })).sendLink p (.timeReq id)

/-- SPN_STATUS.HOPS (R42): in MEMBER, and in QUIESCED entered from it, the upstream neighbour's HOPS plus 1. -/
def State.hops (s : State) : Nat :=
  match s.timeMode, s.fabric.upstream with
  | .member, some _ => min (s.fabric.upHops + 1) 15
  | _, _ => 0

/-- A TIME_RSP is sent (R237): t2 as taken, t3 now, HOPS and STATE as they stand. -/
def State.sendTimeRsp (s : State) (p id t2 delay : Nat) : State :=
  let st := match s.spine.servo with | .free => 0 | .acquire => 1 | .locked => 2 | .holdover => 3
  s.sendLink p (.timeRsp id s.hops st (t2 / 2 ^ 24) ((s.spine.t40 + delay * s.spine.inc) / 2 ^ 24))

/-- The TIME_REQs that waited are answered (R234, R237). -/
def State.timeAnswers (s : State) (p : Nat) : State :=
  (s.modBfl p (fun b => { b with timeDue := [] })).each (s.bfl p).timeDue (fun s x => s.sendTimeRsp p x.1 x.2.1 x.2.2)

/-- DONE to ACTIVE (R224, R226, R229, R235, R238). -/
def State.bflActivate (s : State) (p : Nat) : State :=
  let s := s.modBfl p (fun b => { b with
    phase := .active, session := b.session + 1,
    usedH := [], usedD := [], rcvH := [], rcvD := [], toldH := [], toldD := [], u0At := 48, u1At := 48,
    limH := tputs 0 [] ((List.range 49).map (fun c => (c, (b.theirs c).1))),
    limD := tputs 0 [] ((List.range 49).map (fun c => (c, (b.theirs c).2))),
    next := 0, nakPending := false, nakDue := false, toldNext := 0, toldFb := false, seq := 0, replay := [], replayAt := none, starts := 0,
    fbRx := bitOf b.ctl.toNat 31, fbTx := false, xoffIn := 0, xoffOut := 0, part := none, partFmp := none, waiting := [], txSlots := [],
    txMgmt := [], sinceMgmt := 3 })
  (((s.modPort p (fun x => { x with dllActive := true })).sendTimeReq p).timeAnswers p).push (.bflActive p)

/-- Any IDLE, DATA or MGMT flit in DONE makes the link ACTIVE (R224). -/
def State.bflWake (s : State) (p : Nat) : State := if (s.bfl p).phase = .done then s.bflActivate p else s

/-- The partner's common part is recorded. -/
def State.bflPartner (s : State) (p : Nat) (m : InitMsg) : State :=
  s.modBfl p (fun b => { b with partnerPort := m.port.val, partnerSerial := m.serial.toNat, partnerWidth := m.width.val, partnerFb := m.fbReq })

/-- The partner's advertisement is recorded and the state becomes DONE. -/
def State.bflDone (s : State) (p : Nat) (m : InitMsg) : State :=
  let s := (s.bflPartner p m).modBfl p (fun b => { b with
    phase := .done, partnerAdv := m.adv.map (fun a => (a.1.val, a.2.val)) })
  s.sendInit p

/-- An init message received (R224); `kind` is its CTYPE. -/
def State.bflInit (s : State) (p kind : Nat) (m : InitMsg) : State :=
  match (s.bfl p).phase with
  | .active => s.push (.bflReset p)
  | .id | .credit | .done =>
    if m.version.val ≠ 1 then (s.modBfl p (fun b => { b with discarded := wrapInc 8 b.discarded })).raisePort p 8
    else match (s.bfl p).phase, kind with
      | .id, 1 => ((s.bflPartner p m).modBfl p (fun b => { b with phase := .credit })).sendInit p
      | .id, 2 | .credit, 2 | .id, 3 | .credit, 3 => s.bflDone p m
      | .done, 3 => s.bflActivate p
      | _, _ => s
  | _ => s

/-- The init timer expires (R224). -/
def State.bflInitTimeout (s : State) (p : Nat) : State :=
  match (s.bfl p).phase with
  | .id | .credit | .done => (s.raiseDev 1488 0 { raise0 with port := some p }).push (.bflReset p)
  | _ => s

/-! ### Receiving (R217 to R221, R230) -/

/-- What came of a packet of a Brodoth link, with the payload that PLEN says (R217, R219). -/
def PartialPkt.rx (x : PartialPkt) (p : Nat) (t : Tlp) (ld : Option Nat) : Rx :=
  { port := p, tlp := { t with payload := x.bytes.take x.bph.plen.val, synth := x.bph.synth }, srcFid := x.bph.src.val,
    dstFid := some x.bph.dest.val, ttl := x.bph.ttl.val, tc := x.bph.tc.val, ld := ld }

/-- A packet is whole: it goes to the transaction engine, with the payload that PLEN says (R219). SYNTH travels unchanged. -/
def State.bflDeliver (s : State) (p : Nat) (x : PartialPkt) : State :=
  match x.tlp, x.drop with
  | some (t, ld), false =>
    s.push (.arrive (x.rx p t ld))
  | _, _ => s

/-- The shared pool lacks cells for a packet whose reserve is full in fall-back (R236). -/
def State.fallbackFull (s : State) (p : Nat) (c : BufClass) (tc cells : Nat) : Bool :=
  (s.bfl p).fbRx && decide (s.tcReserve p c < s.tcReserved p c tc + cells) && decide (s.poolSize < s.poolUsed + cells)

/-- A packet arrives: its credits are counted; one that finds no cell in fall-back is dropped (R227, R228, R236). The answer
is whether it is kept. -/
def State.bflCount (s : State) (p : Nat) (c : BufClass) (tc plen : Nat) : Bool × State :=
  let s := s.bflReceive p (6 * tc + c.code) (dataCredits plen)
  if s.fallbackFull p c tc (cellsOf plen) then
    (false, (s.modBfl p (fun b => { b with overflow := wrapInc 8 b.overflow })).raiseDev 1491 0 { raise0 with port := some p })
  else (true, s)

/-- A BPH whose packet's length or channel is unknown (R218). -/
def Bph.unknown (h : Bph) : Bool := decide (3 < h.proto.val) || decide (5 < h.bclass.val) || decide (512 < h.plen.val)

/-- A packet arrived tail-marked (R127, R219): it is dropped and counted, and its credits are freed; the mark goes on where its header
came. -/
def State.tailBad (s : State) (p : Nat) (q : Option PartialPkt) : State :=
  let s := (s.modBfl p (fun b => { b with part := none, tailBad := wrapInc 8 b.tailBad })).countPort p 11
  match q with
  | some q => (match q.tlp, q.drop with | some (t, ld), false => s.push (.tailMarked (q.rx p t ld)) | _, _ => s)
  | none => s

/-- One slot of an accepted DATA flit (R217, R219); `mark` is its MARK bit. -/
def State.bflSlot (s : State) (p : Nat) (x : FlitSlot) (mark : Bool) : State :=
  match (s.bfl p).part with
  | none =>
    match x with
    | .start h =>
      if h.proto = 0 then s
      else
        let r := s.bflCount p (classOfChannel h.bclass.val) h.tc.val h.plen.val
        if mark then r.2.tailBad p none
        else r.2.modBfl p (fun b => { b with part := some ⟨h, none, 1 + b2n h.phs + (h.plen.val + 15) / 16, [], !r.1⟩ })
    | _ => s
  | some q =>
    let y : PartialPkt := match x with
      | .header t ld => { q with tlp := q.tlp <|> some (t, ld), left := q.left - 1 }
      | .data bs => { q with bytes := q.bytes ++ bs, left := q.left - 1 }
      | _ => { q with left := q.left - 1 }
    if mark then s.tailBad p (some y)
    else if y.left = 0 then (s.modBfl p (fun b => { b with part := none })).bflDeliver p y
    else s.modBfl p (fun b => { b with part := some y })

/-- The slots of an accepted DATA flit, each with its MARK bit. A BPH that tells no length or channel ends it with a full link reset
(R218). -/
def State.bflSlots (p : Nat) : List (FlitSlot × Bool) → State → State
  | [], s => s
  | x :: xs, s =>
    if (s.bfl p).part.isNone && (match x.1 with | .start h => h.unknown | _ => false) then (s.raisePort p 8).push (.bflReset p)
    else State.bflSlots p xs (s.bflSlot p x.1 x.2)

/-- One 16-byte slot of an accepted MGMT flit (R221); `mark` says that an FMP starts in it. An FMP of a reserved version or
type is discarded up to the next start. -/
def State.mgmtSlot (s : State) (p : Nat) (ws : List Quad) (mark : Bool) : State :=
  let cur : Option PartialFmp :=
    if mark then
      let f := fmpOf ws
      if f.version.val = 1 ∧ 1 ≤ f.typ.val ∧ f.typ.val ≤ 7 then some ⟨ws, 2 + fmpBody f.typ.val⟩
      else none
    else (s.bfl p).partFmp.map (fun q => ⟨q.words ++ ws, q.left - 2⟩)
  let bad := mark && cur.isNone
  let s := if mark then s.bflReceive p 48 0 else s
  let s := if bad then { s with fabric := { s.fabric with dropped := wrapInc 8 s.fabric.dropped } } else s
  match cur with
  | some q =>
    if q.left = 0 then (s.modBfl p (fun b => { b with partFmp := none })).push (.fmp p (fmpOf q.words))
    else s.modBfl p (fun b => { b with partFmp := some q })
  | none => s.modBfl p (fun b => { b with partFmp := none })

/-- A DATA flit (R230). -/
def State.dataFlit (s : State) (p sq mark : Nat) (slots : List FlitSlot) (l : LinkSlot) : State :=
  let s := s.bflWake p
  if (s.bfl p).phase ≠ .active then s
  else
    let s := s.onSlot p l
    let r := s.seqCheck p sq
    if r.1 then r.2.bflSlots p (slots.zipIdx.map (fun x => (x.1, bitOf mark x.2))) else r.2

/-- A MGMT flit (R221, R230); the words of slot k are 2k and 2k + 1. -/
def State.mgmtFlit (s : State) (p sq mark : Nat) (ws : List Quad) (l : LinkSlot) : State :=
  let s := s.bflWake p
  if (s.bfl p).phase ≠ .active then s
  else
    let s := s.onSlot p l
    let r := s.seqCheck p sq
    if r.1 then
      r.2.each (List.range (ws.length / 2)) (fun s k => s.mgmtSlot p ((ws.drop (2 * k)).take 2) (bitOf mark k))
    else r.2

/-- An IDLE flit (R230). -/
def State.idleFlit (s : State) (p sq : Nat) (l : LinkSlot) : State :=
  let s := s.bflWake p
  if (s.bfl p).phase ≠ .active then s else (s.onSlot p l).idleCheck p sq

/-- A LINK flit (R214, R216, R222, R230): its link slot, the check of its SEQ, then its message. -/
def State.linkFlit (s : State) (p sq : Nat) (l : LinkSlot) (f : State → State) : State :=
  if (s.bfl p).phase = .active then f ((s.onSlot p l).idleCheck p sq) else f s

/-- A LINK flit with a reserved CTYPE is discarded and counted (R222). -/
def State.reservedCtype (s : State) (p : Nat) : State :=
  if (s.bfl p).phase = .down then s else s.modBfl p (fun b => { b with discarded := wrapInc 8 b.discarded })

/-- A bad flit (R214, R230). -/
def State.badFlit (s : State) (p : Nat) : State :=
  if s.role p = .fabric then (s.modBfl p (fun b => { b with crcErr := wrapInc 8 b.crcErr })).callNak p else s

/-- A bad flit, or a LINK flit with a reserved CTYPE, given by its SEQ and link slot. -/
def State.badOrReserved (s : State) (p : Nat) (x : Option (Fin 4096 × LinkSlot)) : State :=
  match x with
  | none => s.badFlit p
  | some (sq, l) => s.linkFlit p sq.val l (fun s => s.reservedCtype p)

/-- The NAK timer expires with NEXT unchanged (R231). -/
def State.nakTimer (s : State) (p : Nat) : State :=
  if (s.bfl p).nakPending then s.modBfl p (fun b => { b with nakDue := true }) else s

/-! ### Time exchange (R38, R237, R238) -/

/-- A TIME_REQ is answered (R237): t2 is now, t3 `delay` CCLK later. In ID, CREDIT and DONE every flit carries the init message, so
that the answer waits until the link is ACTIVE (R234). -/
def State.bflTimeReq (s : State) (p id delay : Nat) : State :=
  match (s.bfl p).phase with
  | .down => s
  | .held | .active => s.sendTimeRsp p id s.spine.t40 delay
  | _ => s.modBfl p (fun b => { b with timeDue := b.timeDue ++ [(id, s.spine.t40, delay)] })

/-- A TIME_RSP (R237, R238): used only for the latest request and within 8 µs of it. HOPS is in bits [3:0] of HOPS_STATE. Times are in
units of 2^-16 ns. -/
def State.bflTimeRsp (s : State) (p id hopsState t2 t3 : Nat) : State :=
  let b := s.bfl p
  match b.req with
  | some t1 =>
    let t4 := s.spine.t40 / 2 ^ 24
    if id = b.reqId ∧ t4 ≤ t1 + 8000 * 65536 ∧ b.phase = .active then
      let rt : Int := (Int.ofNat t4 - Int.ofNat t1) - (Int.ofNat t3 - Int.ofNat t2)
      let ns := (rt.toNat + 65535) / 65536
      (s.modBfl p (fun b => { b with req := none, rtt := min ns 0xFFF })).push (.timeRsp p t1 t2 t3 t4 (bitsOf hopsState 3 0))
    else s
  | none => s

end Sys2Proof.Machine
end

