-- ==== Sys2Proof/Machine/Observe.lean ====
section
/-!
DEFINITION. Observation (R334 to R340) and performance counters: selectable counters (R345), instants (R347 to R350) and
histograms (R352).
-/
namespace Sys2Proof.Machine

/-- A capture. -/
def State.cap (s : State) (p : Nat) : Capture := tget capture0 s.obs.caps p
/-- Change a capture. -/
def State.modCap (s : State) (p : Nat) (f : Capture → Capture) : State :=
  s.modObs (fun x => { x with caps := tmod capture0 x.caps p f })
/-- A mirror session. -/
def State.session (s : State) (a : Nat) : Session := tget session0 s.obs.sessions a
/-- Change a mirror session. -/
def State.modSession (s : State) (a : Nat) (f : Session → Session) : State :=
  s.modObs (fun x => { x with sessions := tmod session0 x.sessions a f })

/-! ### The observation header (R334) -/

/-- A packet at an observation point, with what the header tells of it. -/
structure Seen where
  /-- the port it is observed at; 64 for a request of the data mover, which is observed at none -/
  port : Nat
  /-- what PORT tells -/
  shown : Nat
  egress : Bool
  other : Option Nat
  tlp : Tlp
  tc : Nat
  slot : Nat
  bad : Bool
  repl : Bool
  srcFid : Nat
  dstFid : Nat
  bookmark : Option Nat
  hier : Option Nat
  /-- ingress port of the packet, for responses of a FLOW session -/
  cells : Nat
  /-- the packet in the shared buffer, if it was queued -/
  pkt : Option Nat
  /-- the buffer class of its cells -/
  cls : BufClass
  /-- a response: the FLOW sessions that matched its request -/
  flow : List Nat
  deriving DecidableEq, Repr

/-- An optional number with its valid bit: value at `lo`, valid at `v`. -/
def optBits (o : Option Nat) (lo v : Nat) : Nat := match o with | some n => n * 2 ^ lo + 2 ^ v | none => 0

/-- W0, W1 and W3, and the 32 bytes of protocol header; W2 is filled when the record or copy is made (R334). -/
def State.obsHeader (s : State) (x : Seen) (trunc : Bool) (drops : Nat) : List Quad :=
  let w1 := s.frac * 2 ^ 48 + x.shown * 2 ^ 42 + optBits x.other 36 35 + b2n x.egress * 2 ^ 34 + x.tc * 2 ^ 31
    + x.cls.code * 2 ^ 28 + x.tlp.op.proto * 2 ^ 25 + x.slot * 2 ^ 21 + b2n x.bad * 2 ^ 20 + b2n trunc * 2 ^ 19
    + b2n x.repl * 2 ^ 18 + x.tlp.payload.length * 2 ^ 8
  let w2 := min drops 0x7FFF * 2 ^ 48 + x.srcFid * 2 ^ 36 + x.dstFid * 2 ^ 24
  let w3 := optBits (x.bookmark.map (fun b => b % 2 ^ 16)) 48 47 + optBits x.hier 41 40
  [BitVec.ofNat 64 s.ns, BitVec.ofNat 64 w1, BitVec.ofNat 64 w2, BitVec.ofNat 64 w3] ++ natQuads 2 x.tlp.hdr.toNat
    ++ natQuads 2 x.tlp.hdrHi.toNat

/-! ### Matching (R335, R338) -/

/-- The packet carries a requester ID. -/
def PktOp.hasRid (o : PktOp) : Bool := !o.isMem

/-- The packet carries an address. -/
def PktOp.hasAddr : PktOp → Bool
  | .memWrite | .memRead | .atomic | .npWrite | .cMemRd | .cMemWr | .cMemWrPtl | .biSnp => true
  | _ => false

/-- A requester ID matches under a mask (R335): with mask 0 every packet does. -/
def ridMatch (t : Tlp) (rid mask : Nat) : Bool :=
  mask == 0 || (t.op.hasRid && (t.reqId.toNat &&& mask) == (rid &&& mask))

/-- The selection of a capture (R335). -/
def capMatch (c : Capture) (x : Seen) : Bool :=
  let dir := qfld c.q5 5 4
  let asize := qfld c.q7 5 0
  c.running && bitOf dir (b2n x.egress) && bitOf (qfld c.q5 23 16) x.tc && bitOf (qfld c.q5 13 8) x.cls.code
    && ridMatch x.tlp (qfld c.q6 31 16) (qfld c.q6 15 0)
    && (!bitOf c.q7.toNat 7 || (x.tlp.op.hasAddr && x.tlp.addr.toNat / 2 ^ (12 + asize) == c.q7.toNat / 2 ^ (12 + asize)))

/-! ### Captures (R335 to R337) -/

/-- Count a dropped record (R336). -/
def State.capDrop (s : State) (p : Nat) : State :=
  (s.modCap p (fun c => { c with drops := min (c.drops + 1) 0x7FFF })).countPort p 19

/-- A packet is tested against its port's capture (R335, R336). -/
def State.capture (s : State) (x : Seen) : State :=
  let c := s.cap x.port
  if !capMatch c x then s
  else
    let n := if x.egress then c.seenOut else c.seenIn
    let s := s.modCap x.port (fun c => if x.egress then { c with seenOut := c.seenOut + 1 } else { c with seenIn := c.seenIn + 1 })
    if n % 2 ^ qfld c.q5 27 24 ≠ 0 then s
    else if 4096 ≤ s.obs.queue.length then (s.capDrop x.port).countDev 13
    else s.modObs (fun o => { o with queue := o.queue ++ [⟨x.port, s.obsHeader x false 0, none, x.pkt⟩] })

/-- The selection of a capture start is well formed (R335). -/
def capOk (q4 q5 q6 q7 : Quad) : Bool :=
  q4.toNat % 4096 == 0 && qfld q5 63 28 == 0 && qfld q5 15 14 == 0 && qfld q5 7 7 == 0 && qfld q5 5 4 != 0
    && decide (qfld q5 3 0 < 10) && qfld q6 63 32 == 0 && qfld q7 11 8 == 0 && qfld q7 6 6 == 0 && decide (qfld q7 5 0 < 52)

/-- Records in a ring (R335). -/
def capSize (q5 : Quad) : Nat := 2 ^ (qfld q5 3 0 + 6)

/-- Records queued under an old start keep the old ring and take its next indices (R337). -/
def fixOld (p : Nat) (c : Capture) : Nat → List CapRecord → List CapRecord
  | _, [] => []
  | w, r :: rs =>
    if r.port = p ∧ r.old.isNone then { r with old := some (c.mem, c.base, w, capSize c.q5) } :: fixOld p c (w + 1) rs
    else r :: fixOld p c w rs

/-- CAPTURE_CTL start (R335, R337). -/
def State.captureStart (s : State) (o : Origin) (p : Nat) (mem : RingMem) (q4 q5 q6 q7 : Quad) : State :=
  if !capOk q4 q5 q6 q7 then s.push (.cmdDone o 0x21 0)
  else
    let c := s.cap p
    let s := s.modObs (fun x => { x with queue := fixOld p c c.w x.queue })
    let s := s.modCap p (fun _ => ⟨true, mem, q4.toNat, q5, q6, q7, 0, 0, 0, c.drops⟩)
    (s.setDir (0xF00004 + 0x10 * p) 0).push (.cmdDone o 0 0)

/-- Stops whose port has no record queued complete (R337). -/
def State.stopsCheck (s : State) : State :=
  let idle := fun (x : CapStop) => !s.obs.queue.any (fun r => r.port == x.port)
  let go := s.obs.stops.filter idle
  (s.modObs (fun o => { o with stops := o.stops.filter (fun x => !idle x) })).each go (fun s x => s.push (.cmdDone x.origin 0 0))

/-- CAPTURE_CTL stop (R337): matching ends at once, the command completes after the last queued record. -/
def State.captureStop (s : State) (o : Origin) (p : Nat) : State :=
  let s := s.modCap p (fun c => { c with running := false })
  (s.modObs (fun x => { x with stops := x.stops ++ [⟨p, o⟩] })).stopsCheck

/-- Where a queued record goes: memory, base, index and size, and whether it still belongs to the running capture. -/
def State.recordTo (s : State) (r : CapRecord) : RingMem × Nat × Nat × Nat :=
  match r.old with
  | some o => o
  | none => let c := s.cap r.port; (c.mem, c.base, c.w, capSize c.q5)

/-- The phase bit and DROPS in W2 of a capture record (R334, R335). -/
def setW2 (ws : List Quad) (phase : Bool) (drops : Nat) : List Quad :=
  ws.set 2 (BitVec.ofNat 64 (qfld (ws.getD 2 0) 47 0 + drops * 2 ^ 48 + b2n phase * 2 ^ 63))

/-- The oldest queued record whose memory can be written is written, or dropped where its STOP ring is full (R335, R336). -/
def State.captureWrite (s : State) : State :=
  match s.obs.queue.find? (fun r => s.memOn (s.recordTo r).1) with
  | none => s
  | some r =>
    let ringAt := s.recordTo r
    let c := s.cap r.port
    let s := s.modObs (fun o => { o with queue := o.queue.erase r })
    let full := r.old.isNone && qfld c.q5 6 6 == 0 && modSub 65536 c.w (s.dirF (0xF00004 + 0x10 * r.port) 15 0) == ringAt.2.2.2
    let s :=
      if full then s.capDrop r.port
      else
        let ws := setW2 r.words (ringAt.2.2.1 / ringAt.2.2.2 % 2 == 0) (if r.old.isNone then c.drops else 0)
        let s := s.memWrite ringAt.1 (ringAt.2.1 + 64 * (ringAt.2.2.1 % ringAt.2.2.2)) (wordBytes ws)
        if r.old.isNone then s.modCap r.port (fun c => { c with w := wrapInc 16 c.w, drops := 0 }) else s
    s.stopsCheck

/-- The hierarchy of a capture's endpoint is reset (R337): the capture stops, and its queued records are dropped. -/
def State.captureReset (s : State) (h : Nat) : State :=
  let gone := s.obs.queue.filter (fun r => (s.recordTo r).1 == .host h)
  let s := s.modObs (fun o => { o with
    queue := o.queue.filter (fun r => !gone.contains r),
    caps := tmap capture0 (fun _ (c : Capture) => if c.mem = .host h then { c with running := false } else c) o.caps })
  (s.each gone (fun s r => s.capDrop r.port)).stopsCheck

/-! ### Mirror sessions (R338 to R340) -/

/-- The base of a session's registers (R353). -/
def offObs (a : Nat) : Nat := 0xF10000 + 0x40 * a

/-- A session's request match (R338 FLOW). -/
def State.flowMatch (s : State) (a : Nat) (x : Seen) : Bool :=
  let f := s.act (offObs a + 4)
  let lo := (s.act (offObs a + 0xC)).toNat + 2 ^ 32 * (s.act (offObs a + 0x10)).toNat
  let hi := (s.act (offObs a + 0x14)).toNat + 2 ^ 32 * (s.act (offObs a + 0x18)).toNat
  !x.egress && ridMatch x.tlp (fld f 31 16) (fld f 15 0) && x.tlp.op.hasAddr && decide (lo ≤ x.tlp.addr.toNat)
    && decide (x.tlp.addr.toNat ≤ hi) && bitOf (s.actF (offObs a + 8) 31 24) x.tc

/-- Whether an observed packet is a response to a matched request of a FLOW session with RSP. -/
def State.flowRsp (s : State) (a : Nat) (x : Seen) : Bool :=
  x.egress && bitOf (s.act (offObs a)).toNat 25 && x.flow.contains a

/-- A session takes a copy of an observed packet (R338). -/
def State.mirrorMatch (s : State) (a : Nat) (x : Seen) : Bool :=
  let w := s.act (offObs a)
  let inst := fld w 15 10
  bitOf w.toNat 31 && s.glb.mode != .quiesced &&
    (match fld w 30 28 with
     | 0 => x.port == inst && bitOf (fld w 27 26) (b2n x.egress)
     | 1 => bitOf (fld w 27 26) (b2n x.egress) &&
         (if x.egress then (s.hier inst).active && (s.hier inst).onPort == x.port else x.hier == some inst)
     | 2 => s.flowMatch a x || s.flowRsp a x
     | _ => false)

/-- A copy not made, or dropped (R339). -/
def State.mirrorDrop (s : State) (a n : Nat) : State :=
  (s.modSession a (fun x => { x with drops := wrapAdd 32 x.drops n, since := min (x.since + n) 0x7FFF })).countDev 12 n

/-- The bookmark of a request that an enabled FLOW session matches at ingress notes the session, whose copies its response joins
(R338). -/
def State.flowNote (s : State) (a : Nat) (x : Seen) : State :=
  match x.bookmark with
  | some b =>
    if !x.egress ∧ fld (s.act (offObs a)) 30 28 = 2 ∧ s.mirrorMatch a x then
      match s.bm b with
      | some y => s.bmSet b { y with flow := y.flow ++ [a] }
      | none => s
    else s
  | none => s

/-- A copy enters its session's queue, or is not made (R339, R340). -/
def State.mirror (s : State) (a : Nat) (x : Seen) : State :=
  let w := s.act (offObs a)
  let out := fld w 21 16
  if !s.mirrorMatch a x then s
  else if s.role out ≠ .analysis ∨ (s.port out).prov.isNone ∨ s.actF (offObs a + 8) 19 0 < (s.session a).held + x.cells
      ∨ s.poolSize < s.poolUsed + x.cells then s.mirrorDrop a 1
  else
    let keep := 64 * fld w 24 22
    let ws := s.obsHeader x (decide (keep < x.tlp.payload.length)) (s.session a).since
    s.modSession a (fun y => { y with
      queue := y.queue ++ [⟨out, ws, x.tlp.payload.take keep, x.cells, x.pkt⟩], since := 0 })

/-- An observed packet is tested against its port's capture and every session (R336, R338). -/
def State.observe (s : State) (x : Seen) : State := (s.capture x).each (List.range 4) (fun s a => (s.flowNote a x).mirror a x)

/-- What stage 4 made of a packet: the packet, its number if it is queued, and the ports that its copies are for. -/
def State.madeOf (s : State) (ing : Ingress) (t : Tlp) (n : Nat) : Option (Packet × Option Nat × List Nat) :=
  match s.path.packets.find? (fun x => decide (n ≤ x.1) && x.2.ingress == ing && (ing != .device || x.2.dmv.isSome)) with
  | some k => some (k.2, some k.1, (s.path.queues.filter (fun (q : Nat × List QEntry) => q.2.any (fun e => e.pkt == k.1))).map (·.1))
  | none =>
    ((s.path.heldOut.filter (fun y => y.pkt.ingress == ing && y.pkt.tlp.reqId == t.reqId && y.pkt.tlp.tag == t.tag)).getLast?).map
      (fun y => (y.pkt, none, y.copies.map (·.port)))

/-- A packet observed as its header enters stage 4 (R334, R336), without what its port tells. -/
def State.seenIn (s : State) (ing : Ingress) (t : Tlp) (tc : Nat) (hier : Option Nat) (n : Nat) : Seen :=
  let m := s.madeOf ing t n
  let egs := match m with | some k => k.2.2 | none => []
  { port := 64, shown := 0, egress := false, other := egs.min?, tlp := t, tc := (match m with | some k => k.1.tc | none => tc),
    slot := (match m with | some k => k.1.slot | none => s.path.slotAt), bad := t.ecrc.isBad, repl := decide (1 < egs.length), srcFid := 0,
    dstFid := 0, bookmark := m.bind (fun k => k.1.bookmark.or k.1.answers),
    hier := (match m with | some k => (match k.1.hier with | some h => some h | none => hier) | none => hier),
    cells := cellsOf t.payload.length, pkt := m.bind (fun k => k.2.1),
    cls := (match m with | some k => k.1.bclass | none => t.op.bufClass), flow := [] }

/-- The hierarchy under which a packet of a port is decoded (R104, R334): its host's, or the one that receives its
requests. -/
def State.hierOfRx (s : State) (x : Rx) : Option Nat :=
  if s.role x.port ≠ .device then s.hierOn x.port
  else
    let k := if 0 < (s.port x.port).lds then x.tlp.ld else 0
    let w := s.upWord x.port k
    if x.tlp.op == .cpl || x.tlp.op == .ndr || x.tlp.op == .drs then none
    else match fld w 13 12 with
      | 0 => (s.upVdsb x.port k).map (·.1)
      | 1 => (s.localHost (.port x.port) (fld w 11 0) x.tc).bind s.hierOn
      | _ => none

/-- A request that was held in stage 4 is decoded again: it was observed before, but may now have its bookmark (R336, R338). -/
def State.noteAgain (s : State) (rx : Rx) (n : Nat) : State :=
  let x := { s.seenIn (.port rx.port) rx.tlp rx.tc (s.hierOfRx rx) n with port := rx.port, shown := rx.port }
  s.each (List.range 4) (fun s a => s.flowNote a x)

/-- Ingress (R336): what a received packet enqueued, or what of it waits under R128, tells its egress port, stamp, bookmark and
hierarchy. Configuration traffic that the device answers itself is not observed. -/
def State.observeIn (s : State) (rx : Rx) (n : Nat) : State :=
  if rx.first.isSome && !rx.tlp.op.response then s.noteAgain rx n
  else if (s.madeOf (.port rx.port) rx.tlp n).isNone && (rx.tlp.op == .cfgRead || rx.tlp.op == .cfgWrite) then s
  else
    s.observe { s.seenIn (.port rx.port) rx.tlp rx.tc (s.hierOfRx rx) n with
      port := rx.port, shown := rx.port, srcFid := rx.srcFid, dstFid := rx.dstFid.getD 0 }

/-- A request of a data mover function (R338), which no port observes: PORT of its header is a free value (DESIGN CHOICE, log 83). -/
def State.observeFn (s : State) (h : Nat) (t : Tlp) (n : Nat) : State :=
  let d := s.drawBelow 64
  d.2.observe { s.seenIn .device t 0 (some h) n with shown := d.1 }

/-- Egress (R336). -/
def State.observeOut (s : State) (p : Nat) (x : Packet) (e : QEntry) (bad : Bool) : State :=
  s.observe
    { port := p, shown := p, egress := true, other := (match x.ingress with | .port q => some q | .device => none), tlp := x.tlp, tc := x.tc,
      slot := x.slot, bad := bad || x.bad.isSome, repl := x.repl, srcFid := x.srcFid, dstFid := e.dstFid.getD 0,
      bookmark := x.bookmark.or x.answers, hier := x.hier, cells := x.cells + x.extra, pkt := some e.pkt, cls := x.bclass,
      flow := x.flow }

/-- The sessions that have a copy for an analysis port, beginning after the one served last (R340). -/
def State.mirrorTurn (s : State) (p : Nat) : Option Nat :=
  ((List.range 4).map (fun i => (tget 3 s.obs.turn p + 1 + i) % 4)).find? (fun a => (s.session a).queue.any (fun c => c.out == p))

/-- A queued copy leaves its analysis port as a posted write (R340); `cred` tells that the port has posted credits. -/
def State.mirrorSend (s : State) (p : Nat) (cred : Bool) : State :=
  if !cred ∨ !s.portActive p then s
  else match s.mirrorTurn p with
    | none => s
    | some a =>
      match (s.session a).queue.find? (fun c => c.out == p) with
      | none => s
      | some c =>
        let win := s.actF (offObs a) 9 5
        let wb := (s.act (offObs a + 0x1C)).toNat / 512 * 512 + 2 ^ 32 * (s.act (offObs a + 0x20)).toNat
        let base := wb / (512 * 2 ^ win) * (512 * 2 ^ win)
        let bytes := wordBytes c.words ++ c.payload
        let t : Tlp := { tlp0 with
          op := .memWrite, addr := BitVec.ofNat 64 (base + 512 * ((s.session a).k % 2 ^ win)), len := bytes.length, payload := bytes }
        let s := s.modSession a (fun x => { x with queue := x.queue.erase c, k := x.k + 1, sent := wrapInc 32 x.sent })
        let s := s.modObs (fun o => { o with turn := tput 3 o.turn p a })
        ((s.countPort p 1).countPort p 3 bytes.length).out (.tx p t none 0 none 0)

/-- Copies for a port are dropped when it is flushed or no longer an analysis port (R339). -/
def State.mirrorFlush (s : State) (p : Nat) : State :=
  s.each (List.range 4) (fun s a =>
    let n := ((s.session a).queue.filter (fun c => c.out == p)).length
    if n = 0 then s
    else (s.modSession a (fun x => { x with queue := x.queue.filter (fun c => c.out != p) })).mirrorDrop a n)

/-- After a binding (R338 to R340): copies for ports that are no analysis ports any more are dropped, and a session whose EN
became 1 counts its copies from 0. -/
def State.mirrorBound (s : State) : State :=
  let s := s.each (List.range 64) (fun s p => if s.role p = .analysis ∧ (s.port p).prov.isSome then s else s.mirrorFlush p)
  s.each (List.range 4) (fun s a =>
    let en := bitOf (s.act (offObs a)).toNat 31
    s.modSession a (fun x => { x with k := if en && !x.wasEn then 0 else x.k, wasEn := en }))

/-! ### Selectable counters (R345) -/

/-- A select register names a packet copy. -/
def State.selMatch (s : State) (x : Nat) (w : Word) (eg : Nat) (pk : Packet) : Bool :=
  let w1 := s.act (0x1010004 + 8 * x)
  (bitOf w.toNat 21 || pk.ingress == .port (fld w 27 22)) && (bitOf w.toNat 14 || fld w 20 15 == eg)
    && bitOf (fld w 13 6) pk.tc && bitOf (fld w 5 0) pk.bclass.code && ridMatch pk.tlp (fld w1 31 16) (fld w1 15 0)

/-- A copy entered an egress queue: the selectable counters that select it count (R345). -/
def State.countSelected (s : State) (eg : Nat) (pk : Packet) : State :=
  let sel := s.regs.active.filter (fun x => decide (0x1010000 ≤ x.1 ∧ x.1 < 0x1018000) && x.1 % 8 == 0 && fld x.2 31 28 != 0)
  s.each sel (fun s x =>
    let k := (x.1 - 0x1010000) / 8
    if s.selMatch k x.2 eg pk then
      s.count (4096 + k) (match fld x.2 31 28 with
        | 1 => 1
        | 2 => pk.tlp.payload.length
        | 3 => pk.cells + pk.extra
        | _ => 0)
    else s)

/-! ### Histograms (R352) -/

/-- The bin of a latency in CCLK (R352): 0.625 ns × L against 16 ns × 2^b, that is L against 25.6 × 2^b. -/
def binOf (l : Nat) : Nat := if 10 * l < 256 then 0 else min 31 (Nat.log2 (10 * l / 256) + 1)

/-- A latency of a measure is added to the histograms that select it (R352). -/
def State.measured (s : State) (m l pi pe tc inst : Nat) : State :=
  let sel := s.regs.active.filter (fun x => decide (0x1030000 ≤ x.1 ∧ x.1 < 0x1030800) && x.1 % 8 == 0 && fld x.2 31 28 == m)
  s.each sel (fun s x =>
    let w := x.2
    let h := (x.1 - 0x1030000) / 8
    let ports := (bitOf w.toNat 21 || fld w 27 22 == pi) && (bitOf w.toNat 14 || fld w 20 15 == pe) && bitOf (fld w 13 6) tc
    let ok := match m with
      | 1 | 2 => ports
      | 4 => true
      | _ => s.actF (0x1030004 + 8 * h) 11 0 == inst
    if ok then s.modObs (fun o => { o with bins := tmod 0 o.bins (32 * h + binOf l) (fun v => wrapInc 48 v) }) else s)

/-! ### Instants (R347 to R350) -/

/-- The decision on a SNAPSHOT, FREEZE or THAW in its effect stage (R347, R349). -/
def State.instantRequest (s : State) (x : Instant) : State :=
  let bad : Bool := match x.act with | .snapshot f c _ _ => c == 0 || decide (8192 < f + c) | _ => false
  if bad then s.push (.cmdDone x.origin 0x21 0)
  else if s.spine.t40 + 2 ^ 36 * 2 ^ 40 < x.tns * 2 ^ 40 then s.push (.cmdDone x.origin 0x32 0)
  else if 64 ≤ s.obs.instants.length then s.push (.cmdDone x.origin 0x33 0)
  else if x.tns = 0 then s.takeInstant x false
  else if x.tns * 2 ^ 40 ≤ s.spine.t40 then s.takeInstant x true
  else s.modObs (fun o => { o with instants := o.instants ++ [x] })

/-- The instant T of pending requests is reached: CCLK edges pass until then, and what is due on the way is taken (R347). -/
def State.pmcInstant (s : State) (tns : Nat) : State :=
  if s.obs.instants.any (fun x => x.tns == tns) then s.advanceToNs tns else s

/-- The values that PMC reads return (R346, R348): the frozen copy while a freeze is in force. -/
def State.pmcView (s : State) : PmcValues :=
  match s.obs.frozen with | some v => v | none => ⟨s.counts, s.obs.thr, s.obs.bins⟩

/-- The counter, threshold value or bin whose LO word stands at a BAR0 offset (R354). -/
def State.pmcAt (s : State) (off : Nat) : Nat :=
  let v := s.pmcView
  if off < 0x1010000 then tget 0 v.counts ((off - 0x1000000) / 8)
  else if off < 0x1030000 then tget 0 v.thr ((off - 0x1020000) / 0x10)
  else tget 0 v.bins ((off - 0x1040000) / 8)

/-- A read of a LO word latches bits [47:32] for its requester (R346). -/
def State.pmcLatch (s : State) (p : Path) (off : Nat) : State :=
  s.setLatch p { s.latch p with pmcHi := s.pmcAt off / 2 ^ 32 }

end Sys2Proof.Machine
end

