-- ==== Sys2Proof/Machine/Fabric.lean ====
section
/-!
DEFINITION. Fabric mode (R186 to R212): mode changes as such (R27, R29), fabric IDs, fabric management packets, the election
of the anchor, reports and the discovery ring, remote commands.
-/
namespace Sys2Proof.Machine

/-- Change the mode (R27, R29). -/
def State.setMode (s : State) (m : Mode) : State :=
  if s.glb.mode = m then s
  else
    let was := s.glb.mode
    (({ s with glb := { s.glb with mode := m, prevMode := was, transitions := wrapInc 8 s.glb.transitions } }).push
      .reselect).push .recheck

/-- Change the mode at a transition that has no record of its own in the colophon: MODE_CHANGE (R388). -/
def State.changeMode (s : State) (m : Mode) (cause source : Nat) : State :=
  if s.glb.mode = m then s else (s.setMode m).push (.colophon 6 cause source)

/-- Change fabric mode's own state. -/
def State.modFab (s : State) (f : Fabric → Fabric) : State := { s with fabric := f s.fabric }

/-- Change what fabric mode holds of a port. -/
def State.modFabPort (s : State) (p : Nat) (f : FabPort → FabPort) : State :=
  s.modFab (fun x => { x with ports := tmod fabPort0 x.ports p f })

/-- Fields of FAB_CTL and FAB_TIMER (R212). -/
def State.fabPriority (s : State) : Nat := s.dirF 0xA00000 7 0
/-- MAX_HOPS. -/
def State.maxHops (s : State) : Nat := s.dirF 0xA00000 11 8
/-- REMOTE_EN. -/
def State.remoteEn (s : State) : Bool := bitOf (s.dir 0xA00000).toNat 16
/-- SETTLE, HELLO, DEAD × HELLO and the backoff window, in MTICK. -/
def State.tSettle (s : State) : Nat := s.dirF 0xA00004 31 24
/-- The HELLO interval. -/
def State.tHello (s : State) : Nat := s.dirF 0xA00004 23 16
/-- The lapse time. -/
def State.tDead (s : State) : Nat := s.dirF 0xA00004 15 12 * s.tHello
/-- The backoff window. -/
def State.tBackoff (s : State) : Nat := 2 ^ s.dirF 0xA00004 11 8

/-- The serial number of this device (R69). -/
def State.serial (s : State) : Quad := BitVec.ofNat 64 s.glb.serial

/-- Active fabric ports (R190, R197): their Brodoth link is ACTIVE. -/
def State.fabPorts (s : State) : List Nat := (s.fabric.links.filter (fun x => x.2.phase == .active)).map (·.1)

/-- The modes in which the fabric runs (In each mode): MEMBER and ANCHOR, and QUIESCED entered from them. -/
def State.fabricRuns (s : State) : Bool := s.timeMode == .member || s.timeMode == .anchor

/-- Count a dropped FMP (R191 to R194). -/
def State.fmpDrop (s : State) : State := s.modFab (fun x => { x with dropped := wrapInc 8 x.dropped })

/-! ### Fabric IDs (R186, R189) -/

/-- The port edges with an active ID, in ascending port number (R186). -/
def State.portIds (s : State) : List (Nat × Nat) :=
  (List.range 64).filterMap (fun p =>
    let w := s.act (0xA00100 + 4 * p)
    if bitOf w.toNat 12 && (s.role p == .host || s.role p == .device) then some (p, fld w 11 0) else none)

/-- The check of R189 at a binding of unit 100: the internal edge keeps its ID over a port, the lower port over the higher. -/
def State.checkIds (s : State) : State :=
  let ids := s.portIds
  let lost := (ids.filter (fun x =>
    s.internalFid == some x.2 || ids.any (fun y => y.2 == x.2 && decide (y.1 < x.1)))).map (·.1)
  let s := s.modFab (fun x => { x with idLost := lost })
  if lost.isEmpty then s else s.raiseDev 1486

/-- The active IDs of this device's edges. -/
def State.ownIds (s : State) : List Nat :=
  s.internalFid.toList ++ (s.portIds.filter (fun x => !s.fabric.idLost.contains x.1)).map (·.2)

/-! ### Source-routed packets (R193) -/

/-- Entry k of a PATH or RETURN field (R191). -/
def pathAt (v : BitVec 48) (k : Nat) : Nat := bitsOf v.toNat (6 * k + 5) (6 * k)

/-- A PATH field with entry k set (R191). -/
def setPath (v : BitVec 48) (k x : Nat) : BitVec 48 := BitVec.ofNat 48 (setBits v.toNat (6 * k + 5) (6 * k) x)

/-- The reversed RETURN of a packet as a PATH (R193). -/
def reversePath (ret : BitVec 48) (n : Nat) : BitVec 48 :=
  (List.range n).foldl (fun v j => setPath v j (pathAt ret (n - 1 - j))) 0

/-- Send a source-routed FMP on its next port (R193). -/
def State.fmpForward (s : State) (f : Fmp) : State :=
  let p := pathAt f.path f.hopPtr.val
  if f.hopPtr.val < f.hopCount.val ∧ f.hopPtr.val < 8 ∧ s.fabPorts.contains p then
    s.fmpSend p { f with hopPtr := Fin.ofNat 16 (f.hopPtr.val + 1) }
  else s.fmpDrop

/-- The answer to an FMP: it takes the way back (R193). -/
def State.fmpAnswer (s : State) (f : Fmp) (typ : Fin 16) (body : List Quad) : State :=
  s.fmpForward { version := 1, typ := typ, hopPtr := 0, hopCount := f.hopCount, seq := f.seq,
                 path := reversePath f.ret f.hopCount.val, ret := 0, source := s.serial, dest := f.source, body := body }

/-! ### HELLO (R195 to R199) -/

/-- The own candidacy (R195); the anchor names its nonce. -/
def State.ownCand (s : State) : Option Cand :=
  if s.fabPriority = 0xFF ∨ (s.glb.mode ≠ .member ∧ s.glb.mode ≠ .anchor) then none
  else some ⟨s.fabPriority, s.serial, 0, none, s.fabric.st == .anchored, if s.fabric.st = .anchored then s.fabric.nonce else 0⟩

/-- The heartbeat known of an anchor. -/
def State.beatOf (s : State) (serial : Quad) (nonce : Nat) : Option Beat :=
  s.fabric.beats.find? (fun b => b.serial == serial && b.nonce == nonce)

/-- The advertisement of a port, unless it has lapsed or its anchor's sequence has (R197). -/
def State.adOf (s : State) (p : Nat) : Option Cand :=
  let x := tget fabPort0 s.fabric.ports p
  match x.hello with
  | none => none
  | some (_, h) =>
    let dead := h.anchored && (match s.beatOf h.serial h.nonce.val with | some b => b.lapsed | none => false)
    if x.lapsed || h.prio = 0xFF || dead then none
    else some ⟨h.prio.val, h.serial, h.hops.val + 1, some p, h.anchored, if h.anchored then h.nonce.val else 0⟩

/-- A port number for ties; the device itself comes first. -/
def Cand.portKey (c : Cand) : Nat := match c.port with | none => 0 | some p => p + 1

/-- Whether one candidate is better than another (R195, R197): PRIORITY, serial, hops, port. -/
def Cand.better (a b : Cand) : Bool :=
  if a.prio ≠ b.prio then decide (a.prio < b.prio)
  else if a.serial ≠ b.serial then decide (a.serial.toNat < b.serial.toNat)
  else if a.hops ≠ b.hops then decide (a.hops < b.hops)
  else decide (a.portKey < b.portKey)

/-- The best of some candidates. -/
def bestOf : List Cand → Option Cand
  | [] => none
  | c :: cs => match bestOf cs with | some d => if c.better d then some c else some d | none => some c

/-- The best candidate (R197). -/
def State.bestCand (s : State) : Option Cand :=
  if s.fabric.st = .isolated then none else bestOf (s.ownCand.toList ++ s.fabPorts.filterMap s.adOf)

/-- FAB_STATUS.STATE (R212). -/
def FabState.code : FabState → Nat
  | .isolated => 0
  | .electing => 1
  | .joined => 2
  | .anchored => 3
  | .far => 4

/-- The heartbeat count that a HELLO carries (R196). -/
def State.helloSeq (s : State) : Nat :=
  if s.fabric.st = .anchored then s.fabric.bestSeq
  else match s.fabric.best with
    | some c => (match s.beatOf c.serial c.nonce with | some b => if c.anchored then b.seq else 0 | none => 0)
    | none => 0

/-- The HELLO body of this device for a port (R196). -/
def State.helloBody (s : State) (p : Nat) : List Quad :=
  let c := s.fabric.best
  let prio := match c with | some c => c.prio | none => 0xFF
  let hops := match c with | some c => min c.hops 15 | none => 0
  let anch := match c with | some c => c.anchored | none => false
  let nonce := match c with | some c => c.nonce | none => 0
  let ser : Quad := match c with | some c => c.serial | none => 0
  [BitVec.ofNat 64 (s.fabric.st.code + 8 * b2n anch + 16 * hops + 256 * p + 2 ^ 16 * prio + 2 ^ 32 * nonce + 2 ^ 48 * s.helloSeq),
   ser, 0, 0]

/-- Send a HELLO on a port (R196, R199). -/
def State.sendHello (s : State) (p : Nat) : State :=
  let s := s.fmpSend p { version := 1, typ := 1, hopPtr := 0, hopCount := 0, seq := 0, path := 0, ret := 0, source := s.serial, dest := 0,
                         body := s.helloBody p }
  s.modFabPort p (fun x => { x with sinceSent := 0, due := false, sentNow := true })

/-- A HELLO is due on every active fabric port but one (R199). -/
def State.helloDue (s : State) (but : Option Nat) : State :=
  s.each (s.fabPorts.filter (fun p => but != some p)) (fun s p => s.modFabPort p (fun x => { x with due := true }))

/-- The HELLO that words spell (R196). -/
def helloOf (ws : List Quad) : Hello :=
  let w := (ws.getD 0 0).toNat
  { hops := Fin.ofNat 16 (bitsOf w 7 4), anchored := bitOf w 3, state := Fin.ofNat 8 (bitsOf w 2 0), port := Fin.ofNat 64 (bitsOf w 13 8),
    prio := Fin.ofNat 256 (bitsOf w 23 16), nonce := Fin.ofNat 65536 (bitsOf w 47 32), seq := Fin.ofNat 65536 (bitsOf w 63 48),
    serial := ws.getD 1 0 }

/-- A newer BEST_SEQ (R197). -/
def newerSeq (old new : Nat) : Bool := decide (1 ≤ modSub 65536 new old ∧ modSub 65536 new old ≤ 32767)

/-- The heartbeat an anchored HELLO carries (R197): whether it is newer, and the state that notes it. -/
def State.noteBeat (s : State) (h : Hello) : Bool × State :=
  if !h.anchored then (false, s)
  else match s.beatOf h.serial h.nonce.val with
    | none => (true, s.modFab (fun x => { x with beats := x.beats ++ [⟨h.serial, h.nonce.val, h.seq.val, 0, false⟩] }))
    | some b =>
      if newerSeq b.seq h.seq.val then
        (true, s.modFab (fun x => { x with beats := x.beats.map (fun y =>
          if y.serial = h.serial ∧ y.nonce = h.nonce.val then { y with seq := h.seq.val, age := 0, lapsed := false } else y) }))
      else (false, s)

/-- A HELLO received (R197, R199). -/
def State.helloReceive (s : State) (p : Nat) (src : Quad) (h : Hello) : State :=
  if !s.fabricRuns || !s.fabPorts.contains p then s
  else
    let s := s.modFabPort p (fun x => { x with hello := some (src, h), age := 0, lapsed := false })
    let r := s.noteBeat h
    let s := if r.1 ∧ s.fabric.upstream = some p then r.2.helloDue (some p) else r.2
    s.push .elect

/-! ### Reports (R200 to R202) -/

/-- Link field of a PORT record (R200, R224). -/
def BflPhase.linkCode : BflPhase → Nat
  | .down => 0
  | .held => 3
  | .active => 2
  | _ => 1

/-- A PORT record (R200). -/
def State.portRecord (s : State) (p : Nat) : List Quad :=
  let n := (tget fabPort0 s.fabric.ports p).hello
  let nb := match n with | some (_, h) => h.port.val | none => 0
  [BitVec.ofNat 64 (p + 64 * (s.bfl p).phase.linkCode + 256 * (s.port p).width + 2 ^ 16 * nb
      + 2 ^ 24 * b2n (bitOf (s.act (0xA00100 + 4 * p)).toNat 31)),
   match n with | some (src, _) => src | none => 0]

/-- An EDGE entry (R200). -/
def State.edgeRecord (s : State) (p : Nat) : Nat :=
  let w := s.act (0xA00100 + 4 * p)
  let role := if (s.port p).prov.isNone then 0
    else match s.role p with | .host => 1 | .device => 2 | .fabric | .analysis => 3 | .none => 0
  fld w 11 0 + 4096 * b2n (bitOf w.toNat 12) + 16384 * role

/-- SPN_STATUS.STATE (R42). -/
def ServoState.code : ServoState → Nat
  | .free => 0
  | .acquire => 1
  | .locked => 2
  | .holdover => 3

/-- The fields of R200 other than REPORT_SEQ, as 60 words. -/
def State.reportFields (s : State) : List Quad :=
  let up := match s.fabric.upstream with | some p => 128 + p | none => 0
  let idw := s.act 0xA0000C
  let fps := (List.range 64).filter (fun p => s.role p == .fabric)
  let recs := fps.flatMap s.portRecord
  let edges := (List.range 16).map (fun k =>
    BitVec.ofNat 64 ((List.range 4).foldl (fun n j => n + s.edgeRecord (4 * k + j) * 2 ^ (16 * j)) 0))
  [BitVec.ofNat 64 (s.fabric.st.code + 256 * up + 2 ^ 16 * (s.hops + 16 * s.spine.servo.code) + 2 ^ 24 * s.fabPriority
      + 2 ^ 32 * (fld idw 11 0 + 2 ^ 14 * fld idw 30 30 + 2 ^ 15 * fld idw 31 31)),
   BitVec.ofNat 64 (fps.foldl (fun n p => n + 2 ^ p) 0), 0, 0]
    ++ (recs ++ List.replicate 32 0).take 32 ++ edges ++ List.replicate 8 0

/-- The REPORT of this device, with its REPORT_SEQ (R200, R201). -/
def State.reportFmp (s : State) (seq : Nat) : Fmp :=
  let ws := s.reportFields
  { version := 1, typ := 2, hopPtr := 0, hopCount := 0, seq := Fin.ofNat 65536 seq, path := 0, ret := 0, source := s.serial, dest := 0,
    body := ws.set 0 (BitVec.ofNat 64 ((ws.getD 0 0).toNat + 2 ^ 48 * (s.fabric.report.sent % 65536))) }

/-- Records can reach the discovery ring: on the local bus, or with Bus Master Enable of the management endpoint (R72, R202). -/
def State.recordPath (s : State) : Bool := match s.privHier with | some h => s.mepOn h | none => true

/-- The discovery ring takes a record (R202): the answer is whether it was kept. DESIGN CHOICE (log 78): R202 does not say what comes
of a record while Bus Master Enable stops the endpoint's writes (R72); it is not kept, as with a full ring. -/
def State.keepRecord (s : State) (f : Fmp) : Bool × State :=
  let size := 2 ^ (s.dirF 0xA00028 19 16 + 6)
  let cons := s.dirF 0xA0002C 31 16
  if s.dirF 0xA00028 31 31 = 0 ∨ !s.recordPath ∨ modSub 65536 s.fabric.prod cons = size then (false, s)
  else
    let base := s.dirF 0xA00020 31 12 * 2 ^ 12 + (s.dir 0xA00024).toNat * 2 ^ 32
    let addr := base + 512 * (s.fabric.prod % size)
    let bytes := ((f.words ++ List.replicate 64 0).take 64).flatMap (fun (q : Quad) => leBytes 8 q.toNat)
    let s := match s.privHier with
      | some h => (s.mepWrite h addr bytes).2
      | none => (s.spadWrite addr bytes).out (.localWrite addr bytes)
    (true, s.modFab (fun x => { x with prod := wrapInc 16 x.prod }))

/-- Change the REPORT state. -/
def State.modReport (s : State) (f : ReportState → ReportState) : State := s.modFab (fun x => { x with report := f x.report })

/-- Schedule a REPORT (R201): it leaves at the k-th MTICK edge, k drawn from 1 to W; schedules coalesce. The anchor writes its
own record at once (R202). -/
def State.scheduleReport (s : State) : State :=
  match s.fabric.st with
  | .anchored =>
    let s := s.modReport (fun r => { r with sent := wrapInc 16 r.sent, last := s.reportFields })
    (s.keepRecord (s.reportFmp 0)).2
  | .joined =>
    if s.fabric.report.due.isSome then s
    else
      let w := max s.fabric.report.w 1
      let r := s.drawBelow w
      r.2.modReport (fun x => { x with due := some (r.1 + 1) })
  | _ => s

/-- A change to a field of R200 schedules a REPORT (R201). -/
def State.reportCheck (s : State) : State :=
  if s.fabric.st = .joined ∨ s.fabric.st = .anchored then
    let now := s.reportFields
    if now = s.fabric.report.last then s else (s.modReport (fun r => { r with last := now })).scheduleReport
  else s

/-- A scheduled REPORT leaves (R194, R201). DESIGN CHOICE (log 102): REPORT_SEQ counts the REPORT that carries it. -/
def State.reportSend (s : State) : State :=
  match s.fabric.report.due, s.fabric.report.out, s.fabric.upstream with
  | some 0, none, some p =>
    if s.fabric.st ≠ .joined then s
    else
      let sq := s.fabric.nextSeq
      let s := s.modReport (fun r => { r with due := none, out := some (sq, 0), sent := wrapInc 16 r.sent, last := s.reportFields })
      let s := s.modFab (fun x => { x with nextSeq := wrapInc 16 x.nextSeq })
      s.fmpSend p (s.reportFmp sq)
  | _, _, _ => s

/-- REPORT_BUSY, or no answer in time (R201): W doubles, up to 256, and the REPORT is scheduled again. -/
def State.reportAgain (s : State) : State :=
  (s.modReport (fun r => { r with out := none, w := min (2 * max r.w 1) 256 })).scheduleReport

/-- The timeout of R201. -/
def State.reportTimeout (s : State) : State :=
  match s.fabric.report.out with
  | some (_, age) => if s.fabric.report.w ≤ age then s.reportAgain else s
  | none => s

/-- A REPORT_ACK (R201). -/
def State.reportAck (s : State) (seq : Nat) : State :=
  match s.fabric.report.out with
  | some (q, _) => if q = seq then s.modReport (fun r => { r with out := none, w := s.tBackoff }) else s
  | none => s

/-- A REPORT_BUSY (R201, R212). -/
def State.reportBusy (s : State) (seq : Nat) : State :=
  let s := s.modFab (fun x => { x with busy := wrapInc 8 x.busy })
  match s.fabric.report.out with
  | some (q, _) => if q = seq then s.reportAgain else s
  | none => s

/-- A REPORT or LEAVE received (R194, R202). One that the anchor does not keep is counted with the FMPs dropped, also where it is a
REPORT that REPORT_BUSY answers: DESIGN CHOICE (log 78), R202 names no counter for it. -/
def State.upTree (s : State) (p : Nat) (f : Fmp) : State :=
  if 8 < f.hopCount.val + 1 then s.fmpDrop
  else
    let f := { f with ret := setPath f.ret f.hopCount.val p, hopCount := Fin.ofNat 16 (f.hopCount.val + 1) }
    if s.fabric.st = .anchored then
      let r := s.keepRecord f
      let s := if r.1 then r.2 else r.2.fmpDrop
      if f.typ = 2 then s.fmpAnswer f (if r.1 then 3 else 4) [] else s
    else match s.fabric.upstream with
      | some u => s.fmpSend u f
      | none => s.fmpDrop

/-- The LEAVE of a device that enters QUIESCED with cause 1 or 2 (R194, R201). -/
def State.sendLeave (s : State) : State :=
  match s.fabric.upstream with
  | some u =>
    s.fmpSend u { version := 1, typ := 7, hopPtr := 0, hopCount := 0, seq := 0, path := 0, ret := 0, source := s.serial, dest := 0,
                  body := [BitVec.ofNat 64 s.glb.quiesceCause, 0] }
  | none => s

/-! ### The election (R198) -/

/-- The best candidate is looked at again; a change sends HELLOs (R199), and SPN_STATUS.HOPS and the time reference follow the
upstream port (R197). -/
def State.setBest (s : State) : State :=
  let old := s.fabric.best
  let new := s.bestCand
  let up := match new with | some c => c.port | none => none
  let view : Option Cand → Option (Nat × Quad × Nat × Bool × Nat) := fun c => c.map (fun (c : Cand) => (c.prio, c.serial, c.hops, c.anchored, c.nonce))
  let s := if view old = view new then s else (s.helloDue up).modFab (fun x => { x with settle := 0 })
  let s := s.modFab (fun x => { x with best := new })
  if s.fabric.upstream = up then s
  else (s.modFab (fun x => { x with upstream := up, upHops := (match new with | some c => c.hops - 1 | none => 0) })).push .reselect

/-- Enter ELECTING; from JOINED or FAR it is counted (R212). -/
def State.toElecting (s : State) : State :=
  let s := if s.fabric.st = .joined ∨ s.fabric.st = .far then s.modFab (fun x => { x with elections := wrapInc 8 x.elections }) else s
  s.modFab (fun x => { x with st := .electing, settle := 0, report := { x.report with due := none, out := none } })

/-- Enter JOINED or FAR by the hops to the anchor (R198). -/
def State.joinAt (s : State) (hops : Nat) (moved : Bool) : State :=
  if s.maxHops < hops then
    if s.fabric.st = .far then s
    else (s.modFab (fun x => { x with st := .far, report := { x.report with due := none, out := none } })).raiseDev 1487
  else if s.fabric.st ≠ .joined then
    (s.modFab (fun x => { x with st := .joined, report := { x.report with w := s.tBackoff, refresh := 0 } })).scheduleReport
  else if moved then s.scheduleReport else s

/-- One transition of R198. -/
def State.electOnce (s : State) : State :=
  if !s.fabricRuns || s.fabPorts.isEmpty then
    let s := s.modFab (fun x => { x with st := .isolated, settle := 0, report := { x.report with due := none, out := none } })
    let s := s.setBest
    if s.glb.mode = .anchor then s.changeMode .member 0 0xFFFF else s
  else
    let old := s.fabric.best
    match s.fabric.st with
    | .isolated => if s.glb.mode = .member then (s.modFab (fun x => { x with st := .electing, settle := 0 })).setBest else s
    | .electing =>
      let s := s.setBest
      match s.fabric.best with
      | some c => if c.port.isSome && c.anchored then s.joinAt c.hops true else s
      | none => s
    | .anchored =>
      let s := s.setBest
      match s.fabric.best with
      | some c => if c.port.isNone then s else (if s.glb.mode = .anchor then s.toElecting.changeMode .member 0 0xFFFF else s.toElecting)
      | none => if s.glb.mode = .anchor then s.toElecting.changeMode .member 0 0xFFFF else s.toElecting
    | _ =>
      let s := s.setBest
      match old, s.fabric.best with
      | some a, some c =>
        if c.port.isSome && c.anchored && a.serial == c.serial && a.nonce == c.nonce then
          s.joinAt c.hops (a.hops != c.hops || a.port != c.port)
        else s.toElecting
      | _, _ => s.toElecting

/-- The election runs until it rests (R198). -/
def State.doElect (s : State) : State := s.electOnce.electOnce.electOnce

/-- The own candidacy has been best for SETTLE MTICK (R198): MEMBER becomes ANCHOR. A port that has carried a HELLO in this MTICK, or
has its backoff to pass, carries the next at an MTICK edge (R199). -/
def State.electionSettled (s : State) : State :=
  let own := match s.fabric.best with | some c => c.port.isNone | none => false
  if s.fabric.st ≠ .electing ∨ s.glb.mode ≠ .member ∨ !own ∨ s.fabric.settle < s.tSettle then s
  else
    let r := s.changeMode .anchor 0 0xFFFF |>.drawBelow 65536
    let s := r.2.modFab (fun x => { x with st := .anchored, nonce := r.1, bestSeq := 1, sinceBeat := 0 })
    let s := s.setBest
    let s := s.each s.fabPorts (fun s p =>
      let x := tget fabPort0 s.fabric.ports p
      if x.backoff = 0 ∧ !x.sentNow then s.sendHello p else s.modFabPort p (fun x => { x with due := true }))
    s.scheduleReport

/-- A port's advertisement, or an anchor's sequence, lapses (R197). -/
def State.adLapse (s : State) (p : Nat) (anchor : Bool) : State :=
  let x := tget fabPort0 s.fabric.ports p
  if anchor then
    match x.hello with
    | some (_, h) =>
      (s.modFab (fun y => { y with beats := y.beats.map (fun b =>
        if b.serial = h.serial ∧ b.nonce = h.nonce.val ∧ s.tDead ≤ b.age then { b with lapsed := true } else b) })).push .elect
    | none => s
  else if x.hello.isSome ∧ s.tDead ≤ x.age then (s.modFabPort p (fun x => { x with lapsed := true })).push .elect
  else s

/-- A Brodoth link became ACTIVE: backoff and first HELLO (R198, R199), routes (R208). -/
def State.fabPortUp (s : State) (p : Nat) : State :=
  let r := s.drawBelow s.tBackoff
  let s := r.2.modFabPort p (fun _ => { fabPort0 with backoff := r.1, due := true })
  ((if s.hopActive p then s.routePortChanged p else s).push .elect).push .recheck

/-- A Brodoth link left ACTIVE (R197, R198, R211). -/
def State.fabPortDown (s : State) (p : Nat) : State :=
  (s.modFab (fun x => { x with ports := tput fabPort0 x.ports p fabPort0 })).push .elect

/-! ### Remote commands (R203 to R206) -/

/-- A CMD received at its destination (R204): a refusal is answered at once. -/
def State.cmdReceive (s : State) (p : Nat) (f : Fmp) : State :=
  let refuse := fun (st : Nat) =>
    (s.modFab (fun x => { x with refused := wrapInc 8 x.refused })).fmpAnswer f 6 [BitVec.ofNat 64 st, 0, 0, 0]
  let anchor : Option Quad := s.fabric.best.map (·.serial)
  if s.fabric.st ≠ .joined ∨ anchor ≠ some f.source then refuse 2
  else if !s.remoteEn then refuse 3
  else if 16 ≤ s.fabric.remotes.length then refuse 1
  else
    (s.modFab (fun x => { x with remotes := x.remotes ++ [⟨f.seq.val, p, f.source, reversePath f.ret f.hopCount.val, f.hopCount.val⟩] })).push
      (.takeCmd (.remote p f.seq.val f.source.toNat) f.body)

/-- The CMD_RSP of a command that ended (R204, R205): the way recorded when it came. -/
def State.cmdRespond (s : State) (p seq src : Nat) (cpl : List Quad) : State :=
  match s.fabric.remotes.find? (fun r => r.port == p && r.seq == seq && r.source.toNat == src) with
  | some r =>
    (s.modFab (fun x => { x with remotes := x.remotes.erase r })).fmpForward
      { version := 1, typ := 6, hopPtr := 0, hopCount := Fin.ofNat 16 r.hopCount, seq := Fin.ofNat 65536 seq, path := r.path, ret := 0,
        source := s.serial, dest := r.source, body := [0, 0] ++ cpl }
  | none => s

/-- A CMD_RSP received at its destination (R203). -/
def State.rspReceive (s : State) (f : Fmp) : State := s.push (.cmdRsp f.seq.val (bitsOf (f.body.getD 0 0).toNat 3 0) (f.body.drop 2))

/-! ### Reception (R190 to R194) -/

/-- An FMP received on a port. -/
def State.fmpReceive (s : State) (p : Nat) (f : Fmp) : State :=
  let s := s.useWords [4, 0xA] (some p) none
  if !s.fabricRuns then s
  else if f.version ≠ 1 then s.fmpDrop
  else match f.typ.val with
    | 1 => s.helloReceive p f.source (helloOf f.body)
    | 2 | 7 => s.upTree p f
    | 3 | 4 | 5 | 6 =>
      if f.hopPtr.val = 0 ∨ f.hopCount.val < f.hopPtr.val ∨ 8 < f.hopCount.val then s.fmpDrop
      else
        let f := { f with ret := setPath f.ret (f.hopPtr.val - 1) p }
        if f.hopPtr.val < f.hopCount.val then s.fmpForward f
        else if f.dest ≠ s.serial then s.fmpDrop
        else match f.typ.val with
          | 3 => s.reportAck f.seq.val
          | 4 => s.reportBusy f.seq.val
          | 5 => s.cmdReceive p f
          | _ => s.rspReceive f
    | _ => s.fmpDrop

/-! ### MTICK (R198, R199, R201, R202, R38) -/

/-- Fabric mode at an MTICK edge. -/
def State.fabTick (s : State) : State :=
  if !s.fabricRuns then s
  else
    let s := s.modFab (fun x => { x with
      beats := x.beats.map (fun b => { b with age := b.age + 1 }), settle := x.settle + 1, sinceBeat := x.sinceBeat + 1,
      report := { x.report with due := x.report.due.map (· - 1), out := x.report.out.map (fun o => (o.1, o.2 + 1)), refresh := x.report.refresh + 1 } })
    let s := s.each s.fabPorts (fun s p =>
      s.modFabPort p (fun x => { x with age := x.age + 1, sinceSent := x.sinceSent + 1, backoff := x.backoff - 1, sentNow := false }))
    let s := if s.fabric.st = .anchored ∧ s.tHello ≤ s.fabric.sinceBeat then
        (s.modFab (fun x => { x with bestSeq := wrapInc 16 x.bestSeq, sinceBeat := 0 })).helloDue none else s
    let s := s.each s.fabPorts (fun s p =>
      let x := tget fabPort0 s.fabric.ports p
      if x.backoff = 0 ∧ (x.due ∨ s.tHello ≤ x.sinceSent) then s.sendHello p else s)
    let rf := s.dirF 0xA00004 7 0
    let s := if rf ≠ 0 ∧ 16 * rf ≤ s.fabric.report.refresh then
        (s.modReport (fun r => { r with refresh := 0 })).scheduleReport else s
    let s := if s.fabric.prod ≠ s.fabric.prodTold ∧ s.fabric.st = .anchored then
        (s.modFab (fun x => { x with prodTold := x.prod })).mgmtMsix (s.dirF 0xA00028 6 0) else s
    match s.timeMode, s.fabric.upstream with
    | .member, some p => s.sendTimeReq p
    | _, _ => s

/-- A valid time response (R38, R42, R237): HOPS follows it, and the first of an MTICK on the upstream port gives the
measurement. Times are in units of 2^-16 ns. -/
def State.timeRspUse (s : State) (p t1 t2 t3 t4 hops : Nat) : State :=
  if s.timeMode = .member ∧ s.fabric.upstream = some p then
    let s := s.modFab (fun x => { x with upHops := hops })
    let s := { s with spine := { s.spine with missed := 0 } }
    if s.spine.measured then s
    else s.measure (s.thetaOf p (t1 * 2 ^ 24) (t2 * 2 ^ 24) (t3 * 2 ^ 24) (t4 * 2 ^ 24))
  else s

end Sys2Proof.Machine
end

