-- ==== Sys2Proof/Machine/Power.lean ====
section
/-!
DEFINITION. Slot power channels (R356 to R365), feed selection (R366), early warning (R368), the main rails' enable (R369) and
the thermal trip (R416).
-/
namespace Sys2Proof.Machine

/-- Change power entry. -/
def State.modPow (s : State) (f : Power → Power) : State := { s with power := f s.power }
/-- A slot channel. -/
def State.slotCh (s : State) (k : Nat) : SlotChan := tget slot0 s.power.slots k
/-- Change a slot channel. -/
def State.modSlotCh (s : State) (k : Nat) (f : SlotChan → SlotChan) : State :=
  s.modPow (fun x => { x with slots := tmod slot0 x.slots k f })

/-- The base of a slot's registers (R371). -/
def offSlot (k : Nat) : Nat := 0x1100000 + 0x40 * k
/-- PWR_SLOTss_CTL.EN. -/
def State.slotEn (s : State) (k : Nat) : Bool := bitOf (s.dir (offSlot k)).toNat 31
/-- PWR_SLOT_RETRY fields (R371): RETRY_MAX, RETRY_WAIT in MTICK, GOOD_RESET in MTICK, PRES_DEB. -/
def State.retryMax (s : State) : Nat := s.dirF 0x1100400 31 28
/-- The retry wait in MTICK: 100 ms are 160. -/
def State.retryWait (s : State) : Nat := 160 * s.dirF 0x1100400 23 16
/-- The good running that clears RETRIES, in MTICK: 1 s is 1,600. -/
def State.goodReset (s : State) : Nat := 1600 * s.dirF 0x1100400 15 8
/-- The insertion debounce in MTICK. -/
def State.presDeb (s : State) : Nat := s.dirF 0x1100400 7 0

/-- Fields of the limits a channel took (R371). -/
def SlotChan.max (c : SlotChan) : Nat := fld c.cfg 7 0
/-- ILIM in mA. -/
def SlotChan.ilim (c : SlotChan) : Nat := 100 * fld c.lim 31 24
/-- FAULT_T. -/
def SlotChan.faultT (c : SlotChan) : Nat := fld c.lim 23 16
/-- PCHG_TO. -/
def SlotChan.pchgTo (c : SlotChan) : Nat := fld c.lim 15 8
/-- PCHG_VDS in mV. -/
def SlotChan.pchgVds (c : SlotChan) : Nat := 20 * fld c.lim 7 0

/-- The channel's limits as its registers hold them now. -/
def State.slotWords (s : State) (k : Nat) (c : SlotChan) : SlotChan :=
  { c with cfg := s.dir (offSlot k + 4), lim := s.dir (offSlot k + 8), therm := s.dir (offSlot k + 0xC), tau := s.dir (offSlot k + 0x10) }

/-- The port of a slot, while PORT_V = 1: as the channel took it at its last entry into PENDING, or, in OFF, as its register holds it
(R365). -/
def State.slotPort (s : State) (k : Nat) : Option Nat :=
  let w := if (s.slotCh k).phase = .off then s.dir (offSlot k + 4) else (s.slotCh k).cfg
  if bitOf w.toNat 25 then some (fld w 31 26) else none

/-- Gates off, PWRGD withdrawn and PERST asserted, at once. -/
def SlotChan.down (c : SlotChan) : SlotChan :=
  { c with gate := false, pchg := false, pwrgd := false, perst := true, fault := none, faultFresh := false, pgFresh := false,
           release := none, evals := 0 }

/-- Enter PENDING: the limits are taken (R365). While a PORT record contains the port and the slot's bit of ELG_SLOT_OFF is set, the
channel goes on to CONTAINED (R327, R365). -/
def State.toPending (s : State) (k : Nat) : State :=
  let s := s.modSlotCh k (fun c => { s.slotWords k c with phase := .pending, age := 0, evals := 0 })
  if (s.slotPort k).any (s.contained .port) ∧ bitOf (s.act 0xE04004).toNat k then
    s.modSlotCh k (fun c => { c.down with phase := .contained, wasLatched := false })
  else s

/-- A channel changes only by EN, trips, presence and containment (the table under Across the modes). DESIGN CHOICE (log 105): no channel is
admitted, retried, rearmed or held back by VIN then, and RETRIES stands; one that was admitted before goes on to ON. -/
def State.slotsStill (s : State) : Bool := s.glb.mode == .quiesced

/-- A trip (R358, R361). -/
def State.slotTrip (s : State) (k cause : Nat) : State :=
  let s := s.modSlotCh k (fun c =>
    { c.down with cause := cause, trips := wrapInc 8 c.trips, age := 0,
                  phase := if c.retries < s.retryMax then .faultWait else .latched })
  s.raise { raise0 with src := 1504 + k, aux := cause, port := s.slotPort k }

/-- Powered or powering: the states a trip can end (R358). -/
def SlotPhase.powering : SlotPhase → Bool
  | .precharge | .ramp | .on => true
  | _ => false

/-! ### Enable, rearm, presence (R358, R362) -/

/-- EN = 1 is written (R358): OFF goes to EMPTY outside ENDPAPER. Gates that EN = 0 turns off turn off all the same. -/
def State.slotEnable (s : State) (k : Nat) : State :=
  let s := s.setDir (offSlot k) (0x80000000)
  if (s.slotCh k).phase = .off ∧ s.glb.mode ≠ .endpaper then
    s.modSlotCh k (fun c => { s.slotWords k c with phase := .empty, age := 0 })
  else s

/-- The always-on time in CCLK: MTICK edges and what passed since (R25). -/
def State.auxClock (s : State) : Nat := 1000000 * s.spine.ticks + s.spine.cclk

/-- A channel goes to OFF (R358): PERST at once, the gates at an MTICK edge at least 100 µs later, counted from the first
write where they are still to turn off. -/
def State.slotOff (s : State) (k : Nat) : State :=
  s.modSlotCh k (fun c => { c with
    phase := .off, perst := true, retries := 0, fault := none, faultFresh := false, pgFresh := false, release := none, evals := 0, age := 0,
    closing := if c.closing.isSome then c.closing else if c.gate || c.pchg || c.pwrgd then some s.auxClock else none })

/-- EN = 0 is written. -/
def State.slotDisable (s : State) (k : Nat) : State := (s.setDir (offSlot k) 0).slotOff k

/-- REARM is written (R358). -/
def State.slotRearm (s : State) (k : Nat) : State :=
  if (s.slotCh k).phase = .latched ∧ !s.slotsStill then
    let s := s.modSlotCh k (fun c => { c with retries := 0 })
    if (s.slotCh k).present then s.toPending k else s.modSlotCh k (fun c => { c with phase := .empty, age := 0 })
  else s

/-- A card is seen (R358, R362). -/
def State.slotSeen (s : State) (k : Nat) : State :=
  if (s.slotCh k).present then s
  else s.modSlotCh k (fun c => { c with
    present := true, held := 0, absent := none, phase := if c.phase = .empty then .inserting else c.phase,
    age := if c.phase = .empty then 0 else c.age })

/-- Presence is lost (R362). -/
def State.slotLost (s : State) (k : Nat) : State :=
  if !(s.slotCh k).present then s
  else s.modSlotCh k (fun c =>
    let c := { c with present := false, held := 0, absent := some 0 }
    match c.phase with
    | .inserting => { c with phase := .empty, age := 0 }
    | .pending | .precharge | .ramp | .on => { c.down with phase := .empty, age := 0 }
    | _ => c)

/-- Presence has held for PRES_DEB (R358). -/
def State.slotDebounced (s : State) (k : Nat) : State :=
  if (s.slotCh k).phase = .inserting ∧ s.presDeb ≤ (s.slotCh k).age then s.toPending k else s

/-- The absence timer reaches 200 ms, that is 320 MTICK (R362). -/
def State.slotAbsent (s : State) (k : Nat) : State :=
  match (s.slotCh k).absent with
  | some a =>
    if a < 320 then s
    else s.modSlotCh k (fun c => { c with
      retries := 0, phase := if c.phase = .faultWait ∨ c.phase = .latched then .empty else c.phase })
  | none => s

/-! ### Timers and comparators (R358, R363, R364) -/

/-- The pre-charge timer expires. -/
def State.slotPchgTimeout (s : State) (k : Nat) : State :=
  if (s.slotCh k).phase = .precharge ∧ (s.slotCh k).pchgTo ≤ (s.slotCh k).age then s.slotTrip k 4 else s

/-- The ramp timer of 16 MTICK expires. -/
def State.slotRampTimeout (s : State) (k : Nat) : State :=
  if (s.slotCh k).phase = .ramp ∧ 16 ≤ (s.slotCh k).age then s.slotTrip k 5 else s

/-- The fault timer expires. -/
def State.slotOvercurrent (s : State) (k : Nat) : State :=
  match (s.slotCh k).fault with
  | some a => if ((s.slotCh k).phase = .ramp ∨ (s.slotCh k).phase = .on) ∧ (s.slotCh k).faultT ≤ a then s.slotTrip k 2 else s
  | none => s

/-- Current at or above 2 × ILIM, by comparator. -/
def State.slotShort (s : State) (k : Nat) : State := if (s.slotCh k).phase.powering then s.slotTrip k 1 else s

/-- The current reaches ILIM in RAMP or ON (R358, R363). -/
def State.slotLimit (s : State) (k : Nat) : State :=
  let c := s.slotCh k
  if (c.phase ≠ .ramp ∧ c.phase ≠ .on) ∨ c.fault.isSome then s
  else if c.phase = .on ∧ c.pgFresh then
    s.modSlotCh k (fun c => { c with
      phase := .ramp, pwrgd := false, release := none, pgFresh := false, pgRaces := wrapInc 8 c.pgRaces, fault := some 0, faultFresh := true,
      evals := 0, age := 0 })
  else s.modSlotCh k (fun c => { c with fault := some 0, faultFresh := true })

/-- VIN falls below VIN_UV (R358, R364): not a trip. -/
def State.slotUv (s : State) : State :=
  let s := if s.power.vinLow then s else (s.modPow (fun x => { x with vinLow := true })).raiseDev 1525
  s.each (List.range 16) (fun s k =>
    if (s.slotCh k).phase.powering ∧ !s.slotsStill then (s.modSlotCh k SlotChan.down).toPending k else s)

/-- The retry timer has expired, Tj is at or below TJ_RESTART and presence has held (R358, R360). -/
def State.slotTj (s : State) (c : SlotChan) : Int :=
  (Int.ofNat (s.dirF 0x1100408 31 24) - 64) * 2 ^ 32 + Int.ofNat (c.t1 + c.t2)

/-- TJ_RESTART as it acts (R371). -/
def SlotChan.restart (c : SlotChan) : Nat := min (fld c.therm 7 0) (fld c.therm 15 8 - 1)

/-- The retry (R358). -/
def State.slotRetry (s : State) (k : Nat) : State :=
  let c := s.slotCh k
  if !s.slotsStill ∧ c.phase = .faultWait ∧ s.retryWait ≤ c.age ∧ s.slotTj c ≤ Int.ofNat c.restart * 2 ^ 32 ∧ c.present ∧ s.presDeb ≤ c.held then
    (s.modSlotCh k (fun c => { c with retries := min (c.retries + 1) 15 })).toPending k
  else s

/-- PERST is released 160 MTICK after power-good (R358, R359). -/
def State.slotRelease (s : State) (k : Nat) : State :=
  match (s.slotCh k).release with
  | some a => if (s.slotCh k).phase = .on ∧ 160 ≤ a then s.modSlotCh k (fun c => { c with perst := false, release := none }) else s
  | none => s

/-- PWRGD has held for GOOD_RESET s (R358). -/
def State.slotGood (s : State) (k : Nat) : State :=
  if !s.slotsStill ∧ (s.slotCh k).phase = .on ∧ s.goodReset ≠ 0 ∧ s.goodReset ≤ (s.slotCh k).age then s.modSlotCh k (fun c => { c with retries := 0 })
  else s

/-! ### Containment (R365, R327) -/

/-- The slots that serve a device port and whose bit is set in the active ELG_SLOT_OFF. -/
def State.offSlots (s : State) (p : Nat) : List Nat :=
  (List.range 16).filter (fun k => s.slotPort k == some p && bitOf (s.act 0xE04004).toNat k)

/-- PORT containment removes the slots' power (R365). -/
def State.slotContain (s : State) (p : Nat) : State :=
  s.each (s.offSlots p) (fun s k => s.modSlotCh k (fun c =>
    match c.phase with
    | .pending | .precharge | .ramp | .on | .faultWait | .latched =>
      { c.down with phase := .contained, wasLatched := decide (c.phase = .latched) }
    | _ => c))

/-- A containing record is cleared (R365): with the last one the slots come back (R327). -/
def State.slotUncontain (s : State) (p : Nat) : State :=
  if s.contained .port p then s
  else s.each (List.range 16) (fun s k =>
    if (s.slotCh k).phase = .contained ∧ s.slotPort k = some p then
      if (s.slotCh k).wasLatched then s.modSlotCh k (fun c => { c with phase := .latched })
      else if (s.slotCh k).present then s.toPending k
      else s.modSlotCh k (fun c => { c with phase := .empty, age := 0 })
    else s)

/-! ### The MTICK of the slots (R356 to R360) -/

/-- The measurement of a slot in an MTICK. -/
def measOf (ms : List SlotMeas) (k : Nat) : SlotMeas := (ms.find? (fun m => m.slot.val == k)).getD ⟨0, 0, 0, 0, 0, false⟩

/-- T1 or T2 after an MTICK (R360): a step of a / 65,536 toward P × Θ, P in mW and Θ in 1/div K/W. -/
def poleStep (t a p theta div : Nat) : Nat := (t * (65536 - a) + a * (p * theta * 2 ^ 32 / (1000 * div))) / 65536

/-- Thermal model, measured values and ages of one channel at an MTICK edge. -/
def SlotChan.tick (c : SlotChan) (m : SlotMeas) (now : Nat) : SlotChan :=
  let p := if c.gate then m.power.val else 0
  let c := { c with
    t1 := poleStep c.t1 (fld c.tau 15 0) p (fld c.therm 23 16) 16, t2 := poleStep c.t2 (fld c.tau 31 16) p (fld c.therm 31 24) 4,
    current := m.current.val, vds := m.vds.val, age := c.age + 1, fault := c.fault.map (· + 1), release := c.release.map (· + 1),
    held := if c.present then c.held + 1 else 0, absent := c.absent.map (· + 1) }
  match c.closing with
  | some t => if t + 160000 ≤ now then { c with gate := false, pchg := false, pwrgd := false, closing := none } else c
  | none => c

/-- The evaluation of one channel at an MTICK edge (R358, R363). A mean current at or above ILIM starts the fault timer as the comparator
does. -/
def State.slotEval (s : State) (k : Nat) (m : SlotMeas) : State :=
  let c := s.slotCh k
  let tooHot := decide (Int.ofNat (fld c.therm 15 8) * 2 ^ 32 < s.slotTj c)
  let limiting := decide (c.ilim ≤ m.current.val) && (c.phase == .ramp || c.phase == .on)
  if c.phase.powering ∧ tooHot then s.slotTrip k 3
  else
    let s := match c.phase with
      | .off => if s.slotEn k ∧ s.glb.mode ≠ Mode.endpaper then
          s.modSlotCh k (fun c => { s.slotWords k c with phase := .empty, age := 0 }) else s
      | .empty => if c.present then s.modSlotCh k (fun c => { c with phase := .inserting, age := 0 }) else s
      | .precharge =>
        if m.vds.val ≤ c.pchgVds then
          if 1 ≤ c.evals then s.modSlotCh k (fun c => { c with phase := .ramp, gate := true, evals := 0, age := 0 })
          else s.modSlotCh k (fun c => { c with evals := 1 })
        else s.modSlotCh k (fun c => { c with evals := 0 })
      | .ramp =>
        let ok := m.enhanced && decide (100 * s.dirF 0x1100404 23 16 ≤ m.vout.val)
        let s := if m.enhanced then s.modSlotCh k (fun c => { c with pchg := false }) else s
        if ok ∧ c.fault.isNone ∧ !limiting then
          if 1 ≤ c.evals then
            s.modSlotCh k (fun c => { c with phase := .on, pwrgd := true, pgFresh := true, release := some 0, evals := 0, age := 0 })
          else s.modSlotCh k (fun c => { c with evals := 1 })
        else
          let race := ok && (c.faultFresh || c.fault.isNone) && decide (1 ≤ c.evals)
          s.modSlotCh k (fun c => { c with evals := 0, pgRaces := if race then wrapInc 8 c.pgRaces else c.pgRaces })
      | _ => s
    s.modSlotCh k (fun c => { c with
      fault := if m.current.val < c.ilim then none else if limiting && c.fault.isNone then some 0 else c.fault, faultFresh := false,
      pgFresh := c.pgFresh && decide (c.phase = SlotPhase.on) && decide (c.age = 0) })

/-- The channels in some states. -/
def State.slotsIn (s : State) (f : SlotPhase → Bool) : List Nat := (List.range 16).filter (fun k => f (s.slotCh k).phase)

/-- A group of R357 has a channel in some states. -/
def State.groupIn (s : State) (g : Nat) (f : SlotPhase → Bool) : Bool := (s.slotsIn f).any (fun k => k / 4 == g)

/-- The raising of G at an MTICK edge (R357). -/
def State.stageStep (s : State) : State :=
  let g := s.power.stage
  if 3 ≤ g then s
  else
    let next : Bool := match s.power.admitted with
      | some a => !s.groupIn g (fun p => p == .pending || p == .precharge || p == .ramp) || decide (64 ≤ a)
      | none => !s.groupIn g (fun p => p == .pending) && (s.slotsIn (fun p => p == .pending)).any (fun k => decide (g < k / 4))
    if next then s.modPow (fun x => { x with stage := g + 1, admitted := none }) else s

/-- Watts of the channels that draw on the budget (R356). -/
def State.budgetUsed (s : State) : Nat := (s.slotsIn SlotPhase.powering).foldl (fun n k => n + (s.slotCh k).max) 0

/-- Admission of one channel (R356): the answer says that budget alone holds it back. -/
def State.slotAdmit (s : State) (k : Nat) : Bool × State :=
  let c := s.slotCh k
  if c.phase ≠ .pending ∨ s.slotsStill ∨ s.power.stage < k / 4 ∨ s.power.vinLow ∨ 4 ≤ (s.slotsIn (fun p => p == .precharge)).length then (false, s)
  else if s.dirF 0x1100408 15 0 < s.budgetUsed + c.max then (true, s)
  else
    let s := s.modSlotCh k (fun c => { c with phase := .precharge, pchg := true, age := 0, evals := 0 })
    (false, if k / 4 = s.power.stage ∧ s.power.admitted.isNone then s.modPow (fun x => { x with admitted := some 0 }) else s)

/-- The slots at an MTICK edge. -/
def State.slotsTick (s : State) (ms : List SlotMeas) (vin : Nat) : State :=
  let now := s.auxClock
  let s := s.modPow (fun x => { x with vbus := vin, admitted := x.admitted.map (· + 1) })
  let s := if vin < 100 * s.dirF 0x1100404 31 24 then s.slotUv else s.modPow (fun x => { x with vinLow := false })
  let s := s.each (List.range 16) (fun s k => s.modSlotCh k (fun c =>
    let c := if c.phase = .off then s.slotWords k c else c
    c.tick (measOf ms k) now))
  let s := s.each (List.range 16) (fun s k => s.slotEval k (measOf ms k))
  let s := s.stageStep.stageStep.stageStep
  let r := (List.range 16).foldl (fun acc k =>
    let r := acc.2.slotAdmit k
    (acc.1 || r.1, r.2)) (false, s)
  let was := r.2.power.budgetWait
  let s := r.2.modPow (fun x => { x with budgetWait := r.1 })
  if r.1 && !was then s.raiseDev 1526 else s

/-! ### Feeds (R366) and early warning (R368) -/

/-- A feed. -/
def State.feedOf (s : State) (b : Bool) : Feed := if b then s.power.feedB else s.power.feedA
/-- Change a feed. -/
def State.modFeed (s : State) (b : Bool) (f : Feed → Feed) : State :=
  s.modPow (fun x => if b then { x with feedB := f x.feedB } else { x with feedA := f x.feedA })
/-- PRIMARY. -/
def State.primary (s : State) : Bool := bitOf (s.dir 0x1100800).toNat 31

/-- PWR_WARN_N is asserted (R368). -/
def State.warnOn (s : State) : State :=
  if s.power.warn then s
  else (s.modPow (fun x => { x with warn := true, warnAt := s.auxClock, warns := wrapInc 8 x.warns })).raiseDev 1523

/-- The feed controller's state causes the warning (R368). -/
def FeedPhase.warns : FeedPhase → Bool
  | .none => true
  | .brk _ => true
  | .ramp _ fresh => fresh
  | .on _ => false

/-- The feed that is connected (R366). -/
def State.activeFeed (s : State) : Option Bool := match s.power.feed with | .on b => some b | _ => none

/-- Set the controller's state; a cause of R368 asserts the warning. -/
def State.setFeed (s : State) (f : FeedPhase) : State :=
  let s := s.modPow (fun x => { x with feed := f, feedAge := 0, feedEvals := 0 })
  if f.warns then s.warnOn else s

/-- A feed may be ramped: good, and not barred (R366). -/
def State.feedFree (s : State) (b : Bool) : Bool := (s.feedOf b).good && (s.feedOf b).barred.isNone

/-- In NONE, the primary feed, or else the other one, is ramped when good and not barred (R366). -/
def State.feedPick (s : State) : State :=
  if s.power.feed ≠ .none then s
  else
    if s.feedFree s.primary then s.setFeed (.ramp s.primary true)
    else if s.feedFree (!s.primary) then s.setFeed (.ramp (!s.primary) true)
    else s

/-- The active feed is not good, and the other is and is not barred: its gate turns off at once (R366). -/
def State.feedBreak (s : State) : State :=
  match s.activeFeed with
  | some x => if !(s.feedOf x).good ∧ s.feedFree (!x) then s.setFeed (.brk x) else s
  | none => s

/-- A feed has stayed in its window for 8 MTICK (R366); the other one too where it did so at the same edge (R369). -/
def State.feedGood (s : State) (b : Bool) : State :=
  if (s.feedOf b).inWindow < 8 ∨ (s.feedOf b).good then s
  else
    let turn := fun (s : State) (b : Bool) =>
      if 8 ≤ (s.feedOf b).inWindow ∧ !(s.feedOf b).good then s.modFeed b (fun x => { x with good := true, goodFor := 0 }) else s
    ((turn (turn s b) (!b)).feedPick).feedBreak

/-- A feed has stayed out of its window for 1 µs (R366, R370). -/
def State.feedBad (s : State) (b : Bool) : State :=
  if !(s.feedOf b).good then s.modFeed b (fun x => { x with inWindow := 0 })
  else
    ((s.modFeed b (fun x => { x with good := false, goodFor := 0, inWindow := 0 })).raiseDev (if b then 1521 else 1520)).feedBreak

/-- 16 MTICK without VBUS reaching the feed (R366). -/
def State.feedRampTimeout (s : State) : State :=
  match s.power.feed with
  | .ramp b _ =>
    if s.power.feedAge < 16 then s
    else (((s.setFeed .none).modFeed b (fun x => { x with barred := some 0 })).raiseDev 1524).feedPick
  | _ => s

/-- The bar of a feed ends after 1,600 MTICK (R366). -/
def State.feedBarEnd (s : State) (b : Bool) : State :=
  match (s.feedOf b).barred with
  | some a => if a < 1600 then s else ((s.modFeed b (fun x => { x with barred := none })).feedPick).feedBreak
  | none => s

/-- BBM has passed since the gate turned off (R366). -/
def State.breakEnd (s : State) : State :=
  match s.power.feed with
  | .brk b =>
    let s := s.setFeed (.ramp (!b) false)
    (s.modPow (fun x => { x with switches := wrapInc 8 x.switches })).raiseDev 1522
  | _ => s

/-- A write of PWR_FEED_CTL: another PRIMARY waits RETURN_DEB as primary (R366). -/
def State.feedCtlWritten (s0 s : State) : State := if s.primary = s0.primary then s else s.modPow (fun x => { x with primaryFor := 0 })

/-- The primary feed has been good for RETURN_DEB, as primary, with REVERT = 1 (R366): 100 ms are 160 MTICK. -/
def State.feedRevert (s : State) : State :=
  match s.power.feed with
  | .on b =>
    if b ≠ s.primary ∧ bitOf (s.dir 0x1100800).toNat 30 ∧ s.feedFree s.primary
        ∧ 160 * s.dirF 0x1100800 23 16 ≤ min (s.feedOf s.primary).goodFor s.power.primaryFor then s.setFeed (.brk b)
    else s
  | _ => s

/-- The active feed falls below WARN (R368). -/
def State.feedBelowWarn (s : State) : State :=
  match s.activeFeed with
  | some _ => (s.modPow (fun x => { x with belowWarn := true })).warnOn
  | none => s

/-- The feed that is active or selected (R366). -/
def FeedPhase.selected : FeedPhase → Option Bool
  | .ramp b _ | .on b => some b
  | _ => Option.none

/-- The warning ends at an MTICK edge (R368): WARN_MIN ms are 1,600,000 CCLK each, and the active or selected feed is at or above WARN +
HYST. -/
def State.warnRelease (s : State) : State :=
  let min : Bool := decide (s.power.warnAt + 1600000 * s.dirF 0x1100800 7 0 ≤ s.auxClock)
  let high : Bool := match s.power.feed.selected with
    | some b => decide (100 * s.dirF 0x1100804 15 8 + 20 * s.dirF 0x1100804 7 0 ≤ (s.feedOf b).mv)
    | none => false
  if s.power.warn ∧ min ∧ !s.power.feed.warns ∧ !s.power.belowWarn ∧ high then s.modPow (fun x => { x with warn := false }) else s

/-- A feed at an MTICK edge, at its measured voltage (R366). -/
def State.feedTick (s : State) (b : Bool) (mv : Nat) : State :=
  let inW := decide (100 * s.dirF 0x1100804 31 24 ≤ mv) && decide (mv ≤ 100 * s.dirF 0x1100804 23 16)
  s.modFeed b (fun x => { x with
    mv := mv, inWindow := if inW then x.inWindow + 1 else 0, goodFor := if x.good then x.goodFor + 1 else 0, barred := x.barred.map (· + 1) })

/-- The feed controller at an MTICK edge (R366, R368). -/
def State.feedsTick (s : State) (a b vbus : Nat) : State :=
  let s := (s.feedTick false a).feedTick true b
  let s := s.modPow (fun x => { x with feedAge := x.feedAge + 1, primaryFor := x.primaryFor + 1 })
  let s := match s.activeFeed with
    | some f =>
      if 100 * s.dirF 0x1100804 15 8 ≤ (s.feedOf f).mv then s.modPow (fun x => { x with belowWarn := false })
      else (s.modPow (fun x => { x with belowWarn := true })).warnOn
    | none => s
  match s.power.feed with
  | .ramp f _ =>
    let v := (s.feedOf f).mv
    if v ≤ vbus + 300 ∧ vbus ≤ v + 300 then
      if 1 ≤ s.power.feedEvals then s.setFeed (.on f) else s.modPow (fun x => { x with feedEvals := 1 })
    else s.modPow (fun x => { x with feedEvals := 0 })
  | .on _ => s.feedBreak
  | .none => s.feedPick
  | .brk _ => s

/-! ### Main rails and temperature (R369, R416) -/

/-- PWR_MAIN_CTL.EN is written (R369, R416): 1 has no effect while TRIPPED. -/
def State.mainEnable (s : State) (en : Bool) : State :=
  if en ∧ s.power.tripped then s else s.setDir 0x1100C00 (if en then 1 else 0)

/-- The sensors at an MTICK (R416): `t` is the hottest reading in °C + 64. -/
def State.thermTick (s : State) (t : Nat) : State :=
  let s := s.modPow (fun x => { x with temp := min t 255 })
  if 184 < t ∧ !s.power.tripped then
    (s.modPow (fun x => { x with tripped := true, tripCount := wrapInc 8 x.tripCount })).setDir 0x1100C00 0
  else if t ≤ 159 then s.modPow (fun x => { x with tripped := false })
  else s

end Sys2Proof.Machine
end

