-- ==== Sys2Proof/Machine/Boot.lean ====
section
/-!
DEFINITION. The colophon (R386 to R388), starts and their failures (R27, R379 to R383), mode requests (R27, R30).
-/
namespace Sys2Proof.Machine

/-- Change the management complex. -/
def State.modMgt (s : State) (f : Mgmt → Mgmt) : State := { s with mgmt := f s.mgmt }
/-- Change the start. -/
def State.modBoot (s : State) (f : Boot → Boot) : State := s.modMgt (fun m => { m with boot := f m.boot })

/-- MODE as GLB_MODE_STATUS encodes it (R29). -/
def modeCode : Mode → Nat
  | .off => 0
  | .aux => 1
  | .endpaper => 2
  | .test => 3
  | .standalone => 4
  | .member => 5
  | .anchor => 6
  | .quiesced => 7

/-- LC as R387 encodes it. -/
def lcCode : LifeCycle → Nat
  | .blank => 0
  | .provision => 1
  | .deployed => 2
  | .returned => 3
  | .retired => 4

/-! ### The colophon (R386 to R388) -/

/-- The valid records, in the order of their numbers: the newest last. -/
def Mgmt.validColo (m : Mgmt) : List ColoRec :=
  let l := (m.colo.map (·.2)).filter (fun r => !r.bad)
  l.foldl (fun acc r => acc.filter (fun x => decide (x.seq ≤ r.seq)) ++ [r] ++ acc.filter (fun x => decide (r.seq < x.seq))) []

/-- The newest valid record, the queued ones being newer than the written ones (R386). -/
def Mgmt.newest (m : Mgmt) : Option ColoRec :=
  match m.coloQueue.getLast? with
  | some r => some r
  | none => m.validColo.getLast?

/-- F, the preferred image and TRIAL, as the newest record has them; without one 0, A and 0 (R381, R386). -/
def Mgmt.fails (m : Mgmt) : Nat := (m.newest.map (·.fails)).getD 0
/-- PREF. -/
def Mgmt.pref (m : Mgmt) : Bool := (m.newest.map (·.pref)).getD false
/-- TRIAL. -/
def Mgmt.trial (m : Mgmt) : Bool := (m.newest.map (·.trial)).getD false

/-- The running image, coded as IMAGE (R387). -/
def Boot.running (b : Boot) : Nat := if b.phase = .firmware ∨ b.phase = .lossWait then b.image else 2

/-- The next record of an event (R387): what carries on from the newest record, and what the state holds. -/
def State.nextColo (s : State) (event cause source : Nat) : ColoRec :=
  let m := s.mgmt
  let o := m.newest
  let run : Bool := m.boot.running != 2
  { seq := (match o with | some r => (r.seq + 1) % 2 ^ 32 | none => 0), event := event, mode := modeCode s.glb.mode,
    lc := lcCode m.otp.lc, image := m.boot.running, pref := m.pref, trial := m.trial, fails := m.fails, cause := cause % 256,
    starts := (o.map (·.starts)).getD 0, failed := (o.map (·.failed)).getD 0, ns := if s.glb.coreUp then s.ns else 0,
    mticks := m.boot.mticks % 2 ^ 32, source := source, version := if run then m.boot.version else 0,
    svn := if run then m.boot.svn else 0, floor := m.otp.floor, meas := if run then m.boot.meas % 2 ^ 64 else 0, serial := s.glb.serial,
    bad := false }

/-- Queue a record (R386): at most 8 wait. -/
def State.putColo (s : State) (r : ColoRec) : State :=
  if s.mgmt.coloQueue.length < 8 then s.modMgt (fun m => { m with coloQueue := m.coloQueue ++ [r] }) else s

/-- Append a record of an event, with changes of its own (R386 to R388). -/
def State.colophon (s : State) (event cause source : Nat) (f : ColoRec → ColoRec := id) : State :=
  s.putColo (f (s.nextColo event cause source))

/-- The place of the next record, and the sector that is then erased in the background (R386): entering a sector erases the one
after it. -/
def Mgmt.writeColo (m : Mgmt) (r : ColoRec) : Mgmt :=
  let at' := match m.coloAt with | some k => (k + 1) % 1024 | none => 0
  let colo := if at' % 64 = 0 then
      let e := (at' / 64 + 1) % 16
      m.colo.filter (fun x => x.1 / 64 != e && x.1 / 64 != at' / 64)
    else m.colo
  { m with colo := tput coloRec0 colo at' r, coloAt := some at' }

/-- The oldest queued record is written, behind at most one flash operation (R386). -/
def State.coloAppend (s : State) : State :=
  match s.mgmt.coloQueue, s.mgmt.flashOp with
  | r :: t, none => s.modMgt (fun m => { m.writeColo r with coloQueue := t })
  | _, _ => s

/-- Words Q0 to Q6 of a record (R387). -/
def coloWords (r : ColoRec) : List Nat :=
  [ place r.seq 63 32 + place r.event 31 24 + place r.mode 23 21 + place r.lc 20 18 + place r.image 17 16 + place (b2n r.pref) 15 15
      + place (b2n r.trial) 14 14 + place r.fails 13 11 + place r.cause 7 0,
    place r.starts 63 32 + place r.failed 31 0, r.ns % 2 ^ 64, place r.mticks 63 32 + place r.source 31 16,
    place r.version 63 32 + place r.svn 31 16 + place r.floor 15 0, r.meas % 2 ^ 64, r.serial % 2 ^ 64 ]

/-- The 64 bytes of a record: its CRC covers bytes 0 to 59 (R387). -/
def coloBytes (r : ColoRec) : List Byte :=
  let head := (coloWords r).flatMap (leBytes 8)
  let crc := digestOf 0 (head ++ leBytes 4 0)
  head ++ leBytes 4 0 ++ leBytes 4 crc

/-! ### Flash content (R378) -/

/-- A byte of flash outside the colophon area; erased bytes read 0xFF. -/
def Mgmt.flashByte (m : Mgmt) (a : Nat) : Byte := 255 - tget 0 m.flash a

/-- Bytes of flash: the colophon area holds its records (R378, R386). -/
def Mgmt.flashRead (m : Mgmt) (a n : Nat) : List Byte :=
  (List.range n).map (fun i =>
    let b := a + i
    if b < 0x10000 then
      match tfind m.colo (b / 64) with
      | some r => (coloBytes r).getD (b % 64) 0xFF
      | none => 0xFF
    else m.flashByte b)

/-- Write bytes of flash. -/
def Mgmt.flashPut (m : Mgmt) (a : Nat) (l : List Byte) : Mgmt :=
  { m with flash := tputs 0 m.flash (l.zipIdx.map (fun x => (a + x.2, 255 - x.1))) }

/-- The base of an image slot (R378): A, or B. -/
def slotBaseOf (b : Bool) : Nat := if b then 0x100000 else 0x10000

/-- A little-endian number of an image's manifest (R379). -/
def Mgmt.imgNum (m : Mgmt) (b : Bool) (off n : Nat) : Nat := leNat (m.flashRead (slotBaseOf b + off) n)

/-- A byte of an image's code. -/
def Mgmt.codeByte (m : Mgmt) (b : Bool) (i : Nat) : Nat := (m.flashByte (slotBaseOf b + 0x2000 + i)).toNat

/-- A key slot that is programmed and not revoked (R380, R389). -/
def Otp.usable (o : Otp) (k : Nat) : Bool := (tget keySlot0 o.slots k).digest.isSome && !(tget keySlot0 o.slots k).revoked
/-- Some key slot is usable. -/
def Otp.anyUsable (o : Otp) : Bool := (List.range 4).any o.usable

/-- A usable key slot holds the digest of a pair of public keys (R379, R380, R390). -/
def Otp.holdsKeys (o : Otp) (keys : List Byte) : Bool :=
  (List.range 4).any (fun k => o.usable k && (tget keySlot0 o.slots k).digest == some (Config.sha384 keys))

/-- An image verifies (R380). Whether each signature over M verifies, Ed25519 and ML-DSA-65, is what the crypto engine finds.
DEDUCED (log 107): a start plan of length 0 has no mode byte, and its image does not verify. -/
def Mgmt.verifies (m : Mgmt) (b ed pq : Bool) : Bool :=
  let len := m.imgNum b 0x10 4
  let plan := m.imgNum b 0x18 4
  let mode := m.codeByte b plan
  m.imgNum b 0 4 == 0x445A4331 && m.imgNum b 4 4 == 1 && len % 4 == 0 && decide (len ≤ 524288) && decide (m.imgNum b 0x14 4 < len)
    && decide (1 ≤ m.imgNum b 0x1C 4) && decide (plan + m.imgNum b 0x1C 4 ≤ len) && decide (1 ≤ mode ∧ mode ≤ 3)
    && m.otp.holdsKeys (m.flashRead (slotBaseOf b + 0x20) 0x7C0) && decide (m.otp.floor ≤ m.imgNum b 0xC 2) && ed && pq

/-- The boot ROM copies an image's code into code SRAM before it verifies it (R379, R382). DEDUCED (log 106): one whose CODE_LEN is beyond the
limit is not copied. -/
def Mgmt.copyImage (m : Mgmt) (b : Bool) : Mgmt :=
  let base := slotBaseOf b + 0x2000
  let len := m.imgNum b 0x10 4
  if 524288 < len then m
  else { m with
    sram := (m.flash.filter (fun x => decide (base ≤ x.1 ∧ x.1 < base + len))).foldl (fun t x => tput 255 t (x.1 - base) (255 - x.2))
      (m.sram.filter (fun x => decide (len ≤ x.1))) }

/-- The debug master is enabled (R392). -/
def Mgmt.debugEnabled (m : Mgmt) : Bool :=
  match m.otp.lc with
  | .blank | .provision | .returned => true
  | .deployed => m.debugOn
  | .retired => false

/-- Measurement 4 (R393): the security state. -/
def Mgmt.securityNow (m : Mgmt) : Nat :=
  Config.measurement 4 ([BitVec.ofNat 8 (lcCode m.otp.lc), BitVec.ofNat 8 m.otp.floor, BitVec.ofNat 8 (b2n m.debugEnabled)]
    ++ (List.range 4).map (fun k => BitVec.ofNat 8 (b2n (m.otp.usable k))) ++ m.latches.map (BitVec.ofNat 8))

/-! ### Core power (R21, R27) -/

/-- The core stops: what lies in it is lost (R21). The always-on domain keeps its registers, the counts of MTICK edges, the LOCK bits
that hold until cold reset, and the levels of the pins. -/
def State.coreOff (s : State) : State :=
  { s with
    glb := { s.glb with coreUp := false, bindAccepted := false, firstBound := false, firstFired := false, quiesceCause := 0 },
    spine := { spine0 with ticks := s.spine.ticks },
    regs := { regs0 with
      mirror := s.regs.mirror, mirDec := { s.regs.mirDec with fresh := false }, mirSwc := { s.regs.mirSwc with fresh := false },
      mirGth := { s.regs.mirGth with fresh := false }, mirPwr := { s.regs.mirPwr with fresh := false },
      direct := s.regs.direct.filter (fun x => x.1 < 0x100000 || decide (0x1100000 ≤ x.1)),
      badDirect := s.regs.badDirect.filter (fun o => o < 0x100000 || decide (0x1100000 ≤ o)),
      latDirect := s.regs.latDirect.filter (fun o => o < 0x100000 || decide (0x1100000 ≤ o)),
      lockHvh := s.regs.lockHvh, lockPwr := s.regs.lockPwr, lockMgt := s.regs.lockMgt },
    ledger := ledger0, path := path0, mig := migs0,
    links := { links0 with ports := (s.links.ports.filter (fun x => x.2.perst)).map (fun x => (x.1, { port0 with perst := true })) },
    agd := agd0, hiers := [], dmv := dmv0, fabric := fabric0, rings := rings0, obs := obs0, counts := [], raises := [],
    mgmt := { s.mgmt with
      waiting := [],
      csetRead := s.mgmt.csetRead.map (fun r => if r.host.isSome then { r with bm := none, failed := true } else r) } }

/-- PWR_MAIN_CTL.EN as it stands. -/
def State.mainEn (s : State) : Bool := bitOf (s.dir 0x1100C00).toNat 0

/-- Every slot channel goes to OFF (R358: ENDPAPER). -/
def State.slotsOff (s : State) : State := s.each (List.range 16) (fun s k => if (s.slotCh k).phase = .off then s else s.slotOff k)

/-! ### Starts (R381, R382) -/

/-- An image's code: 0 A, 1 B (R387). -/
def imgCode (b : Bool) : Nat := b2n b

/-- The first choice (R382): the preferred image with F = 0, else the one that the newest record does not name. -/
def Mgmt.firstChoice (m : Mgmt) : Bool :=
  if m.fails = 0 then m.pref
  else match m.newest with
    | some r => if r.image = 0 then true else if r.image = 1 then false else m.pref
    | none => m.pref

/-- A start goes to ENDPAPER (R27, R381). -/
def Mgmt.toEndpaper (m : Mgmt) : Bool :=
  match m.otp.lc with
  | .blank | .returned | .retired => true
  | .provision => !m.otp.anyUsable || decide (3 ≤ m.fails)
  | .deployed => decide (3 ≤ m.fails)

/-- A start begins (R381): the boot ROM decides, and records its decision before it loads any image. Each start draws a nonce (R390),
derives new keys (R393) and sets the group of R357 to 0. -/
def State.beginStart (s : State) : State :=
  let (n, s) := s.draw
  let s := s.modMgt (fun m => { m with
    nonce := n % 2 ^ 64, keysGone := false, spdmDoe := spdm0, spdmMctp := spdm0,
    boot := { boot0 with image := imgCode m.firstChoice } })
  let s := s.modPow (fun x => { x with stage := 0, admitted := none })
  let s := { s with glb := { s.glb with bindAccepted := false, firstBound := false, firstFired := false } }
  if s.mgmt.toEndpaper then
    let s := s.modBoot (fun b => { b with phase := .endpaper, image := 2 })
    (((s.setMode .endpaper).colophon 7 0 0xFFFF).setDir 0x1100C00 1).slotsOff
  else
    let s := (s.modBoot (fun b => { b with phase := .rom, counted := true })).modMgt (fun m => m.copyImage m.firstChoice)
    s.colophon 1 0 0xFFFF (fun r => { r with
      image := imgCode s.mgmt.firstChoice, fails := min (r.fails + 1) 7, starts := min (r.starts + 1) 0xFFFFFFFF,
      failed := min (r.failed + 1) 0xFFFFFFFF })

/-- The device goes to AUX with the main rails disabled. -/
def State.toAux (s : State) : State := ((s.setMode .aux).setDir 0x1100C00 0).coreOff

/-- A start fails (R27, R381, R382): counted already, recorded with its cause; a trial preference moves to the other image. -/
def State.startFail (s : State) (cause : Nat) : State :=
  let ran : Bool := s.mgmt.boot.phase == .firmware
  let moves := ran && s.mgmt.trial && s.mgmt.boot.image == imgCode s.mgmt.pref
  let rec0 := fun (r : ColoRec) => { r with mode := 1, pref := if moves then !r.pref else r.pref, trial := if moves then false else r.trial }
  let s := s.colophon 4 cause 0xFFFF rec0
  (s.toAux).modBoot (fun b => { boot0 with phase := .failWait, mticks := b.mticks })

/-- The start succeeds (R381, R382): at its first binding, or at entry into TEST. -/
def State.startOk (s : State) : State :=
  let b := s.mgmt.boot
  let s := s.colophon 3 0 0xFFFF (fun r => { r with
    fails := 0, failed := if b.counted ∧ r.failed ≠ 0xFFFFFFFF then r.failed - 1 else r.failed,
    pref := if r.trial then b.image == 1 else r.pref, trial := false })
  s.modBoot (fun b => { b with counted := false })

/-- Verification of a copied image completes (R382): measurements are recorded and firmware runs, the other image is copied and tried, or
the start fails. `memErr`: an uncorrectable error in code SRAM (R372). -/
def State.verifyDone (s : State) (ed pq memErr : Bool) : State :=
  let m := s.mgmt
  if m.boot.phase ≠ .rom then s
  else if memErr then s.startFail 6
  else
    let b : Bool := m.boot.image == 1
    if m.verifies b ed pq then
      let meas := Config.sha384 (m.flashRead (slotBaseOf b) 0x800 ++ m.flashRead (slotBaseOf b + 0x2000) (m.imgNum b 0x10 4))
      let s := s.modBoot (fun x => { x with
        phase := .firmware, onTrial := m.trial && m.pref == b, wait := 0, plan := m.codeByte b (m.imgNum b 0x18 4),
        version := m.imgNum b 8 4, svn := m.imgNum b 0xC 2, meas := meas, security := some m.securityNow })
      s.colophon 2 0 0xFFFF
    else if m.boot.second then (s.modBoot (fun x => { x with image := 2 })).startFail 1
    else (s.modBoot (fun x => { x with image := imgCode (!b), second := true, held := true })).modMgt (·.copyImage (!b))

/-- The boot ROM runs for a start under way: a glitch then fails it (R391). -/
def State.inRom (s : State) : Bool := s.mgmt.boot.phase == .rom

/-! ### Pins and supplies (R27, R406, R408) -/

/-- Everything that a cold reset resets (R17, R27). Fuses, flash and colophon records keep their content; queued appends are lost. -/
def State.coldReset (s : State) : State :=
  { State.reset with
    glb := { glb0 with mode := .off, coldRstHigh := s.glb.coldRstHigh, vddAuxOk := s.glb.vddAuxOk, auxRefclkOk := s.glb.auxRefclkOk,
                       serial := s.glb.serial },
    links := { links0 with ports := (s.links.ports.filter (fun x => x.2.perst)).map (fun x => (x.1, { port0 with perst := true })) },
    mgmt := { mgmt0 with otp := s.mgmt.otp, flash := s.mgmt.flash, colo := s.mgmt.colo, coloAt := s.mgmt.coloAt,
                         tap := if s.glb.vddAuxOk then s.mgmt.tap else .idcode, cells := if s.glb.vddAuxOk then s.mgmt.cells else [] },
    outbox := s.outbox, pending := s.pending, freeCtr := s.freeCtr }

/-- OFF ends (R27, R408): the supply is in range, the clock runs and COLD_RST_N is high; OOB_SEL is sampled into MGT_OOB_CTL.MODE
(R407). -/
def State.leaveOff (s : State) (strap : Bool) : State :=
  if (s.glb.mode = .off ∨ s.mgmt.boot.phase = .idle) ∧ s.glb.coldRstHigh ∧ s.glb.vddAuxOk ∧ s.glb.auxRefclkOk then
    let s := s.setDir 0x1200060 (BitVec.ofNat 32 (0x62 + place (b2n strap) 8 8))
    let s := { s with glb := { s.glb with mode := .aux } }
    let s := if s.power.feed.warns then s.warnOn else s
    (s.colophon 6 0 0xFFFF).beginStart
  else s

/-- COLD_RST_N goes low (R27). -/
def State.coldLow (s : State) : State := ({ s with glb := { s.glb with coldRstHigh := false } }).coldReset
/-- COLD_RST_N rises (R27). -/
def State.coldHigh (s : State) (strap : Bool) : State := ({ s with glb := { s.glb with coldRstHigh := true } }).leaveOff strap
/-- AUX_REFCLK is lost (R408). -/
def State.auxRefLost (s : State) : State := ({ s with glb := { s.glb with auxRefclkOk := false } }).coldReset
/-- AUX_REFCLK has run for 1 ms again (R408). -/
def State.auxRefBack (s : State) (strap : Bool) : State := ({ s with glb := { s.glb with auxRefclkOk := true } }).leaveOff strap
/-- VDD_AUX leaves its range (R27, R406). `torn`: the record being written is torn, so that its CRC fails (R386). -/
def State.auxOut (s : State) (torn : Bool) : State :=
  let s := match s.mgmt.coloQueue with
    | r :: _ => if torn then s.modMgt (fun m => m.writeColo { r with bad := true }) else s
    | [] => s
  ({ s with glb := { s.glb with vddAuxOk := false } }).coldReset
/-- VDD_AUX is in range again (R27). -/
def State.auxIn (s : State) (strap : Bool) : State := ({ s with glb := { s.glb with vddAuxOk := true } }).leaveOff strap

/-! ### The way to the core (R27) -/

/-- The start, or ENDPAPER, waits for the core. -/
def State.awaitsCore (s : State) : Bool :=
  !s.glb.coreUp && ((s.glb.mode == .aux && s.mgmt.boot.phase == .firmware) || s.glb.mode == .endpaper)

/-- PWR_MAIN_CTL.EN is written (R369, R416): 1 has no effect while TRIPPED. After a loss of the main rails, firmware's EN = 1 begins a
new start, no earlier than 100 ms later (R27). -/
def State.mainEnableWritten (s : State) (en : Bool) : State :=
  let was := s.mainEn
  let s := s.mainEnable en
  if en && s.mainEn && !was then
    if s.mgmt.boot.phase = .lossWait ∧ 160 ≤ s.mgmt.boot.wait then s.beginStart else s.modBoot (fun b => { b with wait := 0 })
  else s

/-- PWR_MAIN_GOOD asserts. -/
def State.mainGoodUp (s : State) : State :=
  if s.glb.mode = .off then s else (s.modPow (fun x => { x with mainGood := true })).modBoot (fun b =>
    if s.awaitsCore then { b with wait := 0 } else b)

/-- 100 ms without PWR_MAIN_GOOD (R27). -/
def State.mainTimeout (s : State) : State :=
  if s.glb.mode = .aux ∧ s.mgmt.boot.phase = .firmware ∧ s.mainEn ∧ !s.power.mainGood ∧ 160 ≤ s.mgmt.boot.wait then s.startFail 2 else s

/-- The core PLL locks. -/
def State.pllLocked (s : State) : State :=
  if s.awaitsCore ∧ s.power.mainGood then s.modBoot (fun b => { b with pll := true }) else s

/-- The core PLL is not locked within 1 ms of PWR_MAIN_GOOD (R27). -/
def State.pllTimeout (s : State) : State :=
  if s.glb.mode = .aux ∧ s.awaitsCore ∧ s.power.mainGood ∧ !s.mgmt.boot.pll ∧ 1 ≤ s.mgmt.boot.wait then s.startFail 3 else s

/-- Core memories are initialised (R27, R382, R388): the mode that the start plan selects. -/
def State.coreInit (s : State) : State :=
  if s.awaitsCore ∧ s.power.mainGood ∧ s.mgmt.boot.pll then
    let s := { s with glb := { s.glb with coreUp := true } }
    let s := if s.mgmt.boot.held then (s.modBoot (fun b => { b with held := false })).raiseDev 1531 else s
    let s := if s.glb.mode = .endpaper then
        (((s.checkProvided false).modStack 0 (fun x => { x with calibrating := true })).push .reselect).push .recheck
      else match s.mgmt.boot.plan with
        | 1 => (s.setMode .test).startOk
        | 2 => (s.setMode .standalone).colophon 6 0 0xFFFF
        | _ => ((s.setMode .member).colophon 6 0 0xFFFF).push .elect
    s
  else s

/-- 900 ms without a completed first binding (R27): 1,440 MTICK. -/
def State.firstTimeout (s : State) : State :=
  if (s.glb.mode = .standalone ∨ s.glb.mode = .member) ∧ !s.glb.firstBound ∧ 1440 ≤ s.mgmt.boot.mticks then s.startFail 4 else s

/-- The 100 ms after a failed start end (R27): 160 MTICK. -/
def State.newStart (s : State) : State :=
  if s.mgmt.boot.phase = .failWait ∧ 160 ≤ s.mgmt.boot.wait then s.beginStart else s

/-- PWR_MAIN_GOOD deasserts (R27, R381). -/
def State.mainLost (s : State) : State :=
  let s := s.modPow (fun x => { x with mainGood := false })
  if s.glb.mode = .off ∨ s.glb.mode = .aux then s.modBoot (fun b => { b with pll := false })
  else
    let c := s.mgmt.boot.counted
    let s := s.colophon 5 0 0xFFFF (fun r => { r with
      mode := 1, fails := if c then r.fails - 1 else r.fails, failed := if c ∧ r.failed ≠ 0xFFFFFFFF then r.failed - 1 else r.failed })
    s.toAux.modBoot (fun b => { boot0 with phase := .lossWait, image := b.running, version := b.version, svn := b.svn, meas := b.meas,
                                           plan := b.plan, security := b.security, mticks := b.mticks })

/-! ### Mode requests (R27, R30) -/

/-- A request that R27 does not allow (R30). -/
def State.modeRefuse (s : State) : State := { s with glb := { s.glb with refused := wrapInc 8 s.glb.refused } }

/-- Entry into QUIESCED (R27): the device has no candidacy there, and an anchor yields (R195, R198). -/
def State.enterQuiesced (s : State) (cause source : Nat) : State :=
  let was := s.glb.mode
  let s := s.setMode .quiesced
  let s := { s with glb := { s.glb with quiesceCause := cause, enteredFrom := was } }
  ((s.modBoot (fun b => { b with wait := 0 })).colophon 6 cause source).migQuiesce.push .elect

/-- The restart of R27: REQ = 4, and the end of a life-cycle change (R389). -/
def State.restart (s : State) : State := ((s.setMode .aux).colophon 6 0 0xFFFF).toAux.beginStart

/-- Record 255 is open. -/
def State.fatalOpen (s : State) : Bool := (s.openOf .device 0).isSome

end Sys2Proof.Machine
end

