-- ==== Sys2Proof/Machine/Mgmt.lean ====
section
/-!
DEFINITION. The management complex: mode requests (R30, R31), preference (R383), flash (R384), life cycle and command sets (R389, R390),
sensors (R391), the bridge's lock (R376), attestation (R394, R395), the out-of-band port (R396) and the test access port (R418).
-/
namespace Sys2Proof.Machine

/-! ### Mode requests (R27, R30, R31) -/

/-- GLB_MODE_CTL.REQ (R30). On entering QUIESCED with cause 1 or 2 a LEAVE goes upstream, migrations end (R31, R177, R201). -/
def State.modeRequest (s : State) (req : Nat) : State :=
  let running : Bool := s.glb.mode == .standalone || s.glb.mode == .member || s.glb.mode == .anchor
  match req with
  | 0 => s
  | 1 | 2 => if running then ((s.enterQuiesced req 0xFFFF).sendLeave.migQuiesce).push .elect else s.modeRefuse
  | 3 =>
    if s.glb.mode = .quiesced ∧ !s.fatalOpen then
      let m : Mode := if s.glb.enteredFrom = .anchor then .member else s.glb.enteredFrom
      let s := s.changeMode m 0 0xFFFF
      (({ s with glb := { s.glb with quiesceCause := 0 } }).push .elect).push .retryHeld
    else s.modeRefuse
  | 4 => if s.glb.mode = .quiesced ∨ s.glb.mode = .test ∨ s.glb.mode = .endpaper then s.restart else s.modeRefuse
  | _ => s

/-- 50 ms after entry into QUIESCED with cause 1 or 2 (R31): every bookmark still in use is answered and freed. 50 ms are 80 MTICK. -/
def State.quiesceTimeout (s : State) : State :=
  if s.glb.mode = .quiesced ∧ (s.glb.quiesceCause = 1 ∨ s.glb.quiesceCause = 2) ∧ 80 ≤ s.mgmt.boot.wait then
    s.each s.path.bookmarks (fun s x => if x.2.quarantined then s else s.push (.bmResult x.1 none 0 .quiesced))
  else s

/-! ### Preference (R383) -/

/-- A write of MGT_START_CTL that is refused. -/
def State.startRefuse (s : State) : State := s.modMgt (fun m => { m with startRefused := wrapInc 8 m.startRefused })

/-- MGT_START_CTL.ACT (R383). -/
def State.startCtl (s : State) (act : Nat) : State :=
  match act with
  | 0 => s
  | 5 => if s.glb.mode = .endpaper then s.colophon 8 0 0xFFFF (fun r => { r with fails := 0 }) else s.startRefuse
  | a =>
    if s.mgmt.verifying.isSome then s.startRefuse
    else if a ≤ 4 then s.modMgt (fun m => { m with verifying := some (a % 2 == 0, decide (3 ≤ a)) })
    else s

/-- The verification of PREFER or TRIAL ends (R383). -/
def State.prefVerified (s : State) (ed pq : Bool) : State :=
  match s.mgmt.verifying with
  | none => s
  | some (b, trial) =>
    let s := s.modMgt (fun m => { m with verifying := none })
    if s.mgmt.verifies b ed pq then s.colophon 12 0 0xFFFF (fun r => { r with pref := b, trial := trial }) else s.startRefuse

/-! ### Flash (R384) -/

/-- The range of the running image's slot, if an image runs. -/
def State.inRunningSlot (s : State) (a : Nat) : Bool :=
  match s.mgmt.boot.running with
  | 0 => decide (0x10000 ≤ a ∧ a < 0x100000)
  | 1 => decide (0x100000 ≤ a ∧ a < 0x1F0000)
  | _ => false

/-- A write of MGT_FLASH_CMD (R384, R399). -/
def State.flashCmd (s : State) (op a : Nat) : State :=
  let refuse := s.modMgt (fun m => { m with flashRefused := wrapInc 8 m.flashRefused })
  let slots : Bool := decide (0x10000 ≤ a ∧ a < 0x1F0000) && !s.inRunningSlot a
  let go := fun (o : FlashOp) => s.modMgt (fun m => { m with flashOp := some (o, a) })
  match op with
  | 1 => if s.mgmt.flashOp.isSome ∨ a % 256 ≠ 0 then refuse else go .read
  | 2 => if s.mgmt.flashOp.isSome ∨ a % 256 ≠ 0 ∨ !slots then refuse else go .program
  | 3 => if s.mgmt.flashOp.isSome ∨ a % 4096 ≠ 0 ∨ !slots then refuse else go .erase
  | _ => s

/-- The offset of MGT_FLASH_BUF_k (R399). -/
def offFlashBuf (k : Nat) : Nat := 0x1200100 + 4 * k

/-- The page buffer as bytes. -/
def State.flashBuf (s : State) : List Byte := (List.range 64).flatMap (fun k => leBytes 4 (s.dir (offFlashBuf k)).toNat)

/-- Load the page buffer. -/
def State.setFlashBuf (s : State) (l : List Byte) : State :=
  s.each (List.range 64) (fun s k => s.setDir (offFlashBuf k) (BitVec.ofNat 32 (leNat ((l.drop (4 * k)).take 4))))

/-- Free bytes: what an operation that failed leaves is not stated. -/
def State.drawBytes (s : State) (n : Nat) : List Byte × State :=
  ((List.range n).map (fun i => BitVec.ofNat 8 (Config.freeNat (s.freeCtr + i))), { s with freeCtr := s.freeCtr + n })

/-- A flash operation ends (R384); programming clears bits of an SPI NOR page. -/
def State.flashEnd (s : State) (err : Bool) : State :=
  match s.mgmt.flashOp with
  | none => s
  | some (op, a) =>
    let s := s.modMgt (fun m => { m with flashOp := none, flashError := err })
    match op, err with
    | .read, false => s.setFlashBuf (s.mgmt.flashRead a 256)
    | .read, true => let (d, s) := s.drawBytes 256; s.setFlashBuf d
    | .program, false =>
      let d := (s.flashBuf.zip (s.mgmt.flashRead a 256)).map (fun x => x.1 &&& x.2)
      s.modMgt (fun m => m.flashPut a d)
    | .program, true => let (d, s) := s.drawBytes 256; s.modMgt (fun m => m.flashPut a d)
    | .erase, false => s.modMgt (fun m => { m with flash := m.flash.filter (fun x => !decide (a ≤ x.1 ∧ x.1 < a + 4096)) })
    | .erase, true => let (d, s) := s.drawBytes 4096; s.modMgt (fun m => m.flashPut a d)

/-! ### Reading the colophon (R399) -/

/-- MGT_COLO_IDX.BACK is written. -/
def State.coloSelect (s : State) (back : Nat) : State :=
  (s.setDir 0x1200020 (BitVec.ofNat 32 (back % 1024))).modMgt (fun m => { m with coloReady := false })

/-- The record that lies `back` before the newest valid one. -/
def Mgmt.coloBack (m : Mgmt) (back : Nat) : Option ColoRec := m.validColo.reverse[back]?

/-- The selected record is loaded. -/
def State.coloLoad (s : State) : State :=
  s.modMgt (fun m => { m with coloReady := true, coloData := m.coloBack (s.dirF 0x1200020 9 0) })

/-! ### Life cycle and command sets (R389, R390) -/

/-- Wipe the secure region (R373, R391): zero, 0x2002_0000 to 0x2003_FFFF; the attestation keys are gone until the next start. -/
def State.wipe (s : State) : State :=
  s.modMgt (fun m => { m with keysGone := true, spad := m.spad.filter (fun x => x.1 < 0x20020000) })

/-- A little-endian number of a command set. -/
def setNum (l : List Byte) (off n : Nat) : Nat := leNat ((l.drop off).take n)

/-- The commands of a set. -/
def setCmds (l : List Byte) (n : Nat) : List CsetCmd :=
  (List.range n).map (fun k =>
    let c := (l.drop (0x20 + 64 * k)).take 64
    ⟨(c.getD 0 0).toNat, (c.getD 1 0).toNat, c.drop 16⟩)

/-- Bytes 2 to 15 of a command are zero. -/
def setZeros (l : List Byte) (n : Nat) : Bool :=
  (List.range n).all (fun k => ((l.drop (0x20 + 64 * k + 2)).take 14).all (· == 0))

/-- A life-cycle state of an ARG (R387, R390). -/
def lcOf : Nat → Option LifeCycle
  | 0 => some .blank
  | 1 => some .provision
  | 2 => some .deployed
  | 3 => some .returned
  | 4 => some .retired
  | _ => none

/-- ADVANCE is allowed by R389's table. -/
def Otp.mayAdvance (o : Otp) (t : LifeCycle) : Bool :=
  match o.lc, t with
  | .blank, .provision => true
  | .provision, .deployed => o.anyUsable
  | .deployed, .returned => true
  | .provision, .retired | .deployed, .retired | .returned, .retired => true
  | _, _ => false

/-- The fuses after a command, or nothing where R389 or R390 does not accept it. `last`: no command follows. -/
def Otp.apply (o : Otp) (c : CsetCmd) (last : Bool) : Option Otp :=
  match c.op with
  | 1 =>
    match lcOf c.arg with
    | some t =>
      if o.mayAdvance t && last then
        some { o with lc := t,
                      slots := if t = .returned then (List.range 4).foldl (fun l k => tmod keySlot0 l k (fun x => { x with revoked := true })) o.slots else o.slots }
      else none
    | none => none
  | 2 =>
    if o.lc = .provision ∧ c.arg < 4 ∧ (tget keySlot0 o.slots c.arg).digest.isNone then
      some { o with slots := tmod keySlot0 o.slots c.arg (fun x => { x with digest := some (leNat c.data) }) }
    else none
  | 3 =>
    if (o.lc = .provision ∨ o.lc = .deployed) ∧ c.arg < 4 then
      let n := { o with slots := tmod keySlot0 o.slots c.arg (fun x => { x with revoked := true }) }
      if n.anyUsable then some n else none
    else none
  | 4 =>
    let f := (c.data.getD 0 0).toNat
    if (o.lc = .provision ∨ o.lc = .deployed) ∧ o.floor ≤ f then some { o with floor := f } else none
  | 5 => if o.lc = .deployed then some o else none
  | _ => none

/-- Every command of a set is accepted, each after the ones before it. -/
def Otp.acceptsAll (o : Otp) : List CsetCmd → Bool
  | [] => true
  | c :: t => match o.apply c t.isEmpty with | some n => n.acceptsAll t | none => false

/-- The modes in which a life-cycle change is made (R389). -/
def Mode.mayAdvance : Mode → Bool
  | .quiesced | .test | .endpaper => true
  | _ => false

/-- RESULT of the check of a whole set (R390, R399): 1 when it may be applied. The digest of the key block at K is that of a usable slot;
whether each signature verifies is what the crypto engine finds. -/
def State.csetCheck (s : State) (l : List Byte) (ed pq : Bool) : Nat :=
  let n := setNum l 6 2
  let signed : Bool := s.mgmt.otp.lc == .deployed
  let size := 0x20 + 64 * n + if signed then 5357 else 0
  let cmds := setCmds l n
  if setNum l 0 4 ≠ 0x43534554 ∨ setNum l 4 2 ≠ 1 ∨ n = 0 ∨ 16 < n ∨ l.length ≠ size ∨ setNum l 0x18 8 ≠ 0 ∨ !setZeros l n then 2
  else if setNum l 8 8 ≠ s.glb.serial then 3
  else if setNum l 0x10 8 ≠ s.mgmt.nonce then 4
  else if signed ∧ !s.mgmt.otp.holdsKeys ((l.drop (0x20 + 64 * n)).take 1984) then 5
  else if signed ∧ !(ed && pq) then 6
  else if !s.mgmt.otp.acceptsAll cmds then 7
  else if cmds.any (fun c => c.op == 1) ∧ !s.glb.mode.mayAdvance then 8
  else 1

/-- A submission ends (R390): RESULT, and a new NONCE; a refusal raises source 1,534. -/
def State.csetEnd (s : State) (result : Nat) : State :=
  let (n, s) := s.draw
  let s := s.modMgt (fun m => { m with
    nonce := n % 2 ^ 64, csetResult := result, csetBusy := false, csetQ := [],
    csetApplied := if result = 1 then wrapInc 8 m.csetApplied else m.csetApplied })
  if result = 1 then s else s.raiseDev 1534

/-- A set is read and checked (R390): refused, or its commands wait to be applied in order. -/
def State.csetSubmit (s : State) (data : Option (List Byte)) (ed pq : Bool) : State :=
  if s.mgmt.csetBusy then s
  else match data with
    | none => s.csetEnd 9
    | some l =>
      match s.csetCheck l ed pq with
      | 1 => s.modMgt (fun m => { m with csetBusy := true, csetQ := setCmds l (setNum l 6 2) })
      | r => s.csetEnd r

/-- Everything of a set has been read, or a read failed. -/
def CsetRead.ready (r : CsetRead) : Bool := r.failed || decide (r.len ≤ r.got.length)

/-- Change the read of a command set. -/
def State.modCset (s : State) (f : CsetRead → CsetRead) : State := s.modMgt (fun m => { m with csetRead := m.csetRead.map f })

/-- The reading of a command set goes on (R390): bytes of the open region of the local bus (R372); or reads of the management endpoint, of
at most 4,096 bytes (R85), checked by the guard as its operand reads are (R306), each with a bookmark (R23). An endpoint that may issue
nothing (R72) cannot read it (DEDUCED, log 85). -/
def State.csetFetch (s : State) : State :=
  match s.mgmt.csetRead with
  | none => s
  | some r =>
    if r.ready || r.bm.isSome then s
    else match r.host with
      | none =>
        if 0x20000000 ≤ r.addr ∧ r.addr + r.len ≤ 0x20020000 then
          s.modCset (fun r => { r with got := (List.range r.len).map (fun k => tget 0 s.mgmt.spad (r.addr + k)) })
        else s.modCset (fun r => { r with failed := true })
      | some h =>
        let a := r.addr + r.got.length
        let n := min (r.len - r.got.length) (4096 - a % 4096)
        let p := s.upPort h
        let t : Tlp := { tlp0 with op := .memRead, addr := BitVec.ofNat 64 a, len := n, reqId := s.fnRid h 1 }
        if !s.bmAvailable (some p) false then s
        else
          let g := if h = 48 then (true, s) else s.mepReadOk h a n
          if !g.1 || !g.2.mepOn h || !g.2.upAllowed h 1 t then g.2.modCset (fun r => { r with failed := true })
          else
            let y := g.2.devicePacket t
            let (b, s) := g.2.takeBookmark
              { bookmark0 with purpose := .cset, port := some p, hier := some h, tlp := t, slot := y.slot, gen := y.gen, tc := y.tc,
                               group := y.group, timer := s.timerOf .device, ports := [p], target := t.addr }
            let s := s.modCset (fun r => { r with bm := some b })
            if h = 48 then s.out (.tx p { t with tag := b } none 0 none 0)
            else s.launch { y with bookmark := some b, hier := some h } [copyTo p t]

/-- Something came of a read of a command set (R390): READ_ERROR unless it is data. -/
def State.csetResult (s : State) (b : Nat) (y : Bookmark) (x : BmResult) : State :=
  let mine := (s.mgmt.csetRead.bind (·.bm)) == some b
  let put := fun (s : State) (f : CsetRead → CsetRead) => if mine then s.modCset f else s
  let fail := fun (r : CsetRead) => { r with bm := none, failed := true }
  match x with
  | .answer st po d _ _ =>
    if st ≠ .ok ∨ po then put (s.bmAnswered b) fail
    else
      let n := y.returned + d.length
      let s := if y.tlp.len ≤ n then s.bmAnswered b else s.bmSet b { y with returned := n }
      put s (fun r => { r with got := r.got ++ d, bm := if y.tlp.len ≤ n then none else some b })
  | .expired | .synthesised => put (s.bmQuarantine b) fail
  | .flushed _ | .quiesced => put (s.bmFree b) fail

/-- MGT_CSET_CTL.GO (R390, R399): the set is read by the management endpoint through which the write came, or from the local bus; while
another is processed nothing changes. -/
def State.csetGo (s : State) (path : Path) (len : Nat) : State :=
  if s.mgmt.csetBusy then s
  else
    let host := match path with
      | .mf => if s.glb.mode = .endpaper then some 48 else s.privHier
      | .fw _ => none
    let a := 2 ^ 32 * (s.dir 0x1200034).toNat + (s.dir 0x1200030).toNat
    (s.modMgt (fun m => { m with csetBusy := true, csetRead := some ⟨host, a, len, [], none, false⟩ })).csetFetch

/-- CSET_SUBMIT (R390): the set that was read is checked; the crypto engine's findings are given. -/
def State.csetRun (s : State) (ed pq : Bool) : State :=
  match s.mgmt.csetRead with
  | none => s
  | some r =>
    if !r.ready then s
    else (s.modMgt (fun m => { m with csetBusy := false, csetRead := none })).csetSubmit (if r.failed then none else some r.got) ed pq

/-- The first waiting command of a set is applied, if it has this opcode (R389, R390); ADVANCE only while the mode is one of R389's, and else
the rest of the set is refused with RESULT 8. -/
def State.csetApply (s : State) (op : Nat) : State :=
  match s.mgmt.csetQ with
  | [] => s
  | c :: t =>
    if c.op ≠ op then s
    else if op = 1 ∧ !s.glb.mode.mayAdvance then s.csetEnd 8
    else match s.mgmt.otp.apply c t.isEmpty with
      | none => s.csetEnd 7
      | some o =>
        let s := s.modMgt (fun m => { m with otp := o, csetQ := t, debugOn := m.debugOn || op == 5 })
        if op = 1 then
          let s := if o.lc = .retired then
              s.modMgt (fun m => { m with flash := m.flash.filter (fun x => !decide (0x10000 ≤ x.1 ∧ x.1 < 0x1F0000)) }) else s
          ((s.wipe.colophon 11 0 0xFFFF).csetEnd 1).restart
        else if t.isEmpty then s.csetEnd 1 else s

/-- A piece of a command set comes over the out-of-band port; the last one submits it (R397). -/
def State.oobSetPiece (s : State) (piece : List Byte) (last : Bool) (ed pq : Bool) : State :=
  let l := s.mgmt.oobSet ++ piece
  let s := s.out (.oob .accepted)
  if last then (s.modMgt (fun m => { m with oobSet := [] })).csetSubmit (some l) ed pq
  else s.modMgt (fun m => { m with oobSet := l })

/-! ### Sensors (R391) -/

/-- A tamper input goes low: latched, counted, recorded; the secure region is wiped where Tn_ACT says so. -/
def State.tamper (s : State) (k : Nat) : State :=
  if s.glb.mode = .off then s
  else
    let s := s.modMgt (fun m => { m with latches := sadd m.latches k, tampers := wrapInc 8 m.tampers })
    let s := (s.colophon 9 0 1528).raiseDev 1528
    if s.dirF 0x1200050 (2 * k + 1) (2 * k) = 1 then s.wipe else s

/-- A glitch: latched, counted, recorded, the secure region wiped; while the boot ROM works on a start, the start fails. -/
def State.glitch (s : State) (k src : Nat) : State :=
  if s.glb.mode = .off then s
  else
    let s := s.modMgt (fun m => { m with latches := sadd m.latches k, glitches := wrapInc 8 m.glitches })
    let s := ((s.colophon 10 0 src).raiseDev src).wipe
    if s.inRom then s.startFail 5 else s

/-! ### The bridge (R374 to R377) -/

/-- A processor opens a locked sequence (R376). -/
def State.lockOpen (s : State) (p : Fin 2) : State :=
  if s.mgmt.brgLock.isNone then s.modMgt (fun m => { m with brgLock := some p }) else s

/-- The processor that holds the locked sequence closes it (R376). -/
def State.lockClose (s : State) (p : Fin 2) : State :=
  if s.mgmt.brgLock = some p then s.modMgt (fun m => { m with brgLock := none }) else s

/-- A locked sequence still open after 400 MPCLK is closed by the bridge (R376). -/
def State.lockLimit (s : State) : State :=
  if s.mgmt.brgLock.isSome then s.modMgt (fun m => { m with brgLock := none, lockLimits := wrapInc 8 m.lockLimits }) else s

/-- A management-side request lost a crossing, received a retry response and is reissued (R377). -/
def State.crossing (s : State) : State := s.modMgt (fun m => { m with retries := wrapInc 16 m.retries })

/-- A read through the bridge from the management side (R374). -/
def WaitAcc.bridgeRead : WaitAcc → Bool
  | .read (.fw _) _ | .debug _ none => true
  | _ => false

/-- Management-side reads outstanding (R374). -/
def State.bridgeReads (s : State) : Nat := (s.mgmt.waiting.filter WaitAcc.bridgeRead).length

/-- What R372 allows a master at a local address; `rom` says that the boot ROM runs. What the debug master may do R392 says. -/
def localAllows (rom : Bool) (m : LocalMaster) (u : LocalUse) (a : Nat) : Bool :=
  let within := fun (lo hi : Nat) => decide (lo ≤ a) && decide (a ≤ hi)
  let bootRom := within 0 0xFFFF
  let code := within 0x10000000 0x1007FFFF
  let spad := within 0x20000000 0x2003FFFF
  let views := within 0x30000000 0x3000FFFF || within 0x40000000 0x43FFFFFF || within 0x50000000 0x53FFFFFF
  match m with
  | .processor _ =>
    match u with
    | .execute => bootRom || code
    | .read => bootRom || code || (spad && (rom || !within 0x20020000 0x20027FFF)) || views
    | .write => code || (spad && (rom || !within 0x20020000 0x20027FFF)) || views
  | .debug =>
    match u with
    | .execute => false
    | .read => bootRom || code || spad || views
    | .write => code || spad || views
  | .dataPlane => u != .execute && within 0x20000000 0x2001FFFF

/-- A master's access meets an error response (R372), which a processor takes as an access fault. -/
def State.localError (s : State) : LocalMaster → State
  | .processor k => s.out (.accessFault k)
  | .debug => s.out (.value none)
  | .dataPlane => s

/-! ### Attestation (R393 to R395) -/

/-- The SPDM connection of a transport. -/
def State.spdmOf (s : State) (t : Transport) : Spdm := match t with | .doe => s.mgmt.spdmDoe | .mctp => s.mgmt.spdmMctp
/-- Change it. -/
def State.modSpdm (s : State) (t : Transport) (f : Spdm → Spdm) : State :=
  s.modMgt (fun m => match t with | .doe => { m with spdmDoe := f m.spdmDoe } | .mctp => { m with spdmMctp := f m.spdmMctp })

/-- SPDM is served: always over MCTP while the always-on domain runs; over DOE while a management endpoint is presented (R385, R394). -/
def State.spdmServed (s : State) (t : Transport) : Bool :=
  match t with
  | .mctp => s.glb.mode != .off
  | .doe => s.coreRuns

/-- Answer an SPDM request. -/
def State.spdmSay (s : State) (t : Transport) (r : SpdmRsp) : State := s.out (.spdm t r)

/-- A signed response: the Ed25519 signature over a message digest that GET_PQ_SIG on the same transport and session then refers to
(R395); without keys, ERROR with ErrorCode Unspecified, 0x05 (R391). -/
def State.spdmSigned (s : State) (t : Transport) (secured : Bool) (f : Nat → SpdmRsp) : State :=
  if s.mgmt.keysGone then s.spdmSay t (.error 5)
  else
    let (d, s) := s.draw
    (s.modSpdm t (fun x => if secured then { x with signedIn := some d } else { x with signed := some d })).spdmSay t (f d)

/-- A message of a secured session that is not open is no message (R394: it cannot be decrypted; log 85). -/
def State.spdmHeard (s : State) (t : Transport) (secured : Bool) (f : State → State) : State :=
  if secured && !(s.spdmOf t).session then s else f s

/-- A measurement by its index (R393): 1 and 4 alone in ENDPAPER (R385). The fourth is the recorded one of a run image (R382). -/
def State.measurement (s : State) (k : Nat) : Option Nat :=
  let m := s.mgmt
  if s.glb.mode = .endpaper ∧ (k = 2 ∨ k = 3) then none
  else match k with
    | 1 => some (Config.measurement 1 [])
    | 2 => some m.boot.meas
    | 3 => some (Config.measurement 3 [BitVec.ofNat 8 m.boot.plan])
    | 4 => some (m.boot.security.getD m.securityNow)
    | _ => none

/-- UnexpectedRequest of SPDM. -/
def spdmUnexpected : SpdmRsp := .error 4

/-- GET_VERSION begins the connection again. -/
def State.spdmVersion (s : State) (t : Transport) : State := (s.modSpdm t (fun _ => { spdm0 with version := true })).spdmSay t .version
/-- GET_CAPABILITIES. -/
def State.spdmCaps (s : State) (t : Transport) : State :=
  if (s.spdmOf t).version then (s.modSpdm t (fun x => { x with caps := true })).spdmSay t .capabilities else s.spdmSay t spdmUnexpected
/-- NEGOTIATE_ALGORITHMS. -/
def State.spdmAlgs (s : State) (t : Transport) : State :=
  if (s.spdmOf t).caps then (s.modSpdm t (fun x => { x with algs := true })).spdmSay t .algorithms else s.spdmSay t spdmUnexpected
/-- A request that needs the negotiation done. -/
def State.spdmWhen (s : State) (t : Transport) (ok : Bool) (f : State → State) : State := if ok then f s else s.spdmSay t spdmUnexpected
/-- GET_MEASUREMENTS: index 0 counts them, 0xFF asks for all (R393); an index that there is not is an InvalidRequest. -/
def State.spdmMeasure (s : State) (t : Transport) (secured : Bool) (k : Nat) (sign : Bool) : State :=
  let pick := fun (l : List Nat) => l.filterMap (fun j => (s.measurement j).map (fun v => (j, v)))
  let all := pick [1, 2, 3, 4]
  let list := if k = 255 then all else if k = 0 then [(0, all.length)] else pick [k]
  if list.isEmpty then s.spdmSay t (.error 1)
  else if sign then s.spdmSigned t secured (fun d => .measurements list (some d)) else s.spdmSay t (.measurements list none)
/-- KEY_EXCHANGE opens the handshake of a session. -/
def State.spdmKey (s : State) (t : Transport) : State :=
  if s.mgmt.keysGone then s.spdmSay t (.error 5)
  else (s.modSpdm t (fun x => { x with handshake := true, session := false, keys := 0, signedIn := none })).spdmSigned t false .keyExchange
/-- GET_PQ_SIG (R395): the same signature again until a new signed response of its transport and session replaces it. -/
def State.spdmPqSig (s : State) (t : Transport) (secured : Bool) : State :=
  if s.mgmt.keysGone then s.spdmSay t (.error 5)
  else match (if secured then (s.spdmOf t).signedIn else (s.spdmOf t).signed) with
    | some d => s.spdmSay t (.pqSig d)
    | none => s.spdmSay t spdmUnexpected

/-! ### The out-of-band port (R396) -/

/-- MGT_OOB_CTL.MODE is I3C. -/
def State.i3cMode (s : State) : Bool := bitOf (s.dir 0x1200060).toNat 8

/-- ENTDAA or SETDASA gives the dynamic address (R396). -/
def State.i3cAddress (s : State) (a : Nat) : State :=
  if s.i3cMode && s.glb.mode != .off then (s.modMgt (fun m => { m with oobAddr := some a })).out (.i3c a) else s

/-- The boot ROM serves the port (R397). -/
def State.bootRomServes (s : State) : Bool := s.mgmt.boot.phase != .firmware && s.mgmt.boot.phase != .lossWait

/-! ### The test access port (R418) -/

/-- The port runs whenever VDD_AUX and VDD_IO are in range. -/
def State.tapRuns (s : State) : Bool := s.glb.vddAuxOk

/-- Load an instruction. -/
def State.tapLoad (s : State) (i : TapInstr) : State := if s.tapRuns then s.modMgt (fun m => { m with tap := i }) else s

/-- The observe-only pins keep their functional value (R418). -/
def Pin.observeOnly : Pin → Bool
  | .slotGate _ | .slotPchg _ | .feedaGate | .feedbGate | .mainEn => true
  | _ => false

/-- The functional level of a pin (R403): driven low or high, or not driven. -/
def State.pinLevel (s : State) : Pin → Option Bool
  | .slotGate k => some (s.slotCh k.val).gate
  | .slotPchg k => some (s.slotCh k.val).pchg
  | .slotPwrgd k => some (s.slotCh k.val).pwrgd
  | .slotPerst k => some (!(s.slotCh k.val).perst)
  | .feedaGate => some (s.power.feed == .on false || s.power.feed == .ramp false true || s.power.feed == .ramp false false)
  | .feedbGate => some (s.power.feed == .on true || s.power.feed == .ramp true true || s.power.feed == .ramp true false)
  | .mainEn => some s.mainEn
  | .warnN => if s.power.warn then some false else none
  | .thermTripN => if s.power.tripped then some false else none
  | .spiClk => some false
  | .spiCsN => some s.mgmt.flashOp.isNone
  | _ => none

/-- What a pin shows: under EXTEST or CLAMP its boundary cell, under HIGHZ nothing, the observe-only pins always their functional level
(R418). -/
def State.pin (s : State) (p : Pin) : Option Bool :=
  if p.observeOnly then s.pinLevel p
  else
    match s.mgmt.tap with
    | .extest | .clamp | .extestPulse | .extestTrain =>
      (match p with
       | .laneTx _ => if s.power.mainGood then (s.mgmt.cells.find? (fun c => c.1 == p)).map (·.2) else none
       | _ => (s.mgmt.cells.find? (fun c => c.1 == p)).map (·.2))
    | .highz => none
    | _ => s.pinLevel p

/-- SAMPLE/PRELOAD: the cells take what is shifted in. -/
def State.tapSample (s : State) (cells : List (Pin × Bool)) : State :=
  if s.tapRuns then (s.tapLoad .sample).modMgt (fun m => { m with cells := cells }) else s

end Sys2Proof.Machine
end

