-- ==== Sys2Proof/Machine/MoverReq.lean ====
section
/-!
DEFINITION. The data mover, first part: its functions' settings, the requests they make (R289, R290) and what becomes of them,
operands and scatter-gather lists (R292, R293), MSI-X (R288).
-/
namespace Sys2Proof.Machine

/-! ### Access to the state -/

/-- Change the data mover. -/
def State.modDmv (s : State) (g : Dmv → Dmv) : State := { s with dmv := g s.dmv }

/-- A write to a ring that is in use was dropped (R264, R278). -/
def State.setupDrop (s : State) : State := { s with rings := { s.rings with setupDrops := wrapInc 8 s.rings.setupDrops } }

/-- A function. -/
def State.dfn (s : State) (f : Nat) : DmvFn := tget dmvFn0 s.dmv.fns f

/-- Change a function. -/
def State.modFn (s : State) (f : Nat) (g : DmvFn → DmvFn) : State := s.modDmv (fun d => { d with fns := tmod dmvFn0 d.fns f g })

/-- A ring of a function. -/
def State.dring (s : State) (f k : Nat) : DmvRing := tget dmvRing0 (s.dfn f).rings k

/-- Change a ring. -/
def State.modDring (s : State) (f k : Nat) (g : DmvRing → DmvRing) : State :=
  s.modFn f (fun x => { x with rings := tmod dmvRing0 x.rings k g })

/-- A descriptor in progress. -/
def State.ddesc (s : State) (f k idx : Nat) : Option DmvDesc := (s.dring f k).descs.find? (fun d => d.idx == idx)

/-- Change a descriptor in progress. -/
def State.modDesc (s : State) (f k idx : Nat) (g : DmvDesc → DmvDesc) : State :=
  s.modDring f k (fun r => { r with descs := r.descs.map (fun d => if d.idx = idx then g d else d) })

/-- A request of a function that awaits answers. -/
def State.dreq (s : State) (f key : Nat) : Option DmvReq := (s.dfn f).reqs.find? (fun q => q.key == key)

/-- Replace a request that awaits answers, or forget it. -/
def State.setReq (s : State) (f key : Nat) (q : Option DmvReq) : State :=
  s.modFn f (fun x => { x with reqs := x.reqs.filterMap (fun y => if y.key = key then q else some y) })

/-- Whether a descriptor has requests that await answers. -/
def State.awaits (s : State) (f k idx : Nat) : Bool :=
  (s.dfn f).reqs.any (fun q => q.ring == k && q.idx == idx && q.use != .fetch)

/-! ### Settings (R280, R281, R299, R304) -/

/-- DMV_Fffff_CTL.EN, active. -/
def State.dmvEn (s : State) (f : Nat) : Bool := bitOf (s.act (0xC10000 + 0x10 * f)).toNat 31

/-- RING_MIN, and the ceiling on rings (R287). -/
def State.ringMin (s : State) (f : Nat) : Nat := s.actF (0xC10004 + 0x10 * f) 24 18

/-- RING_MAX, or RING_MIN where that exceeds it (R287). -/
def State.ringMax (s : State) (f : Nat) : Nat := max (s.ringMin f) (s.actF (0xC10004 + 0x10 * f) 31 25)

/-- VEC_MIN. -/
def State.vecMin (s : State) (f : Nat) : Nat := s.actF (0xC10004 + 0x10 * f) 8 0

/-- VEC_MAX, or VEC_MIN where that exceeds it (R287). -/
def State.vecMax (s : State) (f : Nat) : Nat := max (s.vecMin f) (s.actF (0xC10004 + 0x10 * f) 17 9)

/-- The home hierarchy (R281). -/
def State.dmvHome (s : State) : Nat := s.dirF 0x5C0000 13 8

/-- The vDSB that a virtual function is attached to (R280). -/
def State.dmvAttached (s : State) (f : Nat) : Option (Nat × Nat) :=
  if f = 0 then none
  else (s.attachments.find? (fun a => attachType a.2.2 == .dmvVf && fld a.2.2 11 0 == f)).map (fun a => (a.1, a.2.1))

/-- The requester ID of a function (R281). -/
def State.dmvReqId (s : State) (f : Nat) : BitVec 16 :=
  match s.dmvAttached f with
  | some (h, v) => BitVec.ofNat 16 (256 * s.cfgF h (fnV v) 6 15 8)
  | none => BitVec.ofNat 16 (256 * s.cfgF s.dmvHome 0 6 7 0 + 2)

/-- The function whose Bus Master Enable and power state govern function f (R299). -/
def State.dmvGov (s : State) (f : Nat) : Nat := if (s.dmvAttached f).isSome then f else 0

/-- The Bus Master Enable of a configuration space, and not D3hot (R282, R299). -/
def State.dmvBme (s : State) (g : Nat) : Bool := bitOf (s.dmvW g 1) 2 && bitsOf (s.dmvW g 0x11) 1 0 != 3

/-- A function may issue requests, by Bus Master Enable (R282, R299). -/
def State.dmvMaster (s : State) (f : Nat) : Bool := s.dmvBme (s.dmvGov f)

/-- A function that works: enabled or draining, and allowed to issue requests. -/
def State.dmvLive (s : State) (f : Nat) : Bool :=
  s.coreRuns && ((s.dfn f).phase == .enabled || (s.dfn f).phase == .draining) && s.dmvMaster f

/-! ### Decode for a function (R289) -/

/-- Where a request of a function goes: a BAR, a target (with a number that names it), a refusal of R93 or R72, any other
refusal (of R72: with the number of the target), or a hold for a migration (R173). -/
inductive DmvTo where
  | bar (f bar off : Nat)
  | found (x : Found) (what : Nat)
  | why (w : Why)
  | refuse
  | gate (what : Nat)
  | hold
  deriving DecidableEq, Repr

/-- The number that names the host as a target. -/
def hostTarget : Nat := 0x50000

/-- A number that names a target, for the confirming reads of R297. -/
def whatOf (x : Found) : Nat :=
  match x.gather, x.aims with
  | some g, _ => 0x40000 + g
  | none, a :: _ =>
    (match a.tgt with
     | .port p ld => 0x10000 + 0x20 * p + (match ld with | some l => l + 1 | none => 0)
     | .fid f ld => 0x20000 + 0x20 * f + (match ld with | some l => l + 1 | none => 0))
  | none, [] => 0

/-- The virtual function's own vDSB forwards nothing from it (R69, R76). -/
def State.dmvShut (s : State) (f : Nat) : Bool := match s.dmvAttached f with | some (h, v) => s.vdsbShut h v | none => false

/-- Orders 1 to 4 of R88 for a request of function f; no match goes to the host (R289). `fresh`: it is in stage 4 for the first time. -/
def State.dmvFind (s : State) (h f : Nat) (r : Req) (fresh : Bool) : DmvTo × State :=
  let a := r.tlp.addr.toNat
  let toHost : DmvTo :=
    if !s.bme h 0 || s.contained .hierarchy h then .gate hostTarget
    else if s.d3 h 0 then .refuse
    else .found { aims := [⟨none, 0, .port (s.hier h).onPort none, a⟩], gather := none, multicast := false, folio := none,
                  space := some (.fn f, .host, a), prefetch := false } hostTarget
  if s.dmvShut f then (.refuse, s)
  else match s.barHit h a, s.dmvHit h a, s.folioHit h a, s.vdsbHit h a with
  | some (g, b, off), _, _, _ => (.bar g b off, s)
  | none, some _, _, _ => (.why .unmapped, s)
  | none, none, some (i, o), v =>
    let s := if v.isSome && fresh then s.countHier h 2 else s
    if r.tlp.op.isWrite && (s.holdOf i).isSome then (.hold, if fresh then s.countHier h 13 else s)
    else
      let s := s.lookup i
      match s.folioDecode r i o (.fn f) with
      | .error (w, s) => (.why w, s)
      | .ok x => (.found x (whatOf x), s)
  | none, none, none, some (v, _, _) =>
    if !s.mse h (fnV v) then (.gate (0x70000 + v), s)
    else if s.vdsbShut h v then (.refuse, s)
    else match s.attach h v with
      | none => (.refuse, s)
      | some w =>
        match attachTgt w with
        | some t =>
          if (match t with | .port p _ => s.role p != .device | .fid _ _ => false : Bool) then (.refuse, s)
          else
            let x : Found :=
              { aims := [⟨none, 0, t, a⟩], gather := none, multicast := false, folio := none, space := some (.fn f, .peer, a),
                prefetch := false }
            (.found x (whatOf x), s)
        | none => (.why .unmapped, s)
  | none, none, none, none => (toHost, s)

/-- What came of issuing a request: sent, with the Cmps it awaits, the target it went to, and whether the target must be
confirmed (R297); refused; gated by R72, with its target; refused by the guard from an offset on, with whether a part went, and its Cmps; not
issued yet. -/
inductive DmvOut where
  | sent (cmps what : Nat) (confirm : Bool)
  | bad
  | gated (what : Nat)
  | fault (off : Nat) (went : Bool) (cmps : Nat)
  | later
  deriving DecidableEq, Repr

/-- The mark of the write that is held at stage 4 (R173). -/
def State.dmvHold (s : State) (x : Option (Nat × Nat × Nat)) : State := s.modDmv (fun d => { d with held := x })

/-- The place of the data mover's MSI-X messages among the rings of a function. -/
def msixRing : Nat := 64

/-- Issue a request of a function (R289): what came of it. It waits behind a write that is held at stage 4 (R173). An MSI-X message is not
checked by the guard (R307). -/
def State.dmvRequest (s : State) (f k key : Nat) (t0 : Tlp) : DmvOut × State :=
  let me := (f, k, t0.addr.toNat)
  match (s.dfn f).hier with
  | none => (.bad, s)
  | some h =>
    if s.dmv.held.any (fun x => x != me) then (.later, s)
    else
    let fresh := s.dmv.held.isNone
    let s := s.dmvHold none
    let t := { t0 with reqId := s.dmvReqId f }
    let cls := s.classOf .device t 0
    let r : Req := { ing := .device, fid := 0, tlp := t, tc := cls.1, group := cls.2, hier := some h, fn := some (f, k, key) }
    match s.dmvFind h f r fresh with
    | (.bar g b off, s) => (.sent 0 (0x60000 + g) true, s.push (.dmvReg f k key h g b off t))
    | (.hold, s) => (.later, s.dmvHold (some me))
    | (.gate w, s) => (.gated w, s.gate72 h r)
    | (.refuse, s) => (.bad, s)
    | (.why w, s) => (.bad, s.noteRefusal r w)
    | (.found x what, s) =>
      let x := if k = msixRing then { x with space := none } else x
      let r := { r with raw := x.folio.isNone }
      let s := s.checkTgts (x.aims.map (·.tgt))
      match s.refusedAim r x with
      | some w => (.bad, s.noteRefusal r w)
      | none =>
        let parts := match x.space with | some (src, sp, g) => s.guardParts src sp t.guardUse g t.len | none => []
        let good := (parts.filter (·.ok)).length
        let copies := x.aims.filterMap (fun a =>
          match s.aimCopy (s.edgeFid .device) r.tc t (!x.multicast && !r.raw) true a with | .ok c => some c | .error _ => none)
        let conv := if t.op.posted then (copies.filter (·.convert)).length else 0
        let s := s.sendFound r x
        match parts.find? (fun p => !p.ok) with
        | none => (.sent conv what (t.op.posted && decide ((copies.filter (·.convert)).length < copies.length)), s)
        | some p => (.fault p.off (match parts with | q :: _ => q.ok | [] => false) (good * conv), s)

/-- Issue a request of a function, with a note of it for mirrors once it went through stage 4 (R336, R338). -/
def State.dmvSend (s : State) (f k key : Nat) (t : Tlp) : DmvOut × State :=
  match s.dmvRequest f k key t, (s.dfn f).hier with
  | (.later, u), _ => (.later, u)
  | (o, u), some h => (o, if s.observing then u.push (.observedFn h { t with reqId := s.dmvReqId f } s.path.nextPkt) else u)
  | r, none => r

/-- A number for a request (R289). -/
def State.newKey (s : State) : Nat × State := (s.dmv.nextKey, s.modDmv (fun d => { d with nextKey := d.nextKey + 1 }))

/-- Issue a read of a function, and wait for its answer. -/
def State.dmvRead (s : State) (f k : Nat) (use : DmvUse) (idx off addr len : Nat) : DmvOut × State :=
  let (key, s) := s.newKey
  let wait := fun (s : State) => s.modFn f (fun x => { x with reqs := x.reqs ++ [⟨key, k, use, idx, off, len, 0, []⟩] })
  match s.dmvSend f k key { tlp0 with op := .memRead, addr := BitVec.ofNat 64 addr, len := len } with
  | (.sent c w b, s) => (.sent c w b, wait s)
  | (.fault o true c, s) => (.fault o true c, wait s)
  | r => r

/-- Issue a posted write of a function; the Cmps of a converted one are awaited (R297). -/
def State.dmvPost (s : State) (f k idx off addr : Nat) (data : List Byte) (poison : Bool) : DmvOut × State :=
  let (key, s) := s.newKey
  let wait := fun (n : Nat) (s : State) =>
    if n = 0 then s else s.modFn f (fun x => { x with reqs := x.reqs ++ [⟨key, k, .write, idx, off, data.length, n, []⟩] })
  match s.dmvSend f k key
      { tlp0 with op := .memWrite, addr := BitVec.ofNat 64 addr, len := data.length, payload := data, ep := poison } with
  | (.sent c w b, s) => (.sent c w b, wait c s)
  | (.fault o b c, s) => (.fault o b c, wait c s)
  | r => r

/-! ### MSI-X of a function (R282, R288) -/

/-- A word of the MSI-X table of a function. -/
def State.dmvMsixW (s : State) (f j : Nat) : Word := (tfind (s.dfn f).msix j).getD (msixReset j)

/-- An entry is backed (R288). -/
def State.dmvBacked (s : State) (f e : Nat) : Bool := !s.dmv.elastic || (s.dfn f).backed.contains e

/-- Send the message of an entry, or leave it pending (R288). -/
def State.dmvMsix (s : State) (f e : Nat) : State :=
  let pend := fun (s : State) => s.modFn f (fun x => { x with pba := sadd x.pba e })
  if !bitOf (s.dmvW f 0x14) 31 ∨ (s.dfn f).vecLimit ≤ e then s
  else if bitOf (s.dmvW f 0x14) 30 || fld (s.dmvMsixW f (4 * e + 3)) 0 0 == 1 || !s.dmvBacked f e || !s.dmvLive f then pend s
  else
    let a := 2 ^ 32 * (s.dmvMsixW f (4 * e + 1)).toNat + (s.dmvMsixW f (4 * e)).toNat / 4 * 4
    let (key, s) := s.newKey
    match s.dmvSend f msixRing key
        { tlp0 with op := .memWrite, addr := BitVec.ofNat 64 a, len := 4, payload := leBytes 4 (s.dmvMsixW f (4 * e + 2)).toNat } with
    | (.later, s) => pend s
    | (_, s) => s

/-- Messages that waited and may go now. -/
def State.dmvMsixRelease (s : State) (f : Nat) : State :=
  let p := (s.dfn f).pba
  if p.isEmpty then s else (s.modFn f (fun x => { x with pba := [] })).each p (fun s e => s.dmvMsix f e)

/-! ### Descriptors (R292 to R294) -/

/-- Word i of a descriptor. -/
def DmvDesc.w (d : DmvDesc) (i : Nat) : Nat := (d.words.getD i 0).toNat

/-- OP. -/
def DmvDesc.op (d : DmvDesc) : Nat := bitsOf (d.w 0) 7 0

/-- LENGTH. -/
def DmvDesc.len (d : DmvDesc) : Nat := bitsOf (d.w 1) 31 0

/-- ALG. -/
def DmvDesc.alg (d : DmvDesc) : Nat := bitsOf (d.w 0) 17 16

/-- The opcode computes a digest. -/
def digestOp (op : Nat) : Bool := op == 4 || op == 5

/-- The opcode writes DST. -/
def writeOp (op : Nat) : Bool := op == 1 || op == 2 || op == 5

/-- An operand before anything was read of it (R293). -/
def operand0 (addr len : Nat) (sgl : Bool) : DmvOperand :=
  if sgl then ⟨[], 0, addr, 0, false, false⟩ else ⟨[(addr, len)], len, 0, 0, true, false⟩

/-- A descriptor at its first byte (R292, R294, R299). -/
def descStart (idx : Nat) (ws : List Quad) (born : Nat) : DmvDesc :=
  let w := fun (i : Nat) => (ws.getD i 0).toNat
  let alg := bitsOf (w 0) 17 16
  { idx := idx, words := ws, src := operand0 (w 2) (bitsOf (w 1) 31 0) (bitOf (w 0) 10),
    dst := operand0 (w 3) (bitsOf (w 1) 31 0) (bitOf (w 0) 11), rdA := 0, rdB := 0, taken := 0, chunksA := [], chunksB := [],
    crc := if bitOf (w 0) 13 then w 4 ^^^ algOnes alg else algOnes alg, differ := none, poisonAt := none, fail := none,
    targets := [], confirming := false, toConfirm := [], finished := none, born := born }

/-- The checks of R292 and R294: the status of a descriptor that has no effect. -/
def descCheck (ws : List Quad) : Option Nat :=
  let w := fun (i : Nat) => (ws.getD i 0).toNat
  let op := bitsOf (w 0) 7 0
  let alg := bitsOf (w 0) 17 16
  if 6 ≤ op then some 0x10
  else if bitsOf (w 0) 63 48 ≠ 0 ∨ bitsOf (w 0) 31 18 ≠ 0 ∨ bitOf (w 0) 15 ∨ bitsOf (w 1) 63 32 ≠ 0 ∨ w 6 ≠ 0 ∨ w 7 ≠ 0 then some 0x11
  else if bitsOf (w 1) 31 0 = 0 ∧ op ≠ 0 then some 0x11
  else if digestOp op ∧ 2 ≤ alg then some 0x11
  else if (bitOf (w 0) 13 ∨ bitOf (w 0) 14) ∧ !digestOp op then some 0x11
  else if (bitOf (w 0) 10 ∧ w 2 % 16 ≠ 0) ∨ (bitOf (w 0) 11 ∧ w 3 % 16 ≠ 0) then some 0x11
  else if digestOp op ∧ alg = 0 ∧ ((bitOf (w 0) 13 ∧ 2 ^ 32 ≤ w 4) ∨ (bitOf (w 0) 14 ∧ 2 ^ 32 ≤ w 5)) then some 0x11
  else none

/-- The address of a byte of an operand, and how many bytes of its piece follow. -/
def pieceAt : List (Nat × Nat) → Nat → Option (Nat × Nat)
  | [], _ => none
  | (a, n) :: t, off => if off < n then some ((a + off) % 2 ^ 64, n - off) else pieceAt t (off - n)

/-- How many pieces of a list end after an offset. -/
def piecesPast : List (Nat × Nat) → Nat → Nat
  | [], _ => 0
  | (_, n) :: t, off => if off < n then 1 + t.length else piecesPast t (off - n)

/-- The bytes from an address that one request may cover (R290). -/
def stretch (a rem : Nat) : Nat := min rem (512 - a % 512)

/-- Entries of a scatter-gather list as they come (R293): the operand with the pieces they give, or the offset of an
SGL_ERROR. `need` is LENGTH. -/
def sglTake (need : Nat) : Nat → List Byte → DmvOperand → Except Nat DmvOperand
  | 0, _, o => .ok o
  | n + 1, l, o =>
    if need ≤ o.cover then .ok { o with fin := true }
    else if l.length < 16 then .ok o
    else
      let a := leNat (l.take 8)
      let hi := leNat ((l.drop 8).take 8)
      let len := bitsOf hi 31 0
      if 65536 ≤ o.entries ∨ bitsOf hi 61 32 ≠ 0 then .error o.cover
      else if bitOf hi 62 then
        if len ≠ 0 ∨ a % 16 ≠ 0 ∨ bitOf hi 63 then .error o.cover else .ok { o with next := a, entries := o.entries + 1 }
      else if len = 0 then .error o.cover
      else
        let o := { o with pieces := o.pieces ++ [(a, len)], cover := o.cover + len, next := (o.next + 16) % 2 ^ 64, entries := o.entries + 1 }
        if need ≤ o.cover then .ok { o with fin := true }
        else if bitOf hi 63 then .error o.cover
        else sglTake need n (l.drop 16) o

/-- An operand of a descriptor: DST when `b`. -/
def DmvDesc.operand (d : DmvDesc) (b : Bool) : DmvOperand := if b then d.dst else d.src

/-- Replace an operand. -/
def DmvDesc.setOperand (d : DmvDesc) (b : Bool) (o : DmvOperand) : DmvDesc := if b then { d with dst := o } else { d with src := o }

/-- The first failure stands (R298); of failed writes and of faults the lowest offset is kept (R295). -/
def DmvDesc.failAt (d : DmvDesc) (status off : Nat) : DmvDesc :=
  match d.fail with
  | none => { d with fail := some (status, off) }
  | some (st, o) => if st = status ∧ status ≠ 0x20 ∧ off < o then { d with fail := some (st, off) } else d

/-- A write went to a target that must be confirmed (R297). -/
def DmvDesc.noteTarget (d : DmvDesc) (what off addr : Nat) : DmvDesc :=
  { d with targets :=
      if d.targets.any (fun t => t.what == what) then
        d.targets.map (fun t => if t.what = what then { t with off := min t.off off, addr := addr } else t)
      else d.targets ++ [⟨what, off, addr⟩] }

/-- The next read of an operand: offset, address, length (R290). -/
def DmvDesc.nextRead (d : DmvDesc) (b : Bool) : Option (Nat × Nat × Nat) :=
  let rd := if b then d.rdB else d.rdA
  if d.len ≤ rd then none
  else (pieceAt (d.operand b).pieces rd).map (fun x => (rd, x.1, min (stretch x.1 x.2) (d.len - rd)))

/-- The next request of a descriptor that RATE counts (R290): whether it is a write (FILL), whether it reads DST, offset,
address, length. -/
def DmvDesc.nextReq (d : DmvDesc) : Option (Bool × Bool × Nat × Nat × Nat) :=
  if d.fail.isSome ∨ d.finished.isSome then none
  else if d.op = 2 then
    if d.len ≤ d.taken then none
    else (pieceAt d.dst.pieces d.taken).map (fun x => (true, true, d.taken, x.1, min (stretch x.1 x.2) (d.len - d.taken)))
  else if d.op = 3 then
    match d.nextRead false, d.nextRead true with
    | some x, some y => if d.rdA ≤ d.rdB then some (false, false, x) else some (false, true, y)
    | some x, none => some (false, false, x)
    | none, some y => some (false, true, y)
    | none, none => none
  else if d.op = 0 then none
  else (d.nextRead false).map (fun x => (false, false, x))

end Sys2Proof.Machine
end

