-- ==== Sys2Proof/Machine/MoverRun.lean ====
section
/-!
DEFINITION. The data mover, second part: descriptors run (R290, R296 to R298), answers come in, completions are written (R266,
R291, R295).
-/
namespace Sys2Proof.Machine

/-! ### Writing the destination (R296, R297) -/

/-- Issue a write of a descriptor: whether it was issued, and what came of it. -/
def State.descWrite (s : State) (f k idx off addr : Nat) (durable : Bool) (data : List Byte) (poison : Bool) : Bool × State :=
  match s.dmvPost f k idx off addr data poison with
  | (.sent _ what confirm, s) =>
    (true, if (if what = hostTarget then durable else confirm) then s.modDesc f k idx (fun d => d.noteTarget what off addr) else s)
  | (.gated what, s) => (true, if what ≠ hostTarget ∨ durable then s.modDesc f k idx (fun d => d.noteTarget what off addr) else s)
  | (.bad, s) => (true, s.modDesc f k idx (fun d => d.failAt 0x21 off))
  | (.fault o _ _, s) => (true, s.modDesc f k idx (fun d => d.failAt 0x22 (off + o)))
  | (.later, s) => (false, s)

/-- Bytes at an offset among those that came back. -/
def chunkAt (l : List DmvChunk) (off : Nat) : Option DmvChunk := l.find? (fun c => c.off == off)

/-- The first m bytes of the chunk at an offset are used up. -/
def chunkDrop (l : List DmvChunk) (off m : Nat) : List DmvChunk :=
  l.filterMap (fun c =>
    if c.off = off then (if c.data.length ≤ m then none else some { c with off := off + m, data := c.data.drop m }) else some c)

/-- Offset of the first byte in which two lists differ. -/
def firstDiffer : List Byte → List Byte → Nat → Option Nat
  | a :: as, b :: bs, n => if a = b then firstDiffer as bs (n + 1) else some n
  | _, _, _ => none

/-- m bytes of the operand were taken in order (R296): digest state, first poisoned byte. -/
def DmvDesc.take (d : DmvDesc) (m : Nat) (data : List Byte) (poison : Bool) : DmvDesc :=
  { d with
    taken := d.taken + m, chunksA := chunkDrop d.chunksA d.taken m,
    crc := if digestOp d.op then crcBytes (algPoly d.alg) d.crc data else d.crc,
    poisonAt := if poison ∧ d.poisonAt.isNone then some d.taken else d.poisonAt }

/-- m bytes of both operands of a COMPARE were taken. -/
def DmvDesc.takeBoth (d : DmvDesc) (m : Nat) (a b : DmvChunk) : DmvDesc :=
  { d with
    taken := d.taken + m, chunksA := chunkDrop d.chunksA d.taken m, chunksB := chunkDrop d.chunksB d.taken m,
    differ := (match d.differ with | some o => some o | none => firstDiffer (a.data.take m) (b.data.take m) d.taken),
    poisonAt := if (a.poison ∨ b.poison) ∧ d.poisonAt.isNone then some d.taken else d.poisonAt }

/-- Take what came back of a descriptor in operand order: write it to the destination, digest it, compare it (R292, R296). A
write that a migration holds back ends the round. -/
def State.descTake (s : State) (f k idx : Nat) : Nat → State
  | 0 => s
  | n + 1 =>
    match s.ddesc f k idx with
    | none => s
    | some d =>
      if d.fail.isSome ∨ d.finished.isSome then s
      else match chunkAt d.chunksA d.taken with
        | none => s
        | some a =>
          if d.op = 3 then
            match chunkAt d.chunksB d.taken with
            | none => s
            | some b =>
              let m := min a.data.length b.data.length
              (s.modDesc f k idx (fun d => d.takeBoth m a b)).descTake f k idx n
          else if writeOp d.op then
            match pieceAt d.dst.pieces d.taken with
            | none => s
            | some (ad, rem) =>
              let m := min (stretch ad rem) a.data.length
              match s.descWrite f k idx d.taken ad (bitOf (d.w 0) 12) (a.data.take m) a.poison with
              | (true, s) => (s.modDesc f k idx (fun d => d.take m (a.data.take m) a.poison)).descTake f k idx n
              | (false, s) => s
          else
            (s.modDesc f k idx (fun d => d.take a.data.length a.data a.poison)).descTake f k idx n

/-- How many steps taking can last: the bytes that came back, and one. -/
def DmvDesc.fuel (d : DmvDesc) : Nat := d.chunksA.foldl (fun n c => n + c.data.length) 1

/-! ### Completion of a descriptor (R294, R295, R297, R298) -/

/-- STATUS and RESULT of a descriptor that did not fail. -/
def DmvDesc.result (d : DmvDesc) : Nat × Nat :=
  match d.poisonAt with
  | some o => (0x03, o)
  | none =>
    if d.op = 3 then (match d.differ with | some o => (0x01, o) | none => (0x00, 2 ^ 64 - 1))
    else if digestOp d.op then
      let v := d.crc ^^^ algOnes d.alg
      if bitOf (d.w 0) 14 ∧ v ≠ d.w 5 then (0x02, v) else (0x00, v)
    else if d.op = 0 then (0x00, 0)
    else (0x00, d.len)

/-- The result of a descriptor that failed (R295): of a WRITE_ERROR the lowest write not confirmed, those that no confirming read was
sent for among them. -/
def DmvDesc.failure (d : DmvDesc) (x : Nat × Nat) : Nat × Nat :=
  if x.1 = 0x21 then (x.1, d.targets.foldl (fun n t => min n t.off) x.2) else x

/-- The confirming reads of a descriptor whose writes are all issued (R297): each takes a bookmark, and waits where none is free (R23) or
where the data mover is held at stage 4 (R173). -/
def State.descConfirm (s : State) (f k idx : Nat) (ts : List DmvTarget) : State :=
  s.each ts (fun s t =>
    let gone := fun (s : State) => s.modDesc f k idx (fun d => { d with toConfirm := d.toConfirm.erase t })
    if !s.bmAvailable none true then s
    else match s.dmvRead f k .confirm idx t.off t.addr 0 with
      | (.sent _ _ _, s) => gone s
      | (.later, s) => s
      | (.fault _ _ _, s) => (gone s).modDesc f k idx (fun d => d.failAt 0x22 t.off)
      | (_, s) => (gone s).modDesc f k idx (fun d => d.failAt 0x21 t.off))

/-- A descriptor completes once nothing of it is outstanding and every write is confirmed (R297, R298). -/
def State.descFinish (s : State) (f k idx : Nat) : State :=
  match s.ddesc f k idx with
  | none => s
  | some d =>
    if d.finished.isSome then s
    else match d.fail with
      | some x => if s.awaits f k idx then s else s.modDesc f k idx (fun d => { d with finished := some (d.failure x) })
      | none =>
        if d.op = 0 ∨ d.taken < d.len then s
        else if !d.targets.isEmpty ∧ !d.confirming then
          (s.modDesc f k idx (fun d => { d with confirming := true, toConfirm := d.targets })).descConfirm f k idx d.targets
        else if !d.toConfirm.isEmpty then s.descConfirm f k idx d.toConfirm
        else if s.awaits f k idx then s
        else s.modDesc f k idx (fun d => { d with finished := some d.result })

/-! ### Rings: stopping, completions (R266, R275, R291) -/

/-- A ring stops (R275, R291). -/
def State.dmvStop (s : State) (f k cause idx : Nat) : State :=
  let s := s.modDring f k (fun r => { r with phase := .stopped, errCause := cause, errIdx := idx })
  let r := s.dring f k
  if bitOf r.ctl.toNat 18 then s.dmvMsix f (fld r.ctl 7 0) else s

/-- The number of entries of a ring. -/
def DmvRing.size (r : DmvRing) : Nat := 2 ^ (fld r.ctl 22 19 + 4)

/-- The two words of a completion (R266). -/
def cplBytes (w n status tag idx result : Nat) : List Byte :=
  leBytes 8 result ++ leBytes 8 (place (b2n (w / n % 2 == 0)) 63 63 + place status 55 48 + place tag 47 32 + place idx 31 16)

/-- A descriptor leaves its ring, its completion written. -/
def DmvRing.completed (r : DmvRing) : DmvRing := { r with w := wrapInc 16 r.w, descs := r.descs.drop 1 }

/-- Write the completions that are next in ring order (R291), each with its message; a ring may stop after one (R291). A ring
that was disabled discards them while the function may not issue requests (R278, R291). -/
def State.dmvComplete (s : State) (f k : Nat) : Nat → State
  | 0 => s
  | n + 1 =>
    let r := s.dring f k
    match r.descs with
    | [] => s
    | d :: _ =>
      match d.finished with
      | none => s
      | some (status, result) =>
        if !s.dmvLive f then
          if r.phase = .draining then (s.modDring f k DmvRing.completed).dmvComplete f k n else s
        else
          match s.dmvPost f k 65536 0 (2 ^ 32 * r.cqHi + r.cqLo + 16 * (r.w % r.size))
              (cplBytes r.w r.size status (bitsOf (d.w 0) 47 32) d.idx result) false with
          | (.later, s) => s
          | (_, s) =>
            let s := s.modDring f k DmvRing.completed
            let s := if s.observing then s.push (.measured 5 (s.cclkNow - d.born) 64 64 0 f) else s
            let s := if bitOf r.ctl.toNat 18 && bitOf (d.w 0) 8 then s.dmvMsix f (fld r.ctl 7 0) else s
            let s := if bitOf r.ctl.toNat 30 && decide (0x10 ≤ status) && r.phase == .running then s.dmvStop f k 3 d.idx else s
            s.dmvComplete f k n

/-- A draining ring whose last descriptor is gone is disabled (R278, R291). -/
def State.dmvRingDone (s : State) (f k : Nat) : State :=
  let r := s.dring f k
  if r.phase = .draining ∧ r.descs.isEmpty then s.modDring f k (fun r => { r with phase := .disabled, fetched := none, masterOff := false })
  else s

/-! ### Fetches and lists -/

/-- Fetch the next descriptor of a ring ahead (R265, R291). -/
def State.dmvFetch (s : State) (f k : Nat) : State :=
  let r := s.dring f k
  if r.phase = .running ∧ r.c ≠ r.p ∧ r.fetched.isNone ∧ !r.fetching ∧ !r.masterOff ∧ s.glb.mode ≠ .quiesced ∧ (s.dfn f).phase = .enabled
      ∧ s.bmAvailable none true then
    match s.dmvRead f k .fetch 65536 0 (2 ^ 32 * r.sqHi + r.sqLo + 64 * (r.c % r.size)) 64 with
    | (.sent _ _ _, s) => s.modDring f k (fun r => { r with fetching := true })
    | (.later, s) => s
    | (_, s) => s.dmvStop f k 2 r.c
  else s

/-- Read ahead in the list of an operand (R293). -/
def State.descList (s : State) (f k idx : Nat) (b : Bool) : State :=
  match s.ddesc f k idx with
  | none => s
  | some d =>
    let o := d.operand b
    let at_ := if b ∧ d.op ≠ 3 then d.taken else if b then d.rdB else d.rdA
    if o.fin ∨ o.asked ∨ d.fail.isSome ∨ d.finished.isSome ∨ 224 < piecesPast o.pieces at_ ∨ !s.bmAvailable none true
        ∨ (b ∧ !(writeOp d.op || d.op == 3)) ∨ (!b ∧ (d.op = 0 ∨ d.op = 2)) then s
    else
      match s.dmvRead f k (.sgl b) idx o.cover o.next (512 - o.next % 512) with
      | (.sent _ _ _, s) => s.modDesc f k idx (fun d => d.setOperand b { d.operand b with asked := true })
      | (.fault _ true _, s) =>
        s.modDesc f k idx (fun d => (d.setOperand b { d.operand b with asked := true }).failAt 0x22 o.cover)
      | (.fault _ false _, s) => s.modDesc f k idx (fun d => d.failAt 0x22 o.cover)
      | (.later, s) => s
      | (_, s) => s.modDesc f k idx (fun d => d.failAt 0x12 o.cover)

/-- What a descriptor can do without the scheduler: lists, writes of data in hand, confirmation. -/
def State.descStep (s : State) (f k idx : Nat) : State :=
  let s := (s.descList f k idx false).descList f k idx true
  let s := match s.ddesc f k idx with | some d => s.descTake f k idx d.fuel | none => s
  s.descFinish f k idx

/-- All that a ring can do without the scheduler. -/
def State.dmvRingStep (s : State) (f k : Nat) : State :=
  if !s.dmvLive f then (s.dmvComplete f k 5).dmvRingDone f k
  else
    let s := s.dmvFetch f k
    let s := s.each ((s.dring f k).descs.map (·.idx)) (fun s i => s.descStep f k i)
    (s.dmvComplete f k 5).dmvRingDone f k

/-- A function's rings in the order of their numbers. -/
def State.dmvRings (s : State) (f : Nat) : List Nat := (s.dfn f).rings.map (·.1)

/-- All that the data mover can do without the scheduler: what is held at stage 4 is tried again in its turn, and messages that waited
behind it go. -/
def State.dmvPump (s : State) : State :=
  s.each (s.dmv.fns.map (·.1)) (fun s f =>
    if (s.dfn f).phase = .enabled ∨ (s.dfn f).phase = .draining then
      (s.each (s.dmvRings f) (fun s k => s.dmvRingStep f k)).dmvMsixRelease f
    else s)

/-! ### Answers (R293, R296 to R298) -/

/-- An answer is an error: a status other than success, or synthesised by another device (R298). -/
def cplError (t : Tlp) : Bool := t.status != .ok || t.synth

/-- The answer to a descriptor fetch (R275, R291). -/
def State.fetchBack (s : State) (f : Nat) (q : DmvReq) (t : Tlp) : State :=
  let k := q.ring
  let stop := fun (s : State) =>
    let s := (s.setReq f q.key none).modDring f k (fun r => { r with fetching := false })
    if (s.dring f k).phase = .running then s.dmvStop f k 2 (s.dring f k).c else s
  if cplError t || t.ep then stop s
  else
    let d := q.data ++ t.payload
    if d.length < 64 then s.setReq f q.key (some { q with data := d })
    else
      (s.setReq f q.key none).modDring f k (fun r =>
        { r with fetching := false, fetched := if r.phase = .running then some (natQuads 8 (leNat (d.take 64))) else none })

/-- The answer to a list read (R293). -/
def State.listBack (s : State) (f : Nat) (q : DmvReq) (b : Bool) (t : Tlp) : State :=
  let bad := fun (s : State) =>
    (s.setReq f q.key none).modDesc f q.ring q.idx (fun d => (d.setOperand b { d.operand b with asked := false }).failAt 0x12 (d.operand b).cover)
  if cplError t || t.ep then bad s
  else
    let l := q.data ++ t.payload
    if l.length < q.len then s.setReq f q.key (some { q with data := l })
    else
      (s.setReq f q.key none).modDesc f q.ring q.idx (fun d =>
        match sglTake d.len 33 l { d.operand b with asked := false } with
        | .ok o => d.setOperand b o
        | .error off => (d.setOperand b { d.operand b with asked := false }).failAt 0x12 off)

/-- The answer to a data read (R296, R298). -/
def State.dataBack (s : State) (f : Nat) (q : DmvReq) (b : Bool) (t : Tlp) : State :=
  if cplError t then (s.setReq f q.key none).modDesc f q.ring q.idx (fun d => d.failAt 0x20 q.off)
  else
    let c : DmvChunk := ⟨q.off + q.got, t.payload, t.ep⟩
    let s := s.modDesc f q.ring q.idx (fun d => if b then { d with chunksB := d.chunksB ++ [c] } else { d with chunksA := d.chunksA ++ [c] })
    let got := q.got + t.payload.length
    s.setReq f q.key (if q.len ≤ got then none else some { q with got := got })

/-- What came of a converted write (R297): LEN 0 a failure, else the end of a copy. -/
def State.writeBack (s : State) (f : Nat) (q : DmvReq) (t : Tlp) : State :=
  if t.len = 0 then s.modDesc f q.ring q.idx (fun d => d.failAt 0x21 q.off)
  else s.setReq f q.key (if q.got ≤ 1 then none else some { q with got := q.got - 1 })

/-- An answer to a request of a function; one that was forgotten is discarded (R299, R300). -/
def State.dmvBack (s : State) (f key : Nat) (t : Tlp) : State :=
  match s.dreq f key with
  | none => s
  | some q =>
    match q.use with
    | .fetch => s.fetchBack f q t
    | .sgl b => s.listBack f q b t
    | .read b => s.dataBack f q b t
    | .write => s.writeBack f q t
    | .confirm =>
      let s := s.setReq f key none
      s.modDesc f q.ring q.idx (fun d =>
        if t.status = .ok then { d with targets := d.targets.filter (fun x => x.off != q.off) } else d.failAt 0x21 q.off)

/-! ### The scheduler (R290) -/

/-- Time in 1/1000 CCLK, for the rates. -/
def State.milliCclk (s : State) : Nat := 1000 * s.cclkNow

/-- Bytes at a rate of `half` times 0.5 GB/s, in 1/1000 CCLK, rounded up. -/
def rateTime (n half : Nat) : Nat := (3200 * n + half - 1) / half

/-- The rates let a function issue now (R290). -/
def State.rateOk (s : State) (f : Nat) : Bool :=
  decide (s.dmv.nextAt ≤ s.milliCclk) && (s.actF (0xC10008 + 0x10 * f) 8 0 == 0 || decide ((s.dfn f).nextAt ≤ s.milliCclk))

/-- Charge n bytes to the rates; what a rate left unused counts for at most one MTICK (R290). -/
def State.rateCharge (s : State) (f n : Nat) : State :=
  let rate := s.actF (0xC10008 + 0x10 * f) 8 0
  let floor := s.milliCclk - 1600000000
  let s := if rate = 0 then s else s.modFn f (fun x => { x with nextAt := max x.nextAt floor + rateTime n rate })
  s.modDmv (fun d => { d with nextAt := max d.nextAt floor + rateTime n (2 * s.actF 0xC00000 31 24) })

/-- A list from its first element past n on, then from its start. -/
def fromPast (l : List Nat) (n : Nat) : List Nat := l.filter (fun x => n < x) ++ l.filter (fun x => x ≤ n)

/-- The descriptor of a ring that may issue its next request: the oldest one. -/
def State.ringReady (s : State) (f k : Nat) : Option DmvDesc :=
  let r := s.dring f k
  if r.masterOff then none
  else r.descs.find? (fun d => match d.nextReq with | some (true, _) => true | some (false, _) => s.bmAvailable none true | none => false)

/-- The ring and descriptor of a function that may issue now, its rings served round robin (R290). -/
def State.fnReady (s : State) (f : Nat) : Option (Nat × DmvDesc) :=
  if s.dmvLive f ∧ s.rateOk f then
    (fromPast (s.dmvRings f) (s.dfn f).ringAt).findSome? (fun k => (s.ringReady f k).map (fun d => (k, d)))
  else none

/-- The length of a descriptor's next request. -/
def DmvDesc.cost (d : DmvDesc) : Nat := match d.nextReq with | some (_, _, _, _, n) => n | none => 0

/-- Deficit round robin over the functions, with a quantum of 4 KiB × WEIGHT (R290): the request that is next. -/
def State.dmvPick (s : State) : Option (Nat × Nat × DmvDesc) × State :=
  let serve := fun (s : State) (f : Nat) (x : Nat × DmvDesc) =>
    (some (f, x.1, x.2), (s.modFn f (fun y => { y with deficit := y.deficit - x.2.cost, ringAt := x.1 })).modDmv (fun d => { d with fnAt := f }))
  let at_ := s.dmv.fnAt
  match s.fnReady at_ with
  | some x =>
    if x.2.cost ≤ (s.dfn at_).deficit then serve s at_ x
    else
      match (fromPast (s.dmv.fns.map (·.1)) at_).findSome? (fun f => (s.fnReady f).map (fun x => (f, x))) with
      | some (f, x) => serve (s.modFn f (fun y => { y with deficit := y.deficit + 4096 * s.actF (0xC10008 + 0x10 * f) 31 24 })) f x
      | none => (none, s)
  | none =>
    let s := s.modFn at_ (fun y => { y with deficit := 0 })
    match (fromPast (s.dmv.fns.map (·.1)) at_).findSome? (fun f => (s.fnReady f).map (fun x => (f, x))) with
    | some (f, x) => serve (s.modFn f (fun y => { y with deficit := y.deficit + 4096 * s.actF (0xC10008 + 0x10 * f) 31 24 })) f x
    | none => (none, s)

/-- The bytes of a FILL from an offset on (R292). -/
def fillBytes (pattern off n : Nat) : List Byte :=
  (List.range n).map (fun i => BitVec.ofNat 8 (pattern >>> (8 * ((off + i) % 8))))

/-- Issue the next request of a descriptor (R290, R292, R296). -/
def State.descIssue (s : State) (f k : Nat) (d : DmvDesc) : State :=
  match d.nextReq with
  | none => s
  | some (true, _, off, addr, n) =>
    match s.descWrite f k d.idx off addr (bitOf (d.w 0) 12) (fillBytes (d.w 4) off n) false with
    | (true, s) => (s.modDesc f k d.idx (fun d => { d with taken := d.taken + n })).rateCharge f n
    | (false, s) => s
  | some (false, b, off, addr, n) =>
    let moved := fun (d : DmvDesc) => if b then { d with rdB := d.rdB + n } else { d with rdA := d.rdA + n }
    match s.dmvRead f k (.read b) d.idx off addr n with
    | (.sent _ _ _, s) => (s.modDesc f k d.idx moved).rateCharge f n
    | (.fault o _ _, s) => (s.modDesc f k d.idx (fun d => (moved d).failAt 0x22 (off + o))).rateCharge f n
    | (.later, s) => s
    | (_, s) => s.modDesc f k d.idx (fun d => (moved d).failAt 0x20 off)

/-- One request of the opcode given is issued, when the scheduler's next request is of that opcode (R290, R292). -/
def State.dmvIssue (s : State) (op : Nat) : State :=
  match s.dmvPick with
  | (some (f, k, d), s1) => if d.op = op then s1.descIssue f k d else s
  | (none, _) => s

/-! ### Starting (R290, R292, R296) -/

/-- Descriptors in progress across the device (R290). -/
def State.dmvInProgress (s : State) : Nat :=
  s.dmv.fns.foldl (fun n x => x.2.rings.foldl (fun n r => n + r.2.descs.length) n) 0

/-- The descriptor fetched ahead starts, when the limits allow (R290, R292, R296). -/
def State.descriptorStart (s : State) (f k : Nat) : State :=
  let s := s.useWords [0xC] none none
  let r := s.dring f k
  match r.fetched with
  | none => s
  | some ws =>
    let fence := bitOf ((ws.getD 0 0).toNat) 9
    if s.dmvLive f ∧ (s.dfn f).phase = .enabled ∧ s.glb.mode ≠ .quiesced ∧ r.phase = .running ∧ !r.masterOff ∧ r.c ≠ r.p ∧ s.dmvInProgress < 32
        ∧ r.descs.length < 4 ∧ (!fence ∨ r.descs.isEmpty) then
      let d := descStart r.c ws s.cclkNow
      let d := match descCheck ws with | some st => { d with finished := some (st, 0) } | none => d
      s.modDring f k (fun r => { r with c := wrapInc 16 r.c, fetched := none, descs := r.descs ++ [d] })
    else s

/-- The first NOP in progress completes (R292). -/
def State.dmvNop (s : State) : State :=
  match s.dmv.fns.findSome? (fun x =>
    if s.dmvLive x.1 then
      x.2.rings.findSome? (fun r => if r.2.masterOff then none
        else (r.2.descs.find? (fun d => d.op == 0 && d.finished.isNone)).map (fun d => (x.1, r.1, d.idx)))
    else none) with
  | some (f, k, i) => s.modDesc f k i (fun d => { d with finished := some (0, 0) })
  | none => s

end Sys2Proof.Machine
end

