-- ==== Sys2Proof/Machine/Mover.lean ====
section
/-!
DEFINITION. The data mover, third part: enabling and resources (R280, R284 to R288), squash and drain (R300 to R302), Bus Master
Enable (R299), configuration space (R281, R282), the function page (R283, R305).
-/
namespace Sys2Proof.Machine

/-! ### Resources (R284 to R288) -/

/-- Rings of a function that hold a context. -/
def DmvFn.ringsUsed (x : DmvFn) : Nat := (x.rings.filter (fun r => r.2.phase != .disabled && r.2.phase != .noResource)).length

/-- Ring contexts held: the reservation, and what was drawn beyond it (R287). -/
def DmvFn.ringsHeld (x : DmvFn) : Nat := max x.ringsRes x.ringsUsed

/-- Vectors held (R287). -/
def DmvFn.vecsHeld (x : DmvFn) : Nat := max x.vecsRes x.backed.length

/-- Free ring contexts (R284). -/
def State.ringsFree (s : State) : Nat := 32704 - s.dmv.fns.foldl (fun n x => n + x.2.ringsHeld) 0

/-- Presented management endpoints, each of which takes 128 vectors (R284). -/
def State.presentedMeps (s : State) : Nat := (s.presented.filter (fun h => s.actF (offHvhCtl h) 24 24 == 1)).length

/-- Free vectors (R284). -/
def State.vecsFree (s : State) : Nat := 16384 - 128 * s.presentedMeps - s.dmv.fns.foldl (fun n x => n + x.2.vecsHeld) 0

/-- The number of rings a function may enable (R288). -/
def State.ringLimit (s : State) (f : Nat) : Nat :=
  if (s.dfn f).phase = .disabled then 0 else if s.dmv.elastic then s.ringMax f else (s.dfn f).ringsRes

/-- Count a refused ring enable or a failed retry (R288). -/
def State.noResource (s : State) : State := s.modDmv (fun d => { d with noResource := wrapInc 8 d.noResource })

/-- A context can be had for one more ring of a function (R286 to R288). -/
def State.contextFree (s : State) (f : Nat) : Bool :=
  let x := s.dfn f
  decide (x.ringsUsed < x.ringsRes) || (s.dmv.elastic && decide (x.ringsUsed < s.ringMax f) && decide (0 < s.ringsFree))

/-- A vector can be had for one more entry of a function in elastic mode (R287, R288). -/
def State.vectorFree (s : State) (f : Nat) : Bool :=
  let x := s.dfn f
  decide (x.backed.length < x.vecsRes) || (decide (x.backed.length < s.vecMax f) && decide (0 < s.vecsFree))

/-- Back an unmasked entry in elastic mode (R288). -/
def State.backEntry (s : State) (f e : Nat) : State :=
  if s.dmv.elastic ∧ !(s.dfn f).backed.contains e ∧ s.vectorFree f then s.modFn f (fun x => { x with backed := sadd x.backed e }) else s

/-- Entries that wait for backing are tried again, and each failure is counted (R288). -/
def State.retryBacking (s : State) : State :=
  if !s.dmv.elastic then s
  else
    s.each (s.dmv.fns.map (·.1)) (fun s f =>
      if (s.dfn f).phase = .disabled then s
      else
        (s.each (((s.dfn f).msix.filter (fun w => w.1 % 4 == 3 && fld w.2 0 0 == 0)).map (fun w => w.1 / 4)) (fun s e =>
          if (s.dfn f).backed.contains e then s
          else if s.vectorFree f then s.backEntry f e
          else s.noResource)).dmvMsixRelease f)

/-! ### Enabling (R280, R285 to R287) -/

/-- The hierarchy of a function (R280). -/
def State.dmvHier (s : State) (f : Nat) : Nat := match s.dmvAttached f with | some (h, _) => h | none => s.dmvHome

/-- VF Enable and NumVFs cover function f (R280). -/
def State.vfOn (s : State) (f : Nat) : Bool := bitOf (s.dmvW 0 0x5A) 0 && decide (f ≤ bitsOf (s.dmvW 0 0x5C) 15 0)

/-- The conditions of R280, but for the allocation. -/
def State.dmvEligible (s : State) (f : Nat) : Bool :=
  s.coreRuns && s.glb.mode != .test && s.glb.mode != .endpaper && s.dmvEn f &&
    (if f = 0 then s.presented.contains s.dmvHome else (s.dfn 0).phase == .enabled && s.vfOn f)

/-- Try to enable a function (R285 to R288). -/
def State.dmvTryEnable (s : State) (f : Nat) : State :=
  let s := if f = 0 then s.modDmv (fun d => { d with elastic := s.actF 0xC00000 0 0 == 1 }) else s
  let r := s.ringMin f
  let v := s.vecMin f
  if r ≤ s.ringsFree ∧ v ≤ s.vecsFree then
    (s.modFn f (fun _ =>
      { dmvFn0 with
        phase := .enabled, hier := some (s.dmvHier f), ringsRes := r, vecsRes := v,
        vecLimit := if s.dmv.elastic then s.vecMax f else v })).push .recheck
  else
    (s.modFn f (fun x => { x with allocFail := true })).modDmv (fun d => { d with allocFails := wrapInc 8 d.allocFails })

/-- R300 step 1: a squash begins. `ends`: the event disables the function. -/
def State.dmvSquash (s : State) (f : Nat) (ends : Bool) : State :=
  match (s.dfn f).phase with
  | .disabled => s
  | .resetting => s.modFn f (fun x => { x with ends := x.ends || ends })
  | _ =>
    (if s.dmv.held.any (fun x => x.1 == f) then s.dmvHold none else s).modFn f (fun x =>
      { x with
        phase := .resetting, ends := ends, cleared := false, reqs := [], pba := [],
        rings := x.rings.map (fun r => (r.1, { r.2 with descs := [], fetched := none, fetching := false })) })

/-- A drain begins (R301). -/
def State.dmvDrain (s : State) (f : Nat) : State :=
  if (s.dfn f).phase = .enabled then s.modFn f (fun x => { x with phase := .draining, drainAge := 0 }) else s

/-- The functions that something is known of, lowest first. -/
def State.dmvKnown (s : State) : List Nat :=
  let en := (s.regs.active.filter (fun x => decide (0xC10000 ≤ x.1 ∧ x.1 < 0xC18000) && x.1 % 16 == 0)).map (fun x => (x.1 - 0xC10000) / 16)
  (s.dmv.fns.map (·.1)).foldl sadd (en.foldl sadd [])

/-- The conditions of R280 are looked at for one function (R280, R286, R302). `bind`: at an E0 of a binding of unit 103. -/
def State.dmvCheckFn (s : State) (bind : Bool) (f : Nat) : State :=
  let x := s.dfn f
  match x.phase with
  | .disabled => if s.dmvEligible f then (if !x.allocFail || bind then s.dmvTryEnable f else s)
                 else if x.allocFail then s.modFn f (fun y => { y with allocFail := false }) else s
  | .enabled =>
    if s.dmvEligible f then (if x.hier = some (s.dmvHier f) then s else s.dmvSquash f true)
    else if !s.dmvEn f ∨ (f ≠ 0 ∧ (s.dfn 0).phase = .draining) then s.dmvDrain f
    else if f ≠ 0 ∧ (s.dfn 0).phase = .resetting ∧ !(s.dfn 0).ends ∧ s.vfOn f then s
    else s.dmvSquash f true
  | _ => s

/-- The conditions of R280 are looked at for every function, in ascending order (R286). -/
def State.dmvCheck (s : State) (bind : Bool) : State := s.each s.dmvKnown (fun s f => s.dmvCheckFn bind f)

/-- In elastic mode, reservations are adjusted at each E0 of a binding of unit 103 (R287). -/
def State.dmvAdjust (s : State) : State :=
  if !s.dmv.elastic then s
  else
    s.each (s.dmv.fns.map (·.1)) (fun s f =>
      let x := s.dfn f
      if x.phase ≠ .enabled ∧ (x.phase ≠ .resetting ∨ x.ends) then s
      else
        let r := s.ringMin f
        let v := s.vecMin f
        let other := s.modFn f (fun y => { y with ringsRes := 0, vecsRes := 0 })
        if max r x.ringsUsed ≤ other.ringsFree + x.ringsUsed ∧ max v x.backed.length ≤ other.vecsFree + x.backed.length then
          s.modFn f (fun y => { y with ringsRes := r, vecsRes := v, allocFail := false })
        else
          (s.modFn f (fun y => { y with allocFail := true })).modDmv (fun d => { d with allocFails := wrapInc 8 d.allocFails }))

/-! ### Bus Master Enable (R299) -/

/-- The bit was cleared: reads in flight are forgotten, rings with descriptors in progress stop. -/
def State.masterLost (s : State) (f : Nat) : State :=
  (if s.dmv.held.any (fun x => x.1 == f) then s.dmvHold none else s).modFn f (fun x =>
    { x with
      reqs := x.reqs.filter (fun q => q.use == .write),
      rings := x.rings.map (fun r => (r.1,
        { r.2 with
          fetching := false, masterOff := r.2.masterOff || !r.2.descs.isEmpty,
          descs := r.2.descs.map (fun d =>
            { d with src := { d.src with asked := false }, dst := { d.dst with asked := false }, confirming := false, toConfirm := [] }) })) })

/-- A stopped descriptor runs again from its first byte; what it wrote is still to be confirmed. -/
def DmvDesc.rerun (d : DmvDesc) : DmvDesc :=
  if d.finished.isSome ∨ d.fail.isSome then d else { descStart d.idx d.words d.born with targets := d.targets }

/-- The bit is set again: held completions, held writes, then the stopped descriptors from their first byte. -/
def State.masterBack (s : State) (f : Nat) : State :=
  s.each (s.dmvRings f) (fun s k =>
    if !(s.dring f k).masterOff then s
    else
      let s := s.dmvComplete f k 5
      let s := s.each ((s.dring f k).descs.map (·.idx)) (fun s i =>
        match s.ddesc f k i with | some d => s.descTake f k i d.fuel | none => s)
      s.modDring f k (fun r => { r with masterOff := false, descs := r.descs.map DmvDesc.rerun }))

/-- A change of a function's Command register or power state acts on every function it governs (R299). -/
def State.masterChange (s s0 : State) : State :=
  s.each (s.dmv.fns.map (·.1)) (fun s f =>
    if s0.dmvMaster f && !s.dmvMaster f then s.masterLost f
    else if !s0.dmvMaster f && s.dmvMaster f then (s.masterBack f).dmvMsixRelease f
    else s)

/-! ### Squash and drain (R300 to R302) -/

/-- R300 step 2: the requests of a function still queued in the device are removed, their bookmarks orphaned,
and accesses to a BAR that wait. -/
def State.squashCleared (s : State) (f : Nat) : State :=
  if (s.dfn f).phase ≠ .resetting then s
  else
    let mine := fun (x : Packet) => match x.dmv with | some (g, _, _) => g == f | none => false
    let ids := (s.path.packets.filter (fun x => mine x.2)).map (·.1)
    let s := { s with path := { s.path with
      heldOut := s.path.heldOut.filter (fun y => !mine y.pkt),
      bookmarks := s.path.bookmarks.map (fun (b : Nat × Bookmark) =>
        match b.2.purpose with | .dmv g _ _ => if g = f then (b.1, { b.2 with discard := true }) else b | _ => b) } }
    let s := { s with mgmt := { s.mgmt with waiting := s.mgmt.waiting.filter (fun y => match y with | .dmv g _ _ _ _ _ => g != f | _ => true) } }
    (s.each ids State.dropPacket).modFn f (fun x => { x with cleared := true })

/-- R300 step 4 on the Command and Device Control registers; Max_Payload_Size survives (R300, PCI Express). -/
def State.dmvFlrCfg (s : State) (f : Nat) : State :=
  s.modDmv (fun d => { d with cfg := d.cfg.filterMap (fun w =>
    if w.1 = 1024 * f + 1 then none
    else if w.1 = 1024 * f + 0x1E then some (w.1, w.2 &&& 0xE0#32)
    else some w) })

/-- A virtual function that a squash disabled carries nothing over (R302). -/
def State.dmvForget (s : State) (f : Nat) : State :=
  if f = 0 then s else s.modDmv (fun d => { d with cfg := d.cfg.filter (fun w => w.1 / 1024 != f) })

/-- R300 step 4: the squash is complete. Bus Master Enable of F0000 governs other functions too (R299); ALLOC_FAIL of a raised MIN stays
until a binding succeeds (R287). -/
def State.squashComplete (s : State) (f : Nat) : State :=
  if (s.dfn f).phase ≠ .resetting ∨ !(s.dfn f).cleared then s
  else
    let x := s.dfn f
    let s := ((s.dmvFlrCfg f).masterChange s).modDmv (fun d => { d with squashed := wrapInc 8 d.squashed })
    let s := if x.ends then s.dmvForget f else s
    let y : DmvFn :=
      if x.ends then dmvFn0
      else { dmvFn0 with phase := .enabled, hier := x.hier, allocFail := x.allocFail, ringsRes := x.ringsRes, vecsRes := x.vecsRes,
                            vecLimit := x.vecLimit }
    ((s.modFn f (fun _ => y)).dmvCheck false).push .recheck

/-- A function has drained: no descriptor is left (R301). -/
def DmvFn.drained (x : DmvFn) : Bool := x.rings.all (fun r => r.2.descs.isEmpty)

/-- The last descriptor of a draining function has completed (R301). -/
def State.drainComplete (s : State) (f : Nat) : State :=
  if (s.dfn f).phase = .draining ∧ (s.dfn f).drained then
    (((s.modFn f (fun _ => dmvFn0)).modDmv (fun d => { d with drained := wrapInc 8 d.drained })).dmvCheck false).push .recheck
  else s

/-- A drain reached DRAIN_TO (R301). -/
def State.drainTimeout (s : State) (f : Nat) : State :=
  if (s.dfn f).phase = .draining ∧ s.actF 0xC00000 23 16 ≤ (s.dfn f).drainAge then s.dmvSquash f true else s

/-- MTICK of the data mover: drains age, backing is tried again. -/
def State.dmvTick (s : State) : State :=
  (s.each (s.dmv.fns.map (·.1)) (fun s f =>
    if (s.dfn f).phase = .draining then s.modFn f (fun x => { x with drainAge := x.drainAge + 1 }) else s)).retryBacking

/-- Every virtual function is squashed and disabled (R302). -/
def State.squashVfs (s : State) : State :=
  (s.each ((s.dmv.fns.map (·.1)).filter (fun f => f != 0)) (fun s f => s.dmvSquash f true)).push .recheck

/-- A function-level reset, or a reset of its vDSB (R302, R74). -/
def State.dmvFlr (s : State) (f : Nat) : State := s.dmvSquash f false

/-- The home hierarchy is reset (R302). -/
def State.dmvHomeReset (s : State) : State :=
  ((s.dmvSquash 0 false).modDmv (fun d => { d with
    cfg := tmod 0 d.cfg 0x5A (fun w => BitVec.ofNat 32 (w.toNat / 2 * 2)) })).squashVfs

/-! ### Configuration space (R281, R282) -/

/-- Reset values of words, beside those that are constant. -/
def dmvCfgReset (d : Nat) : Nat := if d = 0x60 then 1 else cfgReset .mep d

/-- The constant bits of R282, by function and word. -/
def State.dmvCfgConst (s : State) (f d : Nat) : Nat :=
  match d with
  | 0 => if f = 0 then 0x7259EB37 else 0x725AEB37
  | 1 => 0x00100400
  | 2 => 0x08010000
  | 4 => 0x4
  | 11 => 0x0002EB37
  | 13 => 0x40
  | 0x10 => 0x00035001
  | 0x11 => 0x8
  | 0x14 => 0x7011 + place ((s.dfn f).vecLimit - 1) 26 16
  | 0x15 => 0x8000
  | 0x16 => 0xC000
  | 0x1C => 0x00020010
  | 0x1D => 0x10000002
  | 0x25 => 0x10020000
  | 0x40 => extCap 1 2 (if f = 0 then 0x148 else 0)
  | 0x52 => if f = 0 then extCap 0x0E 1 0x160 else 0
  | 0x58 => if f = 0 then extCap 0x10 1 0 else 0
  | 0x5B => if f = 0 then 0x07FF07FF else 0
  | 0x5D => if f = 0 then 0x00010001 else 0
  | 0x5E => if f = 0 then 0x725A0000 else 0
  | 0x5F => if f = 0 then 0x1F else 0
  | 0x61 => if f = 0 then 0x4 else 0
  | _ => 0

/-- The writable bits of R282, by function and word. -/
def dmvCfgWritable (f d : Nat) : Nat :=
  match d with
  | 1 => 0x146
  | 4 => 0xFFFF0000
  | 5 => 0xFFFFFFFF
  | 0x11 => 0x3
  | 0x14 => 0xC0000000
  | 0x1E => 0x7FFF
  | 0x26 => 0xFFFF
  | 0x42 => aerUncorrBits
  | 0x43 => aerUncorrBits
  | 0x45 => aerCorrBits
  | 0x5A => if f = 0 then 0x19 else 0
  | 0x5C => if f = 0 then 0xFFFF else 0
  | 0x60 => if f = 0 then 0x1F else 0
  | 0x61 => if f = 0 then 0xFFFF0000 else 0
  | 0x62 => if f = 0 then 0xFFFFFFFF else 0
  | _ => 0

/-- The bits that a 1 clears. -/
def dmvCfgRw1c (d : Nat) : Nat := if d = 0x1E then 0xF0000 else if d = 0x41 then aerUncorrBits else if d = 0x44 then aerCorrBits else 0

/-- A word of a function's configuration space as a host reads it (R282). -/
def State.dmvCfgRead (s : State) (f d : Nat) : Nat :=
  ((s.dmvW f d ^^^ dmvCfgReset d) - ((s.dmvW f d ^^^ dmvCfgReset d) &&& s.dmvCfgConst f d)) ||| s.dmvCfgConst f d

/-- A configuration write, and what it does (R282, R299, R300, R302). NumVFs keeps its value while VF Enable is 1. -/
def State.dmvCfgWrite (s0 : State) (f d val be : Nat) : State :=
  let m := beMask be
  let wm := if d = 0x5C ∧ bitOf (s0.dmvW 0 0x5A) 0 then 0 else dmvCfgWritable f d &&& m
  let old := s0.dmvW f d ^^^ dmvCfgReset d
  let v := (old - (old &&& wm)) ||| (val &&& wm)
  let v := v - (v &&& (dmvCfgRw1c d &&& m &&& val))
  let v := if d = 0x11 ∧ (v % 4 = 1 ∨ v % 4 = 2) then v - v % 4 + old % 4 else v
  let s := s0.modDmv (fun x => { x with cfg := tput 0 x.cfg (1024 * f + d) (BitVec.ofNat 32 (v ^^^ dmvCfgReset d)) })
  match d with
  | 1 => s.masterChange s0
  | 0x11 => s.masterChange s0
  | 0x14 => s.dmvMsixRelease f
  | 0x1E => if bitOf (val &&& m) 15 then s.dmvFlr f else s
  | 0x5A => if f ≠ 0 then s else if bitOf old 0 ∧ !bitOf v 0 then s.squashVfs else s.dmvCheck false
  | _ => s

/-- A configuration request to a function (R281, R282, R300): retried while it resets, refused while it is disabled. -/
def State.dmvCfg (s : State) (f : Nat) (x : Rx) : State :=
  let t := x.tlp
  let ing : Ingress := .port x.port
  let d := t.addr.toNat % 1024
  match (s.dfn f).phase with
  | .disabled => s.refuse ing 0 t
  | .resetting => ((s.answer ing 0 t .crs false []).answered x.port)
  | _ =>
    if t.op = .cfgRead then (s.answer ing 0 t .ok false (leBytes 4 (s.dmvCfgRead f d))).answered x.port
    else ((s.dmvCfgWrite f d (leNat t.payload) (t.be.toNat % 16)).answer ing 0 t .ok false []).answered x.port

/-! ### The function page (R283, R305) -/

/-- The page of a function answers: enabled, Memory Space Enable, not D3hot (R282, R300). -/
def State.pageOn (s : State) (f : Nat) : Bool :=
  ((s.dfn f).phase == .enabled || (s.dfn f).phase == .draining) && bitsOf (s.dmvW f 0x11) 1 0 != 3
    && (bitOf (s.dmvW f 1) 1 || (f != 0 && (s.dmvAttached f).isNone))

/-- The STATE of a ring as it reads (R305): MASTER_OFF for every ring that stopped with a descriptor in progress (R299). -/
def ringStateCode (r : DmvRing) : Nat :=
  if r.masterOff then 4
  else match r.phase with
  | .disabled => 0
  | .running => 1
  | .draining => 2
  | .stopped => 3
  | .noResource => 5

/-- A word of the function page (R283, R305). -/
def State.pageRead (s : State) (f off : Nat) : Nat :=
  if 0x1000 ≤ off ∧ off < 0x2000 then
    let r := s.dring f ((off - 0x1000) / 0x40)
    match off % 0x40 with
    | 0x00 => r.sqLo
    | 0x04 => r.sqHi
    | 0x08 => r.cqLo
    | 0x0C => r.cqHi
    | 0x10 => r.ctl.toNat
    | 0x14 => place (ringStateCode r) 27 24 + place r.descs.length 18 16 + place r.c 15 0
    | 0x18 => place r.errCause 23 16 + place r.errIdx 15 0
    | 0x1C => place r.w 31 16 + place r.p 15 0
    | _ => 0
  else if off = 0x2000 then place (s.ringLimit f) 22 16 + place (s.dfn f).vecLimit 8 0
  else if 0x8000 ≤ off ∧ off < 0x8000 + 16 * (s.dfn f).vecLimit then (s.dmvMsixW f ((off - 0x8000) / 4)).toNat
  else if 0xC000 ≤ off ∧ off < 0xC020 then
    ((s.dfn f).pba.filter (fun e => e / 32 == (off - 0xC000) / 4)).foldl (fun n e => n + 2 ^ (e % 32)) 0
  else 0

/-- A descriptor fetched ahead is given up, and one on its way is discarded when it comes (R291). -/
def State.dropFetch (s : State) (f k : Nat) : State :=
  (s.modFn f (fun x => { x with reqs := x.reqs.filter (fun q => !(q.use == .fetch && q.ring == k)) })).modDring f k (fun r =>
    { r with fetched := none, fetching := false })

/-- A submission doorbell (R265, R291). DESIGN CHOICE (log 98): a refused doorbell of a ring that no longer runs changes nothing, the ring
being stopped or on its way to DISABLED; one that is disabled has no doorbells. -/
def State.dmvSqDb (s : State) (f k idx : Nat) : State :=
  let r := s.dring f k
  if r.phase = .disabled ∨ r.phase = .noResource then s
  else if r.size < (idx + 65536 - r.c) % 65536 ∨ r.size < (idx + 65536 - r.h) % 65536 then
    (if r.phase = .running then s.dmvStop f k 1 idx else s)
  else if idx = r.c then (s.dropFetch f k).modDring f k (fun r => { r with p := idx })
  else s.modDring f k (fun r => { r with p := idx })

/-- A completion doorbell (R265, R291). -/
def State.dmvCqDb (s : State) (f k idx : Nat) : State :=
  let r := s.dring f k
  if r.phase = .disabled ∨ r.phase = .noResource then s
  else if (r.w + 65536 - r.h) % 65536 < (idx + 65536 - r.h) % 65536 then
    (if r.phase = .running then s.dmvStop f k 1 idx else s)
  else s.modDring f k (fun r => { r with h := idx })

/-- A reserved encoding was written in a function page (R14). -/
def State.pageReserved (s : State) : State := s.raiseDev 1473 0 { raise0 with block := 12 }

/-- A write of DMV_Kkk_CTL (R265, R278, R288, R291, R305). DEDUCED (log 99): what R264 and R278 count for a ring of the data mover is counted
in CMR_COUNTS.SETUP_DROPS. -/
def State.dmvRingCtl (s : State) (f k w : Nat) : State :=
  let r := s.dring f k
  let badSize := 9 ≤ bitsOf w 22 19
  let badVec := (s.dfn f).vecLimit ≤ bitsOf w 7 0
  let s := if badSize ∨ badVec then s.pageReserved else s
  let free := r.phase = .disabled
  let size := if free ∧ !badSize then bitsOf w 22 19 else fld r.ctl 22 19
  let vec := if badVec then fld r.ctl 7 0 else bitsOf w 7 0
  let en := bitOf w 31 && r.phase != .draining
  let ctl : Word := BitVec.ofNat 32
    (place (b2n en) 31 31 + place (bitsOf w 30 30) 30 30 + place size 22 19 + place (bitsOf w 18 18) 18 18 + place vec 7 0)
  let s := if !free ∧ r.phase ≠ .draining ∧ !badSize ∧ bitsOf w 22 19 ≠ fld r.ctl 22 19 then s.setupDrop else s
  let s := s.modDring f k (fun r => { r with ctl := ctl })
  match bitOf w 31, r.phase with
  | true, .disabled =>
    if k < s.ringLimit f ∧ s.contextFree f then
      (s.dropFetch f k).modDring f k (fun r =>
        { r with phase := .running, p := 0, c := 0, w := 0, h := 0, errCause := 0, errIdx := 0, masterOff := false, fetched := none,
                 fetching := false, descs := [] })
    else (s.modDring f k (fun r =>
        { r with phase := .noResource, p := 0, c := 0, w := 0, h := 0, errCause := 0, errIdx := 0 })).noResource
  | true, .draining => s.setupDrop
  | false, .running => (s.modDring f k (fun r => { r with phase := .draining, fetched := none })).dmvRingDone f k
  | false, .stopped => (s.modDring f k (fun r => { r with phase := .draining, fetched := none })).dmvRingDone f k
  | false, .noResource => s.modDring f k (fun r => { r with phase := .disabled })
  | _, _ => s

/-- A write of a word of the MSI-X table (R288). -/
def State.dmvMsixWrite (s : State) (f j v : Nat) : State :=
  let s := s.modFn f (fun x => { x with msix := tput (msixReset j) x.msix j (BitVec.ofNat 32 (if j % 4 = 3 then v % 2 else v)) })
  if j % 4 ≠ 3 then s
  else if v % 2 = 1 then s.modFn f (fun x => { x with backed := sdel x.backed (j / 4) })
  else (s.backEntry f (j / 4)).dmvMsixRelease f

/-- A write of a word of the function page (R283, R305). -/
def State.pageWrite (s : State) (f off v : Nat) : State :=
  if off < 0x200 then (if off % 8 = 0 then s.dmvSqDb f (off / 8) (v % 65536) else s.dmvCqDb f (off / 8) (v % 65536))
  else if 0x1000 ≤ off ∧ off < 0x2000 then
    let k := (off - 0x1000) / 0x40
    let r := s.dring f k
    let set := fun (g : DmvRing → DmvRing) => if r.phase = .disabled then s.modDring f k g else if g r = r then s else s.setupDrop
    match off % 0x40 with
    | 0x00 => set (fun r => { r with sqLo := v / 4096 * 4096 })
    | 0x04 => set (fun r => { r with sqHi := v })
    | 0x08 => set (fun r => { r with cqLo := v / 4096 * 4096 })
    | 0x0C => set (fun r => { r with cqHi := v })
    | 0x10 => s.dmvRingCtl f k v
    | _ => s
  else if 0x8000 ≤ off ∧ off < 0x8000 + 16 * (s.dfn f).vecLimit then s.dmvMsixWrite f ((off - 0x8000) / 4) v
  else s

/-- An access to a page by its size and alignment (R283, R12): the words of it, or none where it is malformed. -/
def pageWords (off len : Nat) : Option (List Nat) :=
  if len = 4 ∧ off % 4 = 0 then some [off]
  else if len = 8 ∧ off % 8 = 0 ∧ 0x8000 ≤ off ∧ off < 0x9000 then some [off, off + 4]
  else none

/-- A write through a path that reaches the page (R283, R12, R282). -/
def State.pageStore (s : State) (f off : Nat) (data : List Byte) : State :=
  if !s.pageOn f then s
  else match pageWords off data.length with
    | some ws => s.each ws (fun s o => s.pageWrite f o (leNat ((data.drop (o - off)).take 4)))
    | none => s.countDev 0

/-- The page of a virtual function that is not enabled reads zero (R422), where R282 lets it be read. -/
def State.pageZero (s : State) (f : Nat) : Bool :=
  f != 0 && (s.dfn f).phase == .disabled && bitsOf (s.dmvW f 0x11) 1 0 != 3
    && (bitOf (s.dmvW f 1) 1 || (s.dmvAttached f).isNone)

/-- An access of a host to a function page (R283, R422). -/
def State.dmvBarAccess (s : State) (f off : Nat) (x : Rx) : State :=
  let t := x.tlp
  let ing : Ingress := .port x.port
  if t.op = .memWrite then s.pageStore f off (if t.be = 0 then t.payload else [])
  else if t.op = .memRead ∧ s.pageOn f then
    match pageWords off t.len with
    | some ws => (s.answer ing x.srcFid t .ok false (ws.flatMap (fun o => leBytes 4 (s.pageRead f o)))).answered x.port
    | none => (s.countDev 0).refuse ing x.srcFid t
  else if t.op = .memRead ∧ s.pageZero f then (s.answer ing x.srcFid t .ok false (List.replicate t.len 0)).answered x.port
  else s.refuse ing x.srcFid t

/-! ### Registers of the block (R304) -/

/-- STATE of DMV_Fffff_STATUS. -/
def phaseCode : FnPhase → Nat
  | .disabled => 0
  | .enabled => 1
  | .draining => 2
  | .resetting => 3

/-- DMV_Fffff_STATUS. -/
def State.dmvStatus (s : State) (f : Nat) : Nat :=
  let x := s.dfn f
  place (phaseCode x.phase) 31 29 + place (b2n x.allocFail) 28 28 + place (x.hier.getD 0x3F) 27 22 + place x.ringsHeld 20 14
    + place x.vecsHeld 8 0

/-- DMV_POOL. -/
def State.dmvPool (s : State) : Nat := place s.ringsFree 30 16 + place s.vecsFree 14 0

/-- DMV_COUNTS. -/
def State.dmvCounts (s : State) : Nat :=
  place s.dmv.squashed 31 24 + place s.dmv.drained 23 16 + place s.dmv.allocFails 15 8 + s.dmv.noResource % 256

end Sys2Proof.Machine
end

