-- ==== Sys2Proof/Machine/Contain.lean ====
section
/-!
DEFINITION. Containment (R327, R328, R332), notification (R330, R331), clearing (R329) and the level causes (R317 to R320).
-/
namespace Sys2Proof.Machine

/-- PORT containment at its opening (R327). -/
def State.containPort (s : State) (p : Nat) : State :=
  if s.role p = .device then
    let vs := s.portLdVdsbs p
    let s := ((s.portOff p).losePort p).slotContain p
    s.each vs (fun s a => s.dpcContain a.1 a.2.1)
  else s.portOff p

/-- LINK containment, at opening and at a merge (R327): on a fabric port a full link reset, unless its link is down by now (R239). -/
def State.containLink (s : State) (p : Nat) : State :=
  if s.role p = .fabric then (if (s.port p).sup = .up ∨ (s.port p).sup = .held then s.push (.bflReset p) else s)
  else if (s.port p).sup = .up then s.portDetect p
  else s

/-- What was received and waits at ingress when record 255 opens is answered as new requests are (R328), transit requests that wait after
their decode among it; configuration requests go on. What waits with a bookmark is answered by that. -/
def State.refuseHeld (s : State) : State :=
  let isCfg := fun (y : HeldRx) => y.rx.tlp.op == .cfgRead || y.rx.tlp.op == .cfgWrite
  let hr := s.path.heldRx
  let ho := s.path.heldOut.filter (fun y => y.pkt.bookmark.isNone)
  let s := { s with path := { s.path with heldRx := hr.filter isCfg, heldOut := [] } }
  let s := s.each ho (fun s y => s.refuse y.pkt.ingress y.pkt.srcFid y.pkt.tlp)
  s.each (hr.filter (fun y => !isCfg y)) (fun s y => s.refuse (.port y.rx.port) y.rx.srcFid y.rx.tlp)

/-- Record 255 opens (R328): the mode, the queues, the bookmarks. -/
def State.deviceFatal (s : State) (source : Nat) : State :=
  let s :=
    match s.glb.mode with
    | .quiesced => ({ s with glb := { s.glb with quiesceCause := 3 } }).colophon 6 3 source
    | .standalone | .member | .anchor => s.enterQuiesced 3 source
    | _ => s
  let s := s.each (s.path.queues.map (·.1)) State.flushPort
  let s := s.refuseHeld
  s.each (s.path.bookmarks.filter (fun b => !b.2.quarantined)) (fun s b => s.push (.bmResult b.1 none 0 .expired))

/-- A record was opened: containment, reports, interrupts (R327, R328, R330, R331). -/
def State.doOpened (s : State) (r : Nat) (i : RaiseInfo) : State :=
  let x := s.record r
  let s := s.aerReport x i
  let s := match x.kind with
    | .port => s.containPort x.inst
    | .link => s.containLink x.inst
    | .device => s.deviceFatal i.src
    | _ => s
  if bitOf (s.dir 0xE04000).toNat 31 ∧ s.dirF 0xE04000 10 8 ≤ sevCode x.sev then s.mgmtMsix (s.dirF 0xE04000 6 0) else s

/-- ELG_Snnnn_STATUS.ACTIVE (R317 to R320, R333, R370). -/
def State.levelActive (s : State) (n : Nat) : Bool :=
  if !sourceLevel n then false
  else match sourceHome n with
    | .port _ => s.parityCause n
    | .hier h =>
      if n % 8 = 0 then s.parityCause n
      else if n % 8 = 1 then (s.hier h).conflict
      else s.path.windowConflict.contains h
    | .stack k => if n % 4 = 0 then s.parityCause n else !(s.stack k).refclkOk
    | .device =>
      match n with
      | 1472 => s.parityCause n
      | 1474 => s.holdoverOver
      | 1476 => s.path.overcommit
      | 1477 => !s.path.failFolio.isEmpty || !s.path.failRoute.isEmpty
      | 1479 => !s.path.failGather.isEmpty
      | 1486 => !s.fabric.idLost.isEmpty
      | 1487 => s.fabric.st == .far
      | 1520 => !s.power.feedA.good
      | 1521 => !s.power.feedB.good
      | 1525 => s.power.vinLow
      | 1526 => s.power.budgetWait
      | _ => false

/-- A level source is ACTIVE for the scope of a record (R329). -/
def State.activeFor (s : State) (x : Record) (n : Nat) : Bool :=
  s.levelActive n &&
    (match x.kind with
     | .source | .device => true
     | k =>
       let i := { raise0 with
         src := n, port := (match sourceHome n with | .port p => some p | _ => none),
         hier := (match sourceHome n with | .hier h => some h | _ => none) }
       (s.scopes i (s.severity n)).contains (k, x.inst))

/-- LEDGER_CLEAR of a record (R329): its status, and the state. -/
def State.ledgerClear (s : State) (r : Nat) : Nat × State :=
  let x := s.record r
  if !x.isOpen then (0x61, s)
  else if x.srcs.any (s.activeFor x) then
    let s := s.setRecord r { x with refused := min 255 (x.refused + 1) }
    (0x60, { s with ledger := { s.ledger with refused := wrapInc 8 s.ledger.refused } })
  else
    let s := s.setRecord r { x with isOpen := false }
    let s := if x.kind = .port then s.slotUncontain x.inst else s
    (0, s.push .recheck)

/-- Words that show which records are open (R333). -/
def State.openMap (s : State) (k : Nat) : Nat :=
  (s.ledger.records.filter (fun x => x.2.isOpen && x.1 / 32 == k)).foldl (fun n x => n + 2 ^ (x.1 % 32)) 0

/-- Records open now (R333). -/
def State.openNow (s : State) : Nat := (s.ledger.records.filter (fun x => x.2.isOpen)).length

end Sys2Proof.Machine
end

