-- ==== Sys2Proof/Machine/RegStore.lean ====
section
/-!
DEFINITION. What a write leaves in a word: fields by access code, reserved encodings (R10, R13, R14), the shadow quire (R49,
R274).
-/
namespace Sys2Proof.Machine

/-- A reserved encoding of a field (R14). -/
def FieldRow.isBad (f : FieldRow) (v : Nat) : Bool := f.bad.any (fun r => decide (r.1 ≤ v ∧ v ≤ r.2))

/-- The fields of a word after a write to those of certain access codes (R10, R13, R14): the new word, and how many fields
kept their value for a reserved encoding. -/
def mergeFields (p : Access → Bool) : List FieldRow → Nat → Nat → Nat × Nat
  | [], old, _ => (old, 0)
  | f :: fs, old, val =>
    let r := mergeFields p fs old val
    if p f.acc ∧ f.held then
      let v := bitsOf val f.hi f.lo
      if f.isBad v then (r.1, r.2 + 1) else (setBits r.1 f.hi f.lo v, r.2)
    else r

/-- SWC_Pnn_ARB: byte j of a value pairs weight 0 with STRICT 0, which is reserved; both fields keep their values. -/
def arbByte (old : Nat) (r : Nat × Nat) (val j : Nat) : Nat × Nat :=
  if bitsOf val (8 * j + 7) (8 * j) = 0 then (setBits r.1 (8 * j + 7) (8 * j) (bitsOf old (8 * j + 7) (8 * j)), r.2 + 2) else r

/-- The word that a write leaves, with the reserved pair of SWC_Pnn_ARB. -/
def mergePlace (p : Access → Bool) (x : Place) (old val : Nat) : Nat × Nat :=
  let r := mergeFields p x.row.fields old val
  match x.row.name with
  | .swcArb0 | .swcArb1 => [0, 1, 2, 3].foldl (fun r j => arbByte old r val j) r
  | .obsCtl =>
    if bitsOf r.1 30 28 = 1 ∧ 48 ≤ bitsOf val 15 10 then (setBits r.1 15 10 (bitsOf old 15 10), r.2 + 1) else r
  | _ => r

/-- The access code of fields in the shadow quire. -/
def isRwq (a : Access) : Bool := a == .rwq

/-- Whether a register holds an RWQ field (R274). -/
def holdsRwq (off : Nat) : Bool := match locate off with | some x => x.row.fields.any (fun f => isRwq f.acc) | none => false

/-- The reserved-value source of a block (R14, R320), when fields kept their values. DESIGN CHOICE (log 62): once for a write, however
many of its fields had reserved encodings. -/
def State.keptRaise (s : State) (off kept : Nat) : State :=
  if kept = 0 then s else s.raiseDev 1473 0 { raise0 with block := off / 0x100000 }

/-- The shadow word as the writes that have arrived leave it: the newest one queued at the gate, or the word itself (R49). -/
def State.shadowLatest (s : State) (off : Nat) : Word :=
  match s.regs.gateQueue.reverse.find? (fun w => w.off == off) with | some w => w.val | none => s.shad off

/-- The gate of a word's unit is closed (R49). -/
def State.offClosed (s : State) (off : Nat) : Bool := match unitAt off with | some u => s.gateClosed u | none => false

/-- PMC_HIST_hhh_SEL1.INST: values out of the range of the measure that SEL0 names are reserved (R352, R354). -/
def State.mergeHist (s : State) (x : Place) (old val : Nat) (r : Nat × Nat) : Nat × Nat :=
  match x.row.name with
  | .pmcHistSel1 =>
    let lim := match fld (s.shadowLatest (x.off - 4)) 31 28 with | 5 => 2048 | 6 => 64 | _ => 4096
    if lim ≤ bitsOf val 11 0 then (setBits r.1 11 0 (bitsOf old 11 0), r.2 + 1) else r
  | _ => r

/-- A write of the RWQ fields of a register (R14, R49): into the shadow quire, or into the queue at a closed gate. The answer
counts the fields that kept their values. -/
def State.stage (s : State) (off val : Nat) : Nat × State :=
  match locate off with
  | none => (0, s)
  | some x =>
    let r := s.mergeHist x (s.shadowLatest off).toNat val (mergePlace isRwq x (s.shadowLatest off).toNat val)
    let w : Word := BitVec.ofNat 32 r.1
    let s := s.keptRaise off r.2
    if s.offClosed off then (r.2, { s with regs := { s.regs with gateQueue := s.regs.gateQueue ++ [⟨off, w⟩] } })
    else (r.2, s.shadowWrite off w)

end Sys2Proof.Machine
end

