-- ==== Sys2Proof/Machine/Rings.lean ====
section
/-!
DEFINITION. Command rings: memory and interrupts (R263), doorbells and set-up (R264, R265), completions (R266), stopping,
disabling, resets (R275, R278).
-/
namespace Sys2Proof.Machine

/-- Change the command rings. -/
def State.modRings (s : State) (f : Rings → Rings) : State := { s with rings := f s.rings }

/-- A command ring; number 64 stands for the commands received from the fabric (R204). -/
def State.ring (s : State) (r : Nat) : Ring := tget ring0 s.rings.rings r

/-- Change a ring. -/
def State.modRing (s : State) (r : Nat) (f : Ring → Ring) : State := s.modRings (fun x => { x with rings := tmod ring0 x.rings r f })

/-- The offset of a ring's set-up registers (R279). -/
def offCmr (r : Nat) : Nat := 0xB40000 + 0x40 * r

/-- CMR_Rrr_CTL. -/
def State.ringCtl (s : State) (r : Nat) : Nat := (s.dir (offCmr r + 0x10)).toNat

/-- The number of entries. -/
def State.ringSize (s : State) (r : Nat) : Nat := 2 ^ (bitsOf (s.ringCtl r) 22 19 + 4)

/-- The hierarchy of a restricted ring (R263). -/
def State.ringGrant (s : State) (r : Nat) : Option Nat := if bitOf (s.ringCtl r) 30 then some (bitsOf (s.ringCtl r) 28 23) else none

/-- Where a ring's memory lies (R263). -/
def State.ringMem (s : State) (r : Nat) : RingMem :=
  if bitOf (s.ringCtl r) 29 then .localBus
  else match s.ringGrant r with
    | some h => .host h
    | none => match s.privHier with | some h => .host h | none => .nowhere

/-- A ring's memory can be read and written: its endpoint has Bus Master Enable (R278); none where no endpoint serves it. -/
def State.ringOn (s : State) (r : Nat) : Bool :=
  match s.ringMem r with
  | .host h => s.mepOn h
  | .localBus => true
  | .nowhere => false

/-- The interrupt of a ring (R266). -/
def State.ringIrq (s : State) (r : Nat) : State :=
  if !bitOf (s.ringCtl r) 18 then s
  else match s.ringMem r with
    | .host h => s.mepMsix h (bitsOf (s.ringCtl r) 6 0)
    | .localBus => s.out (.mpRing r)
    | .nowhere => s

/-- A ring stops (R275). -/
def State.ringStop (s : State) (r cause idx : Nat) : State :=
  (s.modRing r (fun x => { x with phase := .stopped, fetch := none, errCause := cause, errIdx := idx })).ringIrq r

/-- Commands of a ring between check and effect. -/
def State.ringChecked (s : State) (r : Nat) : Nat :=
  (s.rings.checked.filter (fun c => match c.origin with | .ring k _ _ => k == r | .remote _ _ _ => r == 64 | .none => false)).length

/-- INFLIGHT: commands of a ring in their wait stage (R268, R279). -/
def State.inFlight (s : State) (r : Nat) : Nat := (s.ring r).waits.length - s.ringChecked r

/-! ### Doorbells (R265) -/

/-- A doorbell write that is refused (R265, R275). DESIGN CHOICE (log 98): a ring that is draining or stopped is not stopped by it,
and keeps the cause it has. -/
def State.doorbellRefused (s : State) (r idx : Nat) : State := if (s.ring r).phase = .running then s.ringStop r 1 idx else s

/-- A submission doorbell: P of a ring that is not disabled. -/
def State.sqDoorbell (s : State) (r idx : Nat) : State :=
  let x := s.ring r
  if x.phase = .disabled then s
  else if s.ringSize r < (idx + 65536 - x.c) % 65536 ∨ s.ringSize r < (idx + 65536 - x.h) % 65536 then s.doorbellRefused r idx
  else s.modRing r (fun x => { x with p := idx })

/-- A completion doorbell: H of a ring that is not disabled. -/
def State.cqDoorbell (s : State) (r idx : Nat) : State :=
  let x := s.ring r
  if x.phase = .disabled then s
  else if (x.w + 65536 - x.h) % 65536 < (idx + 65536 - x.h) % 65536 then s.doorbellRefused r idx
  else s.modRing r (fun x => { x with h := idx })

/-! ### Completions (R266, R278) -/

/-- The two words of a completion (R266), lowest first. -/
def cplWords (w n status tag idx result : Nat) : List Quad :=
  [BitVec.ofNat 64 result,
   BitVec.ofNat 64 (place (b2n (w / n % 2 == 0)) 63 63 + place status 55 48 + place tag 47 32 + place idx 31 16)]

/-- Write a completion to its slot, and interrupt (R266). -/
def State.writeCpl (s : State) (r : Nat) (c : HeldCpl) : State :=
  let x := s.ring r
  let base := 2 ^ 32 * (s.dir (offCmr r + 0xC)).toNat + s.dirF (offCmr r + 8) 31 12 * 4096
  let s := s.memWrite (s.ringMem r) (base + 16 * (x.w % s.ringSize r))
    (wordBytes (cplWords x.w (s.ringSize r) c.status c.cmd.tag c.cmd.idx c.result))
  let s := if s.observing then s.push (.measured 6 (s.cclkNow - c.cmd.born) 64 64 0 r) else s
  let s := s.modRing r (fun x => { x with w := wrapInc 16 x.w })
  if c.cmd.irq then s.ringIrq r else s

/-- A draining ring without commands in wait is disabled (R278). -/
def State.ringDone (s : State) (r : Nat) : State :=
  if (s.ring r).phase = .draining ∧ (s.ring r).waits.isEmpty then s.modRing r (fun x => { x with phase := .disabled, discard := false }) else s

/-- Count a completion discarded by a reset (R278). -/
def State.cplDrop (s : State) : State := s.modRings (fun x => { x with resetDrops := wrapInc 8 x.resetDrops })

/-- A completion of a command is due: written, held while Bus Master Enable is 0, or discarded (R266, R278). -/
def State.ringComplete (s : State) (r : Nat) (c : HeldCpl) : State :=
  let x := s.ring r
  if x.discard then s.cplDrop
  else if s.ringOn r then s.writeCpl r c
  else if x.phase = .draining ∨ x.phase = .disabled then s
  else s.modRing r (fun x => { x with held := x.held ++ [c] })

/-- A command of a ring is still between check and effect. -/
def State.isChecked (s : State) (r : Nat) (w : Waiting) : Bool :=
  s.rings.checked.any (fun c =>
    match c.origin with
    | .ring k i _ => k == r && i == w.idx
    | .remote p q src => r == 64 && p == w.port && q == w.idx && src == w.src
    | .none => false)

/-- The FENCE at the front of the commands in wait, with its effect stage behind it, completes (R273). -/
def State.fenceDue (s : State) (r : Nat) : Option Waiting :=
  match (s.ring r).waits with
  | w :: _ => if w.opcode = 1 ∧ !w.remote ∧ !s.isChecked r w then some w else none
  | [] => none

/-- A remote FENCE completes: the commands that came behind it are taken, in arrival order (R204, R273). -/
def State.remoteGo (s : State) : State :=
  (s.modRings (fun x => { x with remoteHeld := [] })).each s.rings.remoteHeld (fun s c => s.push (.takeCmd c.1 c.2))

/-- A command ends with a status and result (R266, R270). -/
def State.cmdEnd (s : State) (o : Origin) (status result : Nat) : State :=
  match o with
  | .none => s
  | .ring r idx _ =>
    match (s.ring r).waits.find? (fun w => w.idx == idx) with
    | none => s
    | some w =>
      let s := s.modRing r (fun x => { x with waits := x.waits.erase w })
      let s := (s.ringComplete r ⟨w, status, result⟩).ringDone r
      match s.fenceDue r with
      | some f => s.push (.cmdDone (.ring r f.idx f.tag) 0 0)
      | none => s
  | .remote p q src =>
    match (s.ring 64).waits.find? (fun w => w.idx == q && w.port == p && w.src == src) with
    | none => s
    | some w =>
      let s := s.modRing 64 (fun x => { x with waits := x.waits.erase w })
      let s := if w.opcode = 1 then s.remoteGo else s
      let s := s.cmdRespond p q src
        [BitVec.ofNat 64 result, BitVec.ofNat 64 (place 1 63 63 + place status 55 48 + place w.tag 47 32)]
      match s.fenceDue 64 with
      | some f => s.push (.cmdDone (.remote f.port f.idx f.src) 0 0)
      | none => s

/-- Bus Master Enable of an endpoint was set again: held completions are written, in order (R278). -/
def State.ringsBack (s : State) (h : Nat) : State :=
  s.each (s.rings.rings.map (·.1)) (fun s r =>
    if s.ringMem r = .host h ∧ r < 64 then
      let l := (s.ring r).held
      (s.modRing r (fun x => { x with held := [] })).each l (fun s c => s.writeCpl r c)
    else s)

/-! ### Set-up (R264, R278) -/

/-- EN changes to 0, or is cleared by a reset (R278): the ring drains. Completions held are discarded. -/
def State.ringDisable (s : State) (r : Nat) (reset : Bool) : State :=
  let x := s.ring r
  if x.phase = .disabled then s
  else
    let s := if reset then s.each x.held (fun s _ => s.cplDrop) else s
    (s.modRing r (fun x => { x with phase := .draining, held := [], staged := none, fetch := none, discard := x.discard || reset })).ringDone r

/-- EN changes to 1 on a disabled ring (R265, R275, R276). -/
def State.ringEnable (s : State) (r : Nat) : State :=
  s.modRing r (fun x => { ring0 with phase := .running, waits := x.waits })

/-- A write of CMR_Rrr_CTL (R14, R263, R264, R278). `w` is what was written. -/
def State.ringCtlWrite (s : State) (r w : Nat) : State :=
  let off := offCmr r + 0x10
  match locate off with
  | none => s
  | some x =>
    let old := s.ringCtl r
    let m := mergePlace (· == .rwi) x old w
    let both := bitOf w 30 && bitOf w 29
    let new := if both then setBits m.1 30 29 (bitsOf old 30 29) else m.1
    let s := s.keptRaise off (m.2 + (if both then 2 else 0))
    match (s.ring r).phase with
    | .disabled =>
      let s := s.setDir off (BitVec.ofNat 32 new)
      if bitOf new 31 then s.ringEnable r else s
    | ph =>
      let kept := setBits (setBits (setBits old 31 31 (bitsOf new 31 31)) 18 18 (bitsOf new 18 18)) 6 0 (bitsOf new 6 0)
      let late := bitOf new 31 && ph == .draining
      let kept := if late then setBits kept 31 31 0 else kept
      let s := if bitsOf kept 30 0 ≠ bitsOf new 30 0 ∨ late then s.setupDrop else s
      let s := s.setDir off (BitVec.ofNat 32 kept)
      if bitOf old 31 ∧ !bitOf kept 31 then s.ringDisable r false else s

/-- A write of a base register (R264). -/
def State.ringBaseWrite (s : State) (off w : Nat) : State :=
  match locate off with
  | none => s
  | some x =>
    let new := (mergePlace (· == .rwi) x (s.dir off).toNat w).1
    if (s.ring x.i).phase = .disabled then s.setDir off (BitVec.ofNat 32 new)
    else if new = (s.dir off).toNat then s
    else s.setupDrop

/-- The endpoint of a hierarchy is reset (R278): its rings are disabled, and one that drains already loses its completions too. -/
def State.ringsReset (s : State) (h : Nat) : State :=
  s.each ((s.rings.rings.map (·.1)).filter (fun r => r < 64)) (fun s r =>
    if s.ringMem r = .host h ∧ (s.ring r).phase ≠ .disabled then
      (s.setDir (offCmr r + 0x10) (BitVec.ofNat 32 (setBits (s.ringCtl r) 31 31 0))).ringDisable r true
    else s)

/-- The STATE of a ring as it reads (R279). -/
def State.ringState (s : State) (r : Nat) : Nat :=
  match (s.ring r).phase with
  | .disabled => 0
  | .running => if s.ringOn r then 1 else 4
  | .draining => 2
  | .stopped => 3

end Sys2Proof.Machine
end

