-- ==== Sys2Proof/Machine/Command.lean ====
section
/-!
DEFINITION. Commands: fetching and checking (R267 to R277, R312, R314), effect stages (R271), remote commands (R203 to R206,
R272).
-/
namespace Sys2Proof.Machine

/-! ### Fields (R267, R271) -/

/-- Word i of a descriptor. -/
def cq (q : List Quad) (i : Nat) : Quad := q.getD i 0

/-- OPCODE. -/
def cOp (q : List Quad) : Nat := qfld (cq q 0) 7 0

/-- INLINE. -/
def cInline (q : List Quad) : Bool := qfld (cq q 0) 17 17 == 1

/-- HOP_COUNT. -/
def cHop (q : List Quad) : Nat := qfld (cq q 0) 31 28

/-- TAG. -/
def cTag (q : List Quad) : Nat := qfld (cq q 0) 63 48

/-- The opcodes of R269. -/
def opKnown (op : Nat) : Bool := [0x00, 0x01, 0x10, 0x11, 0x20, 0x21, 0x22, 0x23, 0x30, 0x31, 0x40, 0x41, 0x42, 0x43].contains op

/-- Reserved fields of the header (R267), and what a local command must hold zero; a remote one names its timeout. -/
def headerOk (q : List Quad) : Bool :=
  qfld (cq q 0) 27 18 == 0 && qfld (cq q 0) 15 8 == 0 && qfld (cq q 2) 63 48 == 0 && decide (cHop q ≤ 8) &&
    (if cHop q = 0 then qfld (cq q 0) 47 32 == 0 && cq q 1 == 0 && cq q 2 == 0 else qfld (cq q 0) 47 32 != 0)

/-- The operand bits that R271 lists, by opcode: for Q3, and for Q4 to Q7. -/
def opMask (q : List Quad) : List Nat :=
  let all := 2 ^ 64 - 1
  let n := qfld (cq q 3) 12 0
  match cOp q with
  | 0x10 => if cInline q then 0x1FFF :: (List.range 4).map (fun j => if j < n then all else 0) else [0x1FFF, all, 0, 0, 0]
  | 0x11 => [0x1FFFFFFFF, all, 0xFFFF, 0, 0]
  | 0x20 => [0x17F0007FFFF, all, if cInline q then all else 0, 0, 0]
  | 0x21 => [0x27F0007FFFF, if cInline q then 0 else all, 0, 0, 0]
  | 0x22 => [0xFFF, all, 0, 0, 0]
  | 0x23 => if cInline q then [0x30FFF, all, all, all, all] else [0x30FFF, all, 0, 0, 0]
  | 0x30 => [0x7FFFF00FF013F, all, all, 0x30FFF, 0]
  | 0x31 => [0x3F, 0, 0, 0, 0]
  | 0x40 => [all, all, 0x3FFF1FFF00000003, 0, 0]
  | 0x41 => [0xF01FFFF, if cInline q then 0 else all, 0, 0, 0]
  | 0x42 => [0xFF, 0, 0, 0, 0]
  | 0x43 => [0x33F, all, all, all, all]
  | _ => [0, 0, 0, 0, 0]

/-- No bit is set outside the operands of R271. -/
def operandsOk (q : List Quad) : Bool :=
  ((opMask q).zipIdx).all (fun m => (cq q (3 + m.2)).toNat &&& (2 ^ 64 - 1 - m.1) == 0)

/-- The values R271 allows to the operands: the status of a refusal. DEDUCED (log 100): the values of a field hold for every form of
its opcode: SNAPSHOT's COUNT and ADDR for each ACT, LEDGER_READ's WORD without INLINE too, CAPTURE_CTL's ADDR at a stop. -/
def operandStatus (q : List Quad) : Option Nat :=
  let q3 := cq q 3
  let inl := cInline q
  let a := (cq q 4).toNat
  let fld := fun (b : Bool) => if b then none else some 0x21
  match cOp q with
  | 0x10 => fld (1 ≤ qfld q3 12 0 && qfld q3 12 0 ≤ (if inl then 4 else 4096) && (inl || a % 8 == 0))
  | 0x20 | 0x21 =>
    if !(1 ≤ qfld q3 38 32 && qfld q3 38 32 ≤ (if inl then 1 else 64) && (inl || a % 16 == 0)) then some 0x21
    else if 524288 < qfld q3 18 0 + qfld q3 38 32 then some 0x41 else none
  | 0x23 => fld (qfld q3 17 16 ≤ 1 && (inl || a % 64 == 0))
  | 0x30 => fld (1 ≤ qfld q3 23 16 && qfld q3 23 16 ≤ 128 && (qfld q3 8 8 == 0 || !destUnused (cq q 4) (cq q 5)))
  | 0x40 =>
    let act := qfld (cq q 5) 1 0
    let n := qfld (cq q 5) 61 48
    fld (act != 3 && 1 ≤ n && n ≤ 8192 && (if inl then act == 0 && n == 1 else a % 64 == 0))
  | 0x41 =>
    let n := qfld q3 16 8
    fld (1 ≤ n && n ≤ 256 && qfld q3 27 24 ≤ 7 && (if inl then n == 1 else a % 64 == 0))
  | 0x43 => fld (qfld q3 9 8 ≤ 1 && a % 4096 == 0)
  | _ => none

/-- How many 64-bit words of operand data a command reads from ring memory (R271). -/
def operandWords (q : List Quad) : Nat :=
  if cInline q then 0
  else match cOp q with
    | 0x10 => qfld (cq q 3) 12 0
    | 0x20 => 2 * qfld (cq q 3) 38 32
    | 0x23 => 8
    | _ => 0

/-- The forms that may be sent to, or received from, a remote device (R272): none names host memory. -/
def remoteForm (q : List Quad) : Bool :=
  match cOp q with
  | 0x00 | 0x01 | 0x11 | 0x22 | 0x30 | 0x31 | 0x42 => true
  | 0x10 | 0x20 | 0x21 | 0x23 | 0x41 => cInline q
  | 0x40 => if qfld (cq q 5) 1 0 = 0 then cInline q else true
  | _ => false

/-- What a restricted ring accepts (R277). -/
def restrictedForm (q : List Quad) : Bool :=
  cHop q == 0 && (match cOp q with | 0x00 | 0x01 | 0x41 => true | 0x40 => qfld (cq q 5) 1 0 == 0 | _ => false)

/-- The pairs of a QUIRE_STAGE: offset and value (R271). -/
def stagePairs (q data : List Quad) : List (Nat × Nat) :=
  let ws := if cInline q then (q.drop 4).take (qfld (cq q 3) 12 0) else data.take (qfld (cq q 3) 12 0)
  ws.map (fun w => (qfld w 31 0, qfld w 63 32))

/-- The index of the first pair that R274 refuses. -/
def badPair (l : List (Nat × Nat)) : Option Nat :=
  (l.zipIdx.find? (fun p => p.1.1 % 4 != 0 || !holdsRwq p.1.1)).map (·.2)

/-- The check stage (R267 to R274, R277): the status and result of a command that ends there. -/
def State.checkCmd (s : State) (grant : Option Nat) (remote : Bool) (q data : List Quad) (dataOk : Bool) : Option (Nat × Nat) :=
  let hop := if remote then 0 else cHop q
  let hdr := if remote then qfld (cq q 0) 27 18 == 0 && qfld (cq q 0) 15 8 == 0 && qfld (cq q 2) 63 48 == 0 else headerOk q
  if grant.isSome ∧ !restrictedForm q then some (0x23, 0)
  else if !hdr then some (0x21, 0)
  else if !opKnown (cOp q) then some (0x20, 0)
  else if hop ≠ 0 ∧ s.fabric.st ≠ .anchored then some (0x70, 0)
  else if !operandsOk q then some (0x21, 0)
  else match operandStatus q with
    | some st => some (st, 0)
    | none =>
      if (hop ≠ 0 ∨ remote) ∧ !remoteForm q then some (0x21, 0)
      else if hop ≠ 0 then none
      else if !dataOk ∨ data.length < operandWords q then some (0x24, 0)
      else if cOp q = 0x10 then (badPair (stagePairs q data)).map (fun j => (0x22, j))
      else none

/-! ### Taking commands (R265, R268, R275, R278) -/

/-- A ring may take a descriptor (R265, R268, R273, R278). -/
def State.mayTake (s : State) (r : Nat) : Bool :=
  let x := s.ring r
  s.coreRuns && s.glb.mode != .endpaper && x.phase == .running && x.c != x.p && s.ringOn r
    && !x.waits.any (fun w => w.opcode == 1 && !w.remote) && (decide (s.inFlight r < 64) || s.ringChecked r == 0)

/-- The words that bytes of memory spell (R8). -/
def quadsOf (d : List Byte) : List Quad := (List.range (d.length / 8)).map (fun k => BitVec.ofNat 64 (leNat ((d.drop (8 * k)).take 8)))

/-- The bytes of operand data that the check stage of a ring's command reads: none where the header or the operands fail before
(R268, R271). -/
def State.operandNeed (s : State) (r : Nat) (q : List Quad) : Nat :=
  let early := s.checkCmd (s.ringGrant r) false q [] true
  if cHop q ≠ 0 ∨ (early ≠ none ∧ early ≠ some (0x24, 0)) then 0 else 8 * operandWords q

/-- What a ring reads now: the address and length of its descriptor at C, or of the descriptor's operand data (R265, R271). -/
def State.fetchSpan (s : State) (r : Nat) (f : Fetch) : Nat × Nat :=
  match f.q with
  | none => (2 ^ 32 * (s.dir (offCmr r + 4)).toNat + s.dirF (offCmr r) 31 12 * 4096 + 64 * ((s.ring r).c % s.ringSize r), 64)
  | some q => ((cq q 4).toNat, s.operandNeed r q)

/-- A fetch has come to its end: everything has arrived, or a read failed. -/
def State.fetchReady (s : State) (r : Nat) (f : Fetch) : Bool :=
  f.failed || (f.q.isSome && decide ((s.fetchSpan r f).2 ≤ f.got.length))

/-- Bytes have come: a whole descriptor gives way to its operand data. -/
def Fetch.take (f : Fetch) (d : List Byte) : Fetch :=
  let got := f.got ++ d
  if f.q.isNone && decide (64 ≤ got.length) then { f with q := some (quadsOf (got.take 64)), got := [] } else { f with got := got }

/-- The read of a ring whose memory is in the scratchpad: inside its open region (R263, R372). -/
def State.fetchLocal (s : State) (r : Nat) (f : Fetch) : Fetch :=
  let x := s.fetchSpan r f
  if 0x20000000 ≤ x.1 ∧ x.1 + x.2 ≤ 0x20020000 then f.take ((List.range x.2).map (fun k => tget 0 s.mgmt.spad (x.1 + k)))
  else { f with failed := true }

/-- The next read of a ring whose memory is in a host (R263): within a 4-KiB page, through the guard (R306, R312), with a bookmark
charged to the port that it leaves by (R23); it waits for one. -/
def State.fetchHost (s : State) (r h : Nat) (f : Fetch) : State :=
  let x := s.fetchSpan r f
  let a := x.1 + f.got.length
  let n := min (x.2 - f.got.length) (4096 - a % 4096)
  let p := s.upPort h
  let t : Tlp := { tlp0 with op := .memRead, addr := BitVec.ofNat 64 a, len := n, reqId := s.fnRid h 1 }
  if !s.bmAvailable (some p) false then s
  else
    let g := s.mepReadOk h a n
    if !g.1 || !g.2.upAllowed h 1 t then g.2.modRing r (fun y => { y with fetch := some { f with failed := true } })
    else
      let y := g.2.devicePacket t
      let (b, s) := g.2.takeBookmark
        { bookmark0 with purpose := .fetch r, port := some p, hier := some h, tlp := t, slot := y.slot, gen := y.gen, tc := y.tc,
                         group := y.group, timer := s.timerOf .device, ports := [p], target := t.addr }
      (s.modRing r (fun z => { z with fetch := some { f with bm := some b } })).launch
        { y with bookmark := some b, hier := some h } [copyTo p t]

/-- A ring that may take a descriptor goes on fetching it (R265, R268, R278). -/
def State.fetchStep (s : State) (r : Nat) : State :=
  if !s.mayTake r then s
  else
    let f := (s.ring r).fetch.getD ⟨none, [], none, false⟩
    if f.bm.isSome || s.fetchReady r f then s
    else match s.ringMem r with
      | .host h => s.fetchHost r h f
      | .localBus =>
        let f := s.fetchLocal r f
        s.modRing r (fun y => { y with fetch := some (if s.fetchReady r f then f else s.fetchLocal r f) })
      | .nowhere => s

/-- Every ring goes on fetching. -/
def State.fetchPump (s : State) : State := s.each ((s.rings.rings.map (·.1)).filter (fun r => r < 64)) State.fetchStep

/-- Something came of a ring's read (R275). The data of a read of which a part comes while the endpoint has Bus Master Enable 0 is
discarded, and the same read is made again later (R278); after the end of R31 the ring begins again with its descriptor. -/
def State.fetchResult (s : State) (b : Nat) (y : Bookmark) (r : Nat) (x : BmResult) : State :=
  let put := fun (s : State) (g : Fetch → Option Fetch) =>
    match (s.ring r).fetch with
    | some f => if f.bm = some b then s.modRing r (fun z => { z with fetch := g f }) else s
    | none => s
  let fail := fun (f : Fetch) => some { f with bm := none, failed := true }
  match x with
  | .answer st po d _ _ =>
    if st ≠ .ok ∨ po then put (s.bmAnswered b) fail
    else
      let n := y.returned + d.length
      let off := y.discard || !s.ringOn r
      let ended := decide (y.tlp.len ≤ n)
      let s := if ended then s.bmAnswered b else s.bmSet b { y with returned := n, discard := off }
      put s (fun f =>
        let g := if !off then f.take d
          else if ended then { f with got := f.got.take (y.tlp.addr.toNat - (s.fetchSpan r f).1) } else f
        some { g with bm := if ended then none else some b })
  | .expired | .synthesised => put (s.bmQuarantine b) fail
  | .flushed _ => put (s.bmFree b) fail
  | .quiesced => put (s.bmFree b) (fun _ => none)

/-- A ring's descriptor has come to its end and may be taken (R265, R268). -/
def State.descReady (s : State) (r : Nat) : Bool := s.mayTake r && (match (s.ring r).fetch with | some f => s.fetchReady r f | none => false)

/-- The rings are served round robin, one descriptor a turn (R268): no ring whose descriptor is ready comes before this one. -/
def State.turnOf (s : State) (r : Nat) : Bool :=
  let before := fun (k : Nat) => decide ((k + 64 - s.rings.turn) % 64 < (r + 64 - s.rings.turn) % 64)
  !(s.rings.rings.any (fun x => decide (x.1 < 64) && before x.1 && s.descReady x.1))

/-- DESCRIPTOR_FETCHED (R265 to R268, R275): a descriptor that has arrived with its operand data passes through the check stage, or the
ring stops. -/
def State.descriptorFetched (s : State) (r : Nat) : State :=
  let x := s.ring r
  match x.fetch with
  | none => s
  | some f =>
    if !s.descReady r || !s.turnOf r then s
    else
      let s := s.modRings (fun y => { y with turn := (r + 1) % 64 })
      match f.q with
      | none => s.ringStop r 2 x.c
      | some q =>
        let data := quadsOf f.got
        let w : Waiting := ⟨x.c, cTag q, qfld (cq q 0) 16 16 == 1, cOp q, cHop q != 0, 0, 0, s.cclkNow⟩
        let o : Origin := .ring r x.c (cTag q)
        let s := s.modRing r (fun x => { x with c := wrapInc 16 x.c, waits := x.waits ++ [w], fetch := none })
        match s.checkCmd (s.ringGrant r) false q data (!f.failed) with
        | some (st, res) => s.push (.cmdDone o st res)
        | none => s.modRings (fun y => { y with checked := y.checked ++ [⟨o, q, data⟩] })

/-- A remote command accepted under R204 is taken, unless a remote FENCE waits (R273): it runs with the rights of an unrestricted
ring. -/
def State.takeRemote (s : State) (o : Origin) (q : List Quad) : State :=
  if (s.ring 64).waits.any (fun w => w.opcode == 1) then s.modRings (fun x => { x with remoteHeld := x.remoteHeld ++ [(o, q)] })
  else match o with
  | .remote p sq src =>
    let w : Waiting := ⟨sq, cTag q, false, cOp q, false, p, src, s.cclkNow⟩
    let s := s.modRing 64 (fun x => { x with waits := x.waits ++ [w] })
    (match s.checkCmd none true q [] true with
     | some (st, res) => s.push (.cmdDone o st res)
     | none => s.modRings (fun y => { y with checked := y.checked ++ [⟨o, q, []⟩] }))
  | _ => s

/-! ### Effect stages (R271) -/

/-- The ring of a command. -/
def Origin.ringOf : Origin → Nat
  | .ring r _ _ => r
  | _ => 64

/-- Where a command's data goes. -/
def State.cmdMem (s : State) : Origin → RingMem
  | .ring r _ _ => s.ringMem r
  | _ => .nowhere

/-- The hierarchy a command is restricted to (R277). -/
def State.cmdGrant (s : State) : Origin → Option Nat
  | .ring r _ _ => s.ringGrant r
  | _ => none

/-- Data of a command is written to its ADDR (R271, R312): the whole range is checked first for a restricted ring (R314). -/
def State.cmdWrite (s : State) (o : Origin) (a : Nat) (ws : List Quad) : State :=
  match s.cmdGrant o with
  | some h =>
    let g := s.guardRange h a (8 * ws.length)
    if g.1 then g.2.done o 0x23
    else ((g.2.memPut (.host h) a (wordBytes ws)).2).done o 0
  | none =>
    let r := s.memPut (s.cmdMem o) a (wordBytes ws)
    r.2.done o (if r.1 then 0x23 else 0)

/-- A record's scope is one that a restricted ring of hierarchy h may read (R314). -/
def State.recordGranted (s : State) (h : Nat) (x : Record) : Bool :=
  let port := fun (p : Nat) => s.hierOn p == some h && s.role p == .host || (s.portLdVdsbs p).any (fun a => a.1 == h)
  x.isOpen &&
    (match x.kind with
      | .hierarchy => x.inst == h
      | .port | .link => port x.inst
      | .device => false
      | .source =>
        (x.hier == some h && x.vdsb.isSome) || match sourceHome x.inst with
        | .hier g => g == h
        | .port p => port p
        | .stack _ => false
        | .device => x.inst == 1492 && (s.dfn x.aux).hier == some h)

/-- A counter range is granted to a hierarchy (R314). -/
def State.countersGranted (s : State) (h first n : Nat) : Bool :=
  let w := s.dir (0xD80100 + 4 * h)
  let c := fld w 29 16
  let f := fld w 12 0
  bitOf w.toNat 31 && c != 0 && decide (f + c ≤ 8192) && decide (f ≤ first ∧ first + n ≤ f + c)

/-- A failed check of a restricted ring is counted and recorded (R313, R314). DESIGN CHOICE (log 81): where no address is forbidden
(counters, records), the record names address 0 and a read. -/
def State.restrictedFault (s : State) (o : Origin) (h : Nat) : State := (s.guardFault (.restricted h) .host .read 0).done o 0x23

/-- A folio entry as it is read, CHECK included (R92, R96). -/
def State.folioRead (s : State) (i : Nat) : List Quad :=
  let e := s.folioStored i
  [BitVec.ofNat 64 (efld e 63 0), BitVec.ofNat 64 (efld e 127 64)]

/-- The entries of a FOLIO_WRITE (R271); CHECK and MIGRATING are ignored in the data (R92). -/
def folioData (q data : List Quad) : List (BitVec 128) :=
  let ws := if cInline q then (q.drop 4).take 2 else data
  (List.range (qfld (cq q 3) 38 32)).map (fun k =>
    setMigrating (BitVec.ofNat 128 ((ws.getD (2 * k) 0).toNat + 2 ^ 64 * qfld (ws.getD (2 * k + 1) 0) 55 0)) false)

/-- FOLIO_WRITE (R96, R99, R100). -/
def State.folioWrite (s : State) (o : Origin) (q data : List Quad) : State :=
  let i := qfld (cq q 3) 18 0
  let es := (folioData q data).zipIdx
  if !es.all (fun e => folioOk e.1) then s.done o 0x40
  else if es.any (fun e => s.folioHeld (i + e.2)) then s.done o 0x42
  else
    ((s.each es (fun s e => s.setFolio (i + e.2) e.1)).advanceGen).waitFence o [if qfld (cq q 3) 40 40 = 1 then .completion else .drain]

/-- FOLIO_READ (R96). -/
def State.folioReadCmd (s : State) (o : Origin) (q : List Quad) : State :=
  let i := qfld (cq q 3) 18 0
  if cInline q then s.done o 0 ((s.folioRead i).getD (qfld (cq q 3) 41 41) 0).toNat
  else s.cmdWrite o (cq q 4).toNat ((List.range (qfld (cq q 3) 38 32)).flatMap (fun k => s.folioRead (i + k)))

/-- ROUTE_WRITE (R108). -/
def State.routeWrite (s : State) (o : Origin) (q : List Quad) : State :=
  if s.routeOk (cq q 4) then ((s.setRoute (qfld (cq q 3) 11 0) (cq q 4)).advanceGen).waitFence o [.drain] else s.done o 0x40

/-- GATHER_WRITE of a whole entry (R159, R161, R162). -/
def State.gatherWrite (s : State) (o : Origin) (g : Nat) (ws : List Quad) : State :=
  let e := gEntryOf ws
  if !s.gatherOk g e then s.done o 0x40
  else if s.mig.ctxs.any (fun x => x.2.phase != .idle && x.2.resync && x.2.gather == g) then s.done o 0x43
  else
    let s := s.setGEntry g (s.gatherNew g e)
    let s := ({ s with path := { s.path with failGather := sdel s.path.failGather g } }).advanceGen
    (s.modGCounts g (fun x => { x with written := s.path.gen })).waitFence o [.drain, .gather g]

/-- The half staged for a ring (R276). -/
def State.setHalf (s : State) (r : Nat) (h : Option StagedHalf) : State := s.modRing r (fun x => { x with staged := h })

/-- GATHER_WRITE, staging a half or writing (R276). -/
def State.gatherCmd (s : State) (o : Origin) (q data : List Quad) : State :=
  let g := qfld (cq q 3) 11 0
  let r := o.ringOf
  if !cInline q then s.gatherWrite o g data
  else if qfld (cq q 3) 17 16 = 0 then (s.setHalf r (some ⟨g, (q.drop 4).take 4⟩)).done o 0
  else match (s.ring r).staged with
    | some h =>
      if h.gather = g then (s.setHalf r none).gatherWrite o g (h.words ++ (q.drop 4).take 4) else (s.setHalf r none).done o 0x21
    | none => s.done o 0x21

/-- SNAPSHOT, FREEZE, THAW (R347, R314). -/
def State.snapshotCmd (s : State) (o : Origin) (q : List Quad) : State :=
  let q5 := cq q 5
  let first := qfld q5 44 32
  let n := qfld q5 61 48
  let t := (cq q 3).toNat
  match qfld q5 1 0 with
  | 1 => s.instantRequest ⟨.freeze, t, o⟩
  | 2 => s.instantRequest ⟨.thaw, t, o⟩
  | _ =>
    let x : Instant := ⟨.snapshot first n (s.cmdMem o) (if cInline q then none else some (cq q 4).toNat), t, o⟩
    match s.cmdGrant o with
    | none => s.instantRequest x
    | some h =>
      if !s.countersGranted h first n then s.restrictedFault o h
      else if cInline q then s.instantRequest x
      else
        let g := s.guardRange h (cq q 4).toNat (64 + 8 * n)
        if g.1 then g.2.done o 0x23 else g.2.instantRequest x

/-- LEDGER_READ (R314, R325). -/
def State.ledgerReadCmd (s : State) (o : Origin) (q : List Quad) : State :=
  let first := qfld (cq q 3) 7 0
  let rs := (List.range (qfld (cq q 3) 16 8)).map (fun k => s.record ((first + k) % 256))
  let denied := match s.cmdGrant o with | some h => !rs.all (s.recordGranted h) | none => false
  match denied, s.cmdGrant o with
  | true, some h => s.restrictedFault o h
  | _, _ =>
    if cInline q then s.done o 0 ((recordWords (s.record first)).getD (qfld (cq q 3) 27 24) 0).toNat
    else s.cmdWrite o (cq q 4).toNat (rs.flatMap recordWords)

/-- LEDGER_CLEAR (R329). -/
def State.ledgerClearCmd (s : State) (o : Origin) (q : List Quad) : State :=
  let r := s.ledgerClear (qfld (cq q 3) 7 0)
  r.2.done o r.1

/-- MIGRATE_START (R165, R166). -/
def State.migStartCmd (s : State) (o : Origin) (q : List Quad) : State :=
  let q3 := cq q 3
  let c := qfld q3 5 0
  let rate := qfld q3 23 16
  if qfld q3 8 8 = 0 then s.migStartFolio o c rate (qfld q3 50 32) (cq q 4) (cq q 5)
  else s.migStartResync o c rate (qfld (cq q 6) 11 0) (qfld (cq q 6) 17 16)

/-- Send a remote command (R203, R272). -/
def State.remoteSend (s : State) (o : Origin) (q : List Quad) : State :=
  let sq := s.fabric.nextSeq
  let c : SentCmd := ⟨sq, o.ringOf, (match o with | .ring _ i _ => i | _ => 0), qfld (cq q 0) 47 32, 0⟩
  (s.modFab (fun x => { x with nextSeq := wrapInc 16 sq, sentCmds := x.sentCmds ++ [c] })).fmpForward
    { version := 1, typ := 5, hopPtr := 0, hopCount := Fin.ofNat 16 (cHop q), seq := Fin.ofNat 65536 sq,
      path := BitVec.ofNat 48 (qfld (cq q 2) 47 0), ret := 0, source := s.serial, dest := cq q 1, body := (List.range 8).map (cq q) }

/-- A command is sent to another device, and has no effect stage here (R272). -/
def Cmd.isRemote (c : Cmd) : Bool := (match c.origin with | .ring _ _ _ => true | _ => false) && cHop c.q != 0

/-- An opcode whose effect would advance the generation (R102). -/
def Cmd.advances (c : Cmd) : Bool :=
  !c.isRemote && (match cOp c.q with
    | 0x20 | 0x22 | 0x30 => true
    | 0x23 => !cInline c.q || qfld (cq c.q 3) 17 16 == 1
    | _ => false)

/-- The effect stage of a QUIRE_STAGE (R274): its pairs in list order, each as a write that arrives at the shadow quire or its queue
(R49). With the queue full, the pairs from the first that meets a closed gate stand and wait; with its
writes in the queue, the stage ends when the gates have opened, the last write then being in the shadow quire (R268, R271). -/
def State.stagePairsGo (s : State) (o : Origin) : List (Nat × Nat) → Nat → List Nat → State
  | [], kept, offs =>
    if offs.any s.offClosed then s.modRings (fun x => { x with staging := some ⟨o, [], kept, offs⟩ }) else s.done o 0 kept
  | p :: ps, kept, offs =>
    if s.offClosed p.1 ∧ 64 ≤ s.regs.gateQueue.length then
      s.modRings (fun x => { x with staging := some ⟨o, p :: ps, kept, offs⟩ })
    else (s.stage p.1 p.2).2.stagePairsGo o ps (kept + (s.stage p.1 p.2).1) (if s.offClosed p.1 then offs ++ [p.1] else offs)

/-- An effect stage that stood at a closed gate goes on. -/
def State.stageRetry (s : State) : State :=
  match s.rings.staging with
  | none => s
  | some x => (s.modRings (fun y => { y with staging := none })).stagePairsGo x.origin x.pairs x.kept x.queued

/-- The effect stage of a command (R271); a read command whose endpoint has Bus Master Enable 0 completes with MASTER_OFF
(R278). -/
def State.cmdEffect (s : State) (c : Cmd) : State :=
  let o := c.origin
  let q := c.q
  let off := match o with | .ring r _ _ => !s.ringOn r | _ => false
  if c.isRemote then (if s.fabric.st = .anchored then s.remoteSend o q else s.done o 0x70)
  else match cOp q with
  | 0x00 => s.done o 0
  | 0x01 => match s.fenceDue o.ringOf with | some _ => s.done o 0 | none => s
  | 0x10 => s.stagePairsGo o (stagePairs q c.data) 0 []
  | 0x11 =>
    if qfld (cq q 3) 32 32 = 1 then s.withdraw o (qfld (cq q 3) 31 0) (cq q 4).toNat (qfld (cq q 5) 15 0)
    else s.quireBind o (qfld (cq q 3) 31 0) (cq q 4).toNat (qfld (cq q 5) 15 0)
  | 0x20 => s.folioWrite o q c.data
  | 0x21 => if off then s.done o 0x26 else s.folioReadCmd o q
  | 0x22 => s.routeWrite o q
  | 0x23 => s.gatherCmd o q c.data
  | 0x30 => s.migStartCmd o q
  | 0x31 => s.migAbort o (qfld (cq q 3) 5 0)
  | 0x40 => if off then s.done o 0x26 else s.snapshotCmd o q
  | 0x41 => if off then s.done o 0x26 else s.ledgerReadCmd o q
  | 0x42 => s.ledgerClearCmd o q
  | _ =>
    if qfld (cq q 3) 9 8 = 1 then s.captureStart o (qfld (cq q 3) 5 0) (s.cmdMem o) (cq q 4) (cq q 5) (cq q 6) (cq q 7)
    else s.captureStop o (qfld (cq q 3) 5 0)

/-- A command may go on to its wait stage (R268, R278): its ring holds fewer than 64 commands there and completions held together. -/
def State.mayWait (s : State) (c : Cmd) : Bool :=
  c.origin.ringOf == 64 || decide (s.inFlight c.origin.ringOf + (s.ring c.origin.ringOf).held.length < 64)

/-- The command whose effect stage is next (R268): the first that has finished checking, past those of rings that hold 64 in
wait and those for other devices, which have no effect stage here (R272). -/
def State.nextCmd (s : State) : Option Cmd :=
  if s.rings.staging.isSome then none else s.rings.checked.find? (fun c => !c.isRemote && s.mayWait c)

/-- The command for another device that is sent next (R272): it waits for no effect stage of another. -/
def State.nextRemote (s : State) : Option Cmd := s.rings.checked.find? (fun c => c.isRemote && s.mayWait c)

/-- A checked command goes on: the words of the decode and ring windows are used, and it has its effect. `wait`: another one waits for a
generation slot. -/
def State.takeCmd (s : State) (c : Cmd) (wait : Bool) : State :=
  ((s.useWords [1, 0xB] none none).modRings (fun x => { x with checked := x.checked.erase c, slotWait := wait })).cmdEffect c

/-- The next command for another device is sent, or ends (R272). -/
def State.runRemote (s : State) : State := match s.nextRemote with | none => s | some c => s.takeCmd c s.rings.slotWait

/-- The effect stage of the next command, if it is one of the kind given; it may first wait for a generation slot (R102). -/
def State.runCmd (s : State) (kind : Cmd → Bool) : State :=
  match s.nextCmd with
  | none => s
  | some c =>
    if !kind c then s
    else if c.advances ∧ 14 ≤ s.liveSlots then s.modRings (fun x => { x with slotWait := true })
    else s.takeCmd c false

/-- A command of the device's own rings or received, with an opcode. -/
def opIs (op : Nat) (c : Cmd) : Bool := !c.isRemote && cOp c.q == op

/-- QUIRE_BIND without WITHDRAW (R47). -/
def isBind (c : Cmd) : Bool := opIs 0x11 c && qfld (cq c.q 3) 32 32 == 0
/-- QUIRE_BIND with WITHDRAW = 1 (R47). -/
def isWithdraw (c : Cmd) : Bool := opIs 0x11 c && qfld (cq c.q 3) 32 32 == 1
/-- An inline GATHER_WRITE with PART 0 (R276). -/
def isHalf (c : Cmd) : Bool := opIs 0x23 c && cInline c.q && qfld (cq c.q 3) 17 16 == 0
/-- A GATHER_WRITE that writes an entry (R161, R276). -/
def isGather (c : Cmd) : Bool := opIs 0x23 c && !isHalf c
/-- The SNAPSHOT command by its ACT (R348, R349). -/
def isFreeze (c : Cmd) : Bool := opIs 0x40 c && qfld (cq c.q 5) 1 0 == 1
/-- THAW (R348). -/
def isThaw (c : Cmd) : Bool := opIs 0x40 c && qfld (cq c.q 5) 1 0 == 2
/-- SNAPSHOT (R349). -/
def isSnapshot (c : Cmd) : Bool := opIs 0x40 c && !isFreeze c && !isThaw c
/-- CAPTURE_CTL that starts (R337). -/
def isCapStart (c : Cmd) : Bool := opIs 0x43 c && qfld (cq c.q 3) 9 8 == 1
/-- CAPTURE_CTL that stops (R337). -/
def isCapStop (c : Cmd) : Bool := opIs 0x43 c && !isCapStart c

/-- A generation slot was freed: the waiting command goes on (R102). -/
def State.slotFreed (s : State) : State := if s.rings.slotWait then s.runCmd Cmd.advances else s

/-! ### Answers to commands sent (R203, R205, R206, R272) -/

/-- A CMD_RSP came in. A late one is counted; one for a command still awaited is discarded by a device that is no longer anchor
(R206). -/
def State.cmdRspIn (s : State) (sq status : Nat) (cpl : List Quad) : State :=
  match s.fabric.sentCmds.find? (fun c => c.seq == sq) with
  | none => s.modRings (fun x => { x with lateRsp := wrapInc 8 x.lateRsp })
  | some c =>
    if s.fabric.st ≠ .anchored then s
    else
    let s := s.modFab (fun x => { x with sentCmds := x.sentCmds.erase c })
    let o : Origin := .ring c.ring c.idx 0
    match status with
    | 0 => s.done o (qfld (cpl.getD 1 0) 55 48) (cpl.getD 0 0).toNat
    | 1 => s.done o 0x72
    | 3 => s.done o 0x74
    | _ => s.done o 0x73

/-- No CMD_RSP came within RTO (R272). -/
def State.remoteTimeout (s : State) (sq : Nat) : State :=
  match s.fabric.sentCmds.find? (fun c => c.seq == sq && decide (c.rto ≤ c.age)) with
  | none => s
  | some c => (s.modFab (fun x => { x with sentCmds := x.sentCmds.erase c })).done (.ring c.ring c.idx 0) 0x71

/-- MTICK of the commands sent. -/
def State.sentTick (s : State) : State := s.modFab (fun x => { x with sentCmds := x.sentCmds.map (fun c => { c with age := c.age + 1 }) })

end Sys2Proof.Machine
end

