-- ==== Sys2Proof/Machine/Pattern.lean ====
section
/-!
DEFINITION. What a lane of a test-owned stack sends (R260, R261): the bits of each pattern, and the PAM4 symbols of 64 GT/s.
-/
namespace Sys2Proof.Machine

/-! ### Shift register patterns -/

/-- The exponents of a pattern's polynomial, the degree first (R261). PRESUMED (IEEE 802.3, log 103): the polynomial of PRBS13Q, which the
spec only names. -/
def prbsTaps : Nat → List Nat
  | 0 => [7, 6]
  | 1 => [9, 5]
  | 2 => [15, 14]
  | 3 => [23, 18]
  | 4 => [31, 28]
  | 5 => [13, 12, 2, 1]
  | _ => []

/-- The next bit of a shift register, whose bits stand newest first: the sum of the bits that the taps name. -/
def prbsNext (taps : List Nat) (l : List Bool) : Bool := taps.foldl (fun b k => xor b (l.getD (k - 1) false)) false

/-- n further bits, newest first. -/
def prbsRun (taps : List Nat) : Nat → List Bool → List Bool
  | 0, l => l
  | n + 1, l => let m := prbsRun taps n l; prbsNext taps m :: m

/-- The register as a generator starts: bits that the spec leaves open, not all zero. -/
def prbsSeed (lane deg : Nat) : List Bool :=
  let l := (List.range deg).map (Config.patternStart lane)
  if l.any id then l else true :: l.drop 1

/-! ### A lane's pattern -/

/-- Bit n of the pattern as it is sent (R261): square wave, user pattern or shift register, inverted where INVERT says so. -/
def LanePattern.bit (x : LanePattern) (lane n : Nat) : Bool :=
  let b := match x.sel with
    | 6 => n / (x.half + 1) % 2 == 0
    | 7 => x.user.getLsbD (n % 64)
    | k => let t := prbsTaps k; prbsNext t (prbsRun t n (prbsSeed lane (t.headD 0)))
  xor b x.invert

/-- The PAM4 level of two bits, Gray coded, the earlier one the most significant (R261). PRESUMED (PCI Express 6.x, log 103): levels 0 to 3
are 00, 01, 11 and 10. -/
def grayLevel (first second : Bool) : Nat := match first, second with | false, false => 0 | false, true => 1 | true, true => 2 | true, false => 3

/-- Symbol n at 64 GT/s: two bits of the pattern. -/
def LanePattern.symbol (x : LanePattern) (lane n : Nat) : Nat := grayLevel (x.bit lane (2 * n)) (x.bit lane (2 * n + 1))

/-- Symbol n of what a lane sends at its rate: one bit, or a PAM4 level at 64 GT/s; nothing in electrical idle. What far-end loopback sends
back is what comes in. -/
def LaneOut.sends (o : LaneOut) (lane n : Nat) (received : Nat → Nat) : Option Nat :=
  match o with
  | .port | .idle => none
  | .echo => some (received n)
  | .pattern x => some (if x.rate = 5 then x.symbol lane n else if x.bit lane n then 1 else 0)

end Sys2Proof.Machine
end

