-- ==== Sys2Proof/Machine/Lanes.lean ====
section
/-!
DEFINITION. Lanes, stacks and port link layers: reference clocks and calibration (R250, R252), the start load (R243), what a
binding does to lanes and ports (R244), training and supervision (R253 to R257), margining (R258, R259), pattern generators
and checkers (R260 to R262).
-/
namespace Sys2Proof.Machine

/-! ### Clocks, calibration, configuration -/

/-- The lane complex is on (In each mode). -/
def State.lanesOn (s : State) : Bool := s.coreRuns

/-- A stack that holds an enabled sub-port or is test-owned (R252). -/
def State.stackEnabled (s : State) (k : Nat) : Bool :=
  let w := s.act (offLncCfg k)
  bitOf w.toNat 31 || fld w 27 24 % 2 ^ 2 ^ fld w 29 28 != 0

/-- Calibration begins on the stacks that are enabled for the first time in this start (R252). -/
def State.calibrate (s : State) : State :=
  s.each (List.range 16) (fun s k =>
    if s.stackEnabled k then s.modStack k (fun x => if x.calDone then x else { x with calibrating := true }) else s)

/-- Calibration of a stack's lanes completes (R252); in ENDPAPER stack S00 alone is calibrated. -/
def State.calibrationDone (s : State) (k : Nat) : State :=
  if s.lanesOn ∧ !(s.stack k).calDone ∧ ((s.stack k).calibrating ∨ (s.glb.mode = .endpaper ∧ k = 0)) then
    (s.modStack k (fun x => { x with calDone := true, calibrating := false })).push .recheck
  else s

/-- REFCLK_Sss shows no edge for 2 µs (R250). -/
def State.refclkLost (s : State) (k : Nat) : State :=
  if s.lanesOn ∧ (s.stack k).refclkOk then
    ((s.modStack k (fun x => { x with refclkOk := false })).raiseStack k 1).push .recheck
  else s

/-- REFCLK_Sss has run for 1 ms (R250). -/
def State.refclkBack (s : State) (k : Nat) : State :=
  if s.lanesOn ∧ !(s.stack k).refclkOk then (s.modStack k (fun x => { x with refclkOk := true })).push .recheck else s

/-- A lane's transmitter runs at a rate: at a change it takes LNC_Sss_TXCTL (R244, R251). -/
def State.laneRate (s : State) (l r : Nat) : State :=
  if (s.lane l).txRate = r then s
  else s.modLane l (fun x => { x with txRate := r, edge := s.actF (offLncCfg (l / 16) + 4) 1 0 })

/-- The lanes of a port run at a rate. -/
def State.portRate (s : State) (p r : Nat) : State := s.each (s.portLanes p) (fun s l => s.laneRate l r)

/-! ### Pattern generators and checkers (R260 to R262) -/

/-- The registers of a lane. -/
def offLane (l : Nat) : Nat := 0x210000 + 0x40 * l

/-- A lane's stack is test-owned (R260), in a mode where that is possible. -/
def State.testOwned (s : State) (l : Nat) : Bool :=
  s.coreRuns && s.glb.mode != .endpaper && bitOf (s.act (offLncCfg (l / 16))).toNat 31

/-- LNC_Sss_TEST of a lane's stack. -/
def State.testWord (s : State) (l : Nat) : Word := s.act (offLncCfg (l / 16) + 8)

/-- PCHK.BAD_CFG (R261): PRBS13Q at a rate other than 64 GT/s. -/
def State.badCfg (s : State) (l : Nat) : Bool := s.dirF (offLane l) 3 0 == 5 && fld (s.testWord l) 2 0 != 5

/-- What a lane sends (R260, R261). PRBS13Q at another rate than 64 GT/s sends electrical idle, and so does a lane whose GEN_EN is 0.
DESIGN CHOICE (log 103): in far-end loopback a lane sends back what it receives whatever GEN_EN. -/
def State.laneOut (s : State) (l : Nat) : LaneOut :=
  let w := s.dir (offLane l)
  let t := s.testWord l
  if !s.testOwned l then .port
  else if fld t 5 4 = 2 then .echo
  else if !bitOf w.toNat 7 || s.badCfg l then .idle
  else .pattern ⟨fld w 3 0, fld w 14 10, bitOf w.toNat 9, s.dir (offLane l + 8) ++ s.dir (offLane l + 4), fld t 2 0, fld t 11 8⟩

/-- A lane's output is told where it is another than before. -/
def State.laneTell (s0 : State) (s : State) (l : Nat) : State :=
  if s.laneOut l = s0.laneOut l then s else s.out (.lane l (s.laneOut l))

/-- The lanes of a stack whose words changed are told so. -/
def State.stackTell (s0 : State) (s : State) (k : Nat) : State :=
  if [0, 8].all (fun i => s.act (offLncCfg k + i) == s0.act (offLncCfg k + i)) then s
  else s.each (List.range 16) (fun s i => s0.laneTell s (16 * k + i))

/-- The checker of a lane works (R262). -/
def State.checkerOn (s : State) (l : Nat) : Bool := s.testOwned l && s.dirF (offLane l) 8 8 == 1

/-- PCHK.LOCKED. -/
def State.checkerLocked (s : State) (l : Nat) : Bool := s.checkerOn l && (s.lane l).locked

/-- The checker sees 64 bits without error (R262). -/
def State.checkerLock (s : State) (l : Nat) : State :=
  if s.checkerOn l ∧ !s.badCfg l then s.modLane l (fun x => { x with locked := true }) else s

/-- Bits are compared while the checker is locked (R262). -/
def State.checkerCount (s : State) (l bits errors : Nat) : State :=
  if s.checkerLocked l then
    s.modLane l (fun x => { x with bitCnt := satBits 48 (x.bitCnt + bits), errCnt := satBits 32 (x.errCnt + min errors bits) })
  else s

/-- 32 or more of 64 bits mismatch (R262): what was compared until then is counted, and the lock is dropped. -/
def State.checkerLoss (s : State) (l bits errors : Nat) : State :=
  if s.checkerLocked l then
    (s.checkerCount l bits errors).modLane l (fun x => { x with locked := false, lockLoss := wrapInc 8 x.lockLoss })
  else s

/-- TCMD.INJECT (R262): one transmitted bit of a running generator is inverted; in near-end loopback the lane's own checker
compares it (R260). -/
def State.injectBit (s : State) (l : Nat) : State :=
  if s.testOwned l ∧ s.dirF (offLane l) 7 7 = 1 ∧ !s.badCfg l then
    let s := s.out (.inverted l)
    if fld (s.testWord l) 5 4 = 1 then s.checkerCount l 1 1 else s
  else s

/-- TCMD.CLEAR (R262). -/
def State.clearChecker (s : State) (l : Nat) : State :=
  s.modLane l (fun x => { x with errCnt := 0, bitCnt := 0, lockLoss := 0 })

/-- A read of BITCNT_LO latches bits [47:32] (R262). -/
def State.latchBits (s : State) (path : Path) (l : Nat) : State :=
  s.setLatch path { s.latch path with bitcntHi := (s.lane l).bitCnt / 2 ^ 32 }

/-- LNC_Sss_TEST acts at once on a test-owned stack (R244, R260). -/
def State.testRate (s : State) (k : Nat) : State :=
  if bitOf (s.act (offLncCfg k)).toNat 31 then
    s.each (List.range 16) (fun s i => s.laneRate (16 * k + i) (s.actF (offLncCfg k + 8) 2 0))
  else s

/-- The units of the start load (R243). -/
def startUnits : List Nat := (List.range 80).map (fun i => 107 + i)

/-- LNC_START.LOAD = 1 (R243): the shadow words of the lane and port units become active, or the write is refused. -/
def State.startLoad (s0 : State) : State :=
  let s := s0
  if s.glb.bindAccepted ∨ s.glb.firstBound ∨ s.links.loaded ∨ s.glb.mode = .endpaper then
    { s with links := { s.links with loadsRefused := wrapInc 8 s.links.loadsRefused } }
  else
    let s := s.checkShadow (fun o => !(outsideUnits startUnits [o]).contains o)
    let bad := s.regs.badShadow.filter (fun o => !(outsideUnits startUnits [o]).contains o)
    let s := { s with
      regs := { s.regs with
        active := replaceUnits startUnits s.regs.active s.regs.shadow,
        badActive := bad.foldl sadd (outsideUnits startUnits s.regs.badActive),
        latActive := outsideUnits startUnits s.regs.latActive },
      links := { s.links with loaded := true } }
    let s := (s.each bad State.raiseParity).each (List.range 16) (fun t k => s0.stackTell (t.testRate k) k)
    ((s.checkProvided true).calibrate).push .recheck

/-- The word of the previous active quire, as a binding that fires leaves it (R48 step 4). -/
def State.oldWord (s : State) (off : Nat) : Word := (tfind s.regs.old off).getD (offReset off)

/-- A state with the words of a stack's unit as they were before the binding that fires. -/
def State.beforeBound (s : State) (k : Nat) : State :=
  let put := fun (t : Tbl Word) (off : Nat) => putWord t off (s.oldWord off)
  { s with regs := { s.regs with active := put (put s.regs.active (offLncCfg k)) (offLncCfg k + 8) } }

/-- A binding of unit 107 + k changes LNC_Sss_CFG (R244): every port that the stack provided before E0 goes to OFF, and every port that
it provides after E0 starts from OFF. -/
def State.stackBound (s : State) (k : Nat) : State :=
  if s.oldWord (offLncCfg k) = s.act (offLncCfg k) then s
  else
    let before := (s.links.ports.filter (fun x => match x.2.prov with | some q => q / 4 == k | none => false)).map (·.1)
    let after := (s.providedList.1.filter (fun x => x.2 / 4 == k)).map (·.1)
    let s := s.each ((before ++ after).eraseDups) (fun s p => if (s.port p).sup = .off then s else s.portOff p)
    if bitOf (s.act (offLncCfg k)).toNat 31 then s
    else s.each (List.range 16) (fun s i => s.modLane (16 * k + i) (fun x => { x with locked := false }))

/-- A port was a usable next hop until a binding fired (R208). -/
def State.wasHop (s : State) (p : Nat) : Bool :=
  roleOf (fld (s.oldWord (offPlkCtl p)) 31 29) == .fabric && (s.bfl p).phase == .active && bitOf (s.oldWord (0xA00100 + 4 * p)).toNat 31

/-- A binding of unit 123 + p changes ROLE, or MAX_RATE (R244, R254). A fabric port that takes another role is no next hop from E0 on
(R208). -/
def State.portBound (s : State) (p : Nat) : State :=
  let old := s.oldWord (offPlkCtl p)
  let new := s.act (offPlkCtl p)
  let s := if fld old 28 26 = fld new 28 26 then s else s.modPort p (fun x => { x with cap := none })
  if fld old 31 29 = fld new 31 29 then s
  else
    let s := if s.wasHop p then s.routePortChanged p else s
    if (s.port p).sup = .off then s else s.portOff p

/-- What a binding does to lanes and ports (R242, R244, R252). -/
def State.lanesBound (s : State) (us : List Nat) : State :=
  if us.any (fun u => startUnits.contains u) then
    let ks := (List.range 16).filter (fun k => us.contains (107 + k))
    let s := (s.each ks State.stackBound).each ks (fun s k => (s.beforeBound k).stackTell (s.testRate k) k)
    let s := s.each ((List.range 64).filter (fun p => us.contains (123 + p))) State.portBound
    ((s.checkProvided true).calibrate).push .recheck
  else s

/-! ### Training and supervision (R253 to R257) -/

/-- What a port offers under its settings (R245 to R248, R256). A HOST port trains as upstream port and requests no preset. -/
def State.trainOffer (s : State) (p : Nat) : TrainOffer :=
  let x := s.port p
  let w := x.trainCtl
  let fab := s.role p == .fabric
  let cxl := (s.role p == .host || s.role p == .device) && bitOf w.toNat 24
  { maxRate := s.topRate p, flit := fab || bitOf w.toNat 25, cxlIo := cxl, cxlMem := cxl && bitOf w.toNat 23, cxlCache := false,
    flit68 := cxl && s.role p == .device && bitOf w.toNat 22, lowLat := cxl, protocol := if fab then some (0xEB37, 1) else none,
    crosslink := fab, clkMode := fld w 19 18, eqBypass := bitOf w.toNat 17,
    presets := if s.role p = .host then none else some x.trainEq.toNat, precoding := true, noEq := true, linkFeature := true }

/-- A receiver is detected (R253): DETECT goes to TRAIN, under the settings now in force (R244); training begins at 2.5 GT/s. -/
def State.receiverDetected (s : State) (p : Nat) : State :=
  if (s.port p).sup = .detect then
    let eq := if s.glb.mode = .endpaper then 0 else s.act (offPlkCtl p + 4)
    let s := (s.modPort p (fun x => { x with sup := .train, trainCtl := s.plkCtl p, trainEq := eq })).portRate p 0
    s.out (.offer p (s.trainOffer p))
  else s

/-- Training settles on a result in L0 (R245, R247, R248, R253). While the port is flushed its link is HELD (R133, R224). -/
def State.linkTrained (s : State) (p : Nat) (r : TrainResult) : State :=
  if (s.port p).sup ≠ .train then s
  else if s.acceptable p r then
    let s := s.modPort p (s.settled p r)
    let s := s.portRate p (s.port p).rate
    let s := if (s.port p).cacheOffered then s.raisePort p 2 else s
    if s.flushing p then
      let s := s.modPort p (fun x => { x with sup := .held })
      if s.role p = .fabric then s.modBfl p (fun b => { b with phase := .held }) else s
    else s.beginDll p
  else
    let s := if s.role p = .fabric ∧ !r.brodoth then s.raisePort p 3 else s
    s.trainFailed p

/-- The train timer expires, or training settles on a result that is not acceptable (R253, R254). -/
def State.trainTimeout (s : State) (p : Nat) (r : Option TrainResult) : State :=
  if (s.port p).sup ≠ .train then s
  else match r with
    | none => s.trainFailed p
    | some r => if s.acceptable p r then s else s.linkTrained p r

/-- The LTSSM of a port in TRAIN returns to Detect and finds no receiver (R253): no failed training. -/
def State.trainDetect (s : State) (p : Nat) : State :=
  if (s.port p).sup = .train then s.modPort p (fun x => { x.unlinked with sup := .detect }) else s

/-- The LTSSM leaves L0 and Recovery for Detect or Disabled (R253): a link-down event, with surprise down where the data link
layer was active, which a downstream port logs (R317, R331). -/
def State.linkLeft (s : State) (p : Nat) : State :=
  if (s.port p).sup = .up ∨ (s.port p).sup = .held then
    let s := if (s.port p).dllActive then
        let t := s.raisePort p 5 { raise0 with cause := .surpriseDown }
        if t.role p = .device then t.linkLog p .surpriseDown else t
      else s
    s.portDetect p
  else s

/-- Recovery completes in L0 while UP (R253): counted; on a port that is no fabric port the rate and width may change, never
beyond what the settings allow, nor with the 68-byte flit beyond 32 GT/s (R245, R254). -/
def State.recoveryComplete (s : State) (p rate width : Nat) : State :=
  if (s.port p).sup ≠ .up then s
  else
    let top := s.topRate p
    let s := s.modPort p (fun x => { x with recovery := wrapInc 8 x.recovery, recovering := false })
    if s.role p = .fabric then s
    else
      let top := if (s.port p).flit68 then min top 4 else top
      let full := match (s.port p).prov with | some q => s.subWidth q | none => 0
      (s.modPort p (fun x =>
        let r := min rate top
        let w := if width = 0 then x.width else min width full
        { x with rate := r, width := w, actWidth := w, belowTarget := decide (r < ctlMaxRate x.trainCtl),
                 flit := x.flit || r == 5 })).portRate p (min rate top)

/-- PLK_Pnn_CMD.RETRAIN (R254): the cap ends, and a port that is UP begins Recovery; a fabric port ignores it. -/
def State.portRetrain (s : State) (p : Nat) : State :=
  if s.role p = .fabric then s else (s.modPort p (fun x => { x with cap := none })).startRecovery p

/-- A partner's L0p request to a width (R257). -/
def State.l0pRequest (s : State) (p width : Nat) : State :=
  let x := s.port p
  if x.sup = .up ∧ x.flit ∧ bitOf x.trainCtl.toNat 21 ∧ (s.role p = .host ∨ s.role p = .device)
      ∧ (width = 1 ∨ width = 2 ∨ width = 4 ∨ width = 8 ∨ width = 16) ∧ width ≤ x.width then
    let s := s.modPort p (fun y => { y with actWidth := width })
    if width = x.actWidth then s else s.countPort p 23
  else s

/-- A partner's request to enter L1 (R257): a device port with ASPM_L1 accepts it, and leaves at once for a packet that is
queued. -/
def State.l1Entry (s : State) (p : Nat) : State :=
  if (s.port p).sup = .up ∧ s.role p = .device ∧ bitOf (s.port p).trainCtl.toNat 20 then
    s.modPort p (fun x => { x with inL1 := (s.queue p).isEmpty })
  else s

/-- A link reports a correctable error (R317, R256): a replay timer timeout or rollover replays, a rollover starts Recovery. On a fabric
port, which has no PCI Express data link layer, only receiver errors are met (R249). -/
def State.linkCorrectable (s : State) (p : Nat) (c : LinkCause) : State :=
  if ((s.port p).sup = .up ∨ (s.port p).sup = .held ∨ (s.port p).sup = .train) ∧ (s.role p ≠ .fabric ∨ c = .receiverError) then
    let s := s.modPort p (fun x =>
      { x with rxErr := if c = .receiverError then wrapInc 8 x.rxErr else x.rxErr,
               replays := if c = .replayTimeout ∨ c = .replayRollover then wrapInc 8 x.replays else x.replays })
    let s := if c = .replayRollover then s.startRecovery p else s
    (s.raisePort p 4 { raise0 with cause := c }).linkLog p c
  else s

/-- A PCI Express or CXL link reports an uncorrectable error (R317): the port's functions log it as PCI Express has it, whatever the
severity (R331), which decides what else follows. -/
def State.linkUncorrectable (s : State) (p : Nat) (c : LinkCause) : State :=
  if (s.port p).sup = .up ∧ s.role p ≠ .fabric then (s.raisePort p 6 { raise0 with cause := c }).linkLog p c else s

/-! ### Margining (R258, R259) -/

/-- The steps that a rate allows (R258). -/
def State.marginMax (s : State) (p typ : Nat) : Nat := if typ = 1 then 32 else if (s.port p).rate = 5 then 32 else 64

/-- A write of LNC_Lnnn_MARGIN_CMD: the word is written, this is what it commands (R259). -/
def State.marginCommand (s : State) (l : Nat) : State :=
  let w := s.dir (offLane l + 0x20)
  let typ := fld w 31 30
  if typ = 0 then s.modLane l (fun x => { x with margin := .idle, marginSteps := 0 })
  else if (s.lane l).capHolds then s.modLane l (fun x => { x with margin := .busy })
  else match s.lanePort l with
    | some p =>
      if (s.port p).sup = .up then
        s.modLane l (fun x => { x with margin := .running, marginErrors := 0, marginPort := some p, marginSteps := min (fld w 28 22) (s.marginMax p typ) })
      else s.modLane l (fun x => { x with margin := .aborted, marginSteps := 0 })
    | none => s.modLane l (fun x => { x with margin := .aborted, marginSteps := 0 })

/-- The errors that the sampler counted for a step margin of the capability: its status tells them, up to 63, and whether they exceed the
error count limit (R258, PCI Express). -/
def State.capErrors (s : State) (l errors : Nat) : State :=
  match (s.lane l).capAt with
  | some (h, f, i) =>
    let st := (if errors ≤ (s.lane l).capLimit then 0x80 else 0) + min 63 errors
    s.setCfgW h f (0x8E + i) (setBits (s.cfgW h f (0x8E + i)) 31 24 st)
  | none => s

/-- A measurement ends after DWELL with its errors (R259); one of the capability path tells its errors (R258). -/
def State.marginDone (s : State) (l errors : Nat) : State :=
  if (s.lane l).capHolds then s.capErrors l errors
  else if (s.lane l).margin = .running then
    let e := satBits 16 errors
    let lim := s.dirF (offLane l + 0x20) 7 0
    s.modLane l (fun x => { x with marginErrors := e, margin := if e ≤ lim then .passed else .failed })
  else s

/-- What the capability answers to a margin command of a lane (R258, PCI Express): the payload of its status. -/
def State.capPayload (s : State) (p typ payload : Nat) : Nat :=
  let pam := (s.port p).rate = 5
  match typ with
  | 1 =>
    match payload with
    | 0x88 => 0x17
    | 0x89 => if pam then 32 else 64
    | 0x8A => 32
    | 0x8B => 50
    | 0x8C => if pam then 10 else 30
    | 0x90 => (s.port p).width - 1
    | _ => 0
  | 3 | 4 => 0x80
  | 7 => 0x9C
  | _ => payload

/-- A write of a lane control word of a bridge's Lane Margining capability (R258, R259): the first claim holds the sampler
until normal settings return; while the register path holds it the command is not taken. -/
def State.capMargin (s : State) (h f i w : Nat) : State :=
  match s.marginPort h f with
  | none => s
  | some p =>
    match (s.portLanes p)[i]? with
    | none => s
    | some l =>
      let typ := bitsOf w 5 3
      let payload := bitsOf w 15 8
      if (s.port p).sup ≠ .up ∨ (s.lane l).margin = .running then s
      else
        let s := if typ = 3 ∨ typ = 4 then s.modLane l (fun x => { x with capHolds := true, marginPort := some p, capAt := some (h, f, i) })
          else if (typ = 2 ∧ payload = 0x0F) ∨ typ = 7 then s.modLane l (fun x => { x with capHolds := false, capAt := none })
          else if typ = 2 ∧ payload / 64 = 3 then s.modLane l (fun x => { x with capLimit := payload % 64 })
          else s
        let st := place (bitsOf w 2 0) 18 16 + place typ 21 19 + place (s.capPayload p typ payload) 31 24
        s.setCfgW h f (0x8E + i) (bitsOf (s.cfgW h f (0x8E + i)) 15 0 + st)

end Sys2Proof.Machine
end

