-- ==== Sys2Proof/Machine/Read.lean ====
section
/-!
DEFINITION. What the registers read (R10, R53, R54, R421): the live value of every read-only field, the mirrored values, and a
whole word as a path reads it.
-/
namespace Sys2Proof.Machine

/-! ### Codes of status fields -/

/-- PLK_Pnn_STATUS.SUP_STATE (R253). -/
def supCode : Sup → Nat
  | .off => 0
  | .detect => 1
  | .train => 2
  | .held => 3
  | .up => 4

/-- LNC_Lnnn_MARGIN_STATUS.STATE (R259). -/
def marginCode : MarginState → Nat
  | .idle => 0
  | .running => 1
  | .passed => 2
  | .failed => 3
  | .aborted => 4
  | .busy => 5

/-- SPN_STATUS.STATE (R41, R42). -/
def servoCode : ServoState → Nat
  | .free => 0
  | .acquire => 1
  | .locked => 2
  | .holdover => 3

/-- FAB_STATUS.STATE (R212). -/
def fabCode : FabState → Nat
  | .isolated => 0
  | .electing => 1
  | .joined => 2
  | .anchored => 3
  | .far => 4

/-- PWR_SLOTss_STATUS.STATE (R371). -/
def slotCode : SlotPhase → Nat
  | .off => 0
  | .empty => 1
  | .inserting => 2
  | .pending => 3
  | .precharge => 4
  | .ramp => 5
  | .on => 6
  | .faultWait => 7
  | .latched => 8
  | .contained => 9

/-- MIG_Ccc_STATUS.STATE (R185). -/
def migCode : MigPhase → Nat
  | .idle => 0
  | .copy => 1
  | .final => 2
  | .fence => 3

/-! ### Status words by block -/

/-- GLB_MODE_STATUS.DRAINED (R29): quiesced, no bookmark in use, no cell held. -/
def State.drained (s : State) : Bool :=
  s.glb.mode == .quiesced && s.path.bookmarks.isEmpty && s.path.packets.isEmpty && s.obs.sessions.all (fun x => x.2.queue.isEmpty)

/-- GLB_MODE_STATUS (R29). -/
def State.modeStatus (s : State) : Nat :=
  place s.glb.refused 31 24 + place s.glb.transitions 23 16 + place s.glb.quiesceCause 11 9 + place (b2n s.drained) 8 8
    + place (modeCode s.glb.prevMode) 5 3 + modeCode s.glb.mode

/-- SPN_STATUS (R42). -/
def State.spnStatus (s : State) : Nat :=
  place s.hops 19 16 + place (match s.spine.ref with | .none => 0 | .external => 1 | .fabric _ => 2) 11 10
    + place (b2n s.holdoverOver) 9 9 + place (b2n s.spine.ppsSeen) 8 8 + servoCode s.spine.servo

/-- PLK_Pnn_STATUS (R262). -/
def State.plkStatus (s : State) (p : Nat) : Nat :=
  let x := s.port p
  place (supCode x.sup) 27 25 + place x.rate 24 22 + place x.width 21 17 + place x.actWidth 16 12 + place (b2n x.flit) 11 11
    + place (b2n x.cxlIo) 10 10 + place (b2n x.cxlMem) 9 9 + place (b2n x.flit68) 8 8 + place (b2n x.brodoth) 7 7
    + place (b2n x.dllActive) 6 6 + place (b2n x.belowTarget) 5 5 + place (b2n x.cap.isSome) 4 4
    + place (b2n x.cacheOffered) 3 3 + place (b2n x.prov.isSome) 2 2

/-- PLK_Pnn_ERRCNT. -/
def State.plkErrcnt (s : State) (p : Nat) : Nat :=
  let x := s.port p
  place x.rxErr 31 24 + place x.replays 23 16 + place x.trainFail 15 8 + place x.recovery 7 0

/-- STATE of BFL_Pnn_STATUS (R224, R240). -/
def BflPhase.stateCode : BflPhase → Nat
  | .down => 0
  | .held => 1
  | .id => 2
  | .credit => 3
  | .done => 4
  | .active => 5

/-- BFL_Pnn_STATUS (R240). -/
def State.bflStatus (s : State) (p : Nat) : Nat :=
  let b := s.bfl p
  place (min b.rtt 0xFFF) 31 20 + place (b2n b.fbRx) 19 19 + place (b2n b.fbTx) 18 18 + place (b2n (decide (2047 ≤ b.replay.length))) 17 17
    + place b.replay.length 16 6 + place b.phase.stateCode 2 0

/-- BFL_Pnn_CRVAL (R240). -/
def State.bflCrval (s : State) (p : Nat) : Nat :=
  let w := s.dir (0x400014 + 0x100 * p)
  let c := fld w 5 0
  let b := s.bfl p
  if bitOf w.toNat 6 then
    if b.phase ≠ .active then 0 else place (modSub 65536 (s.alloc p c).1 (tget 0 b.rcvH c)) 31 16 + modSub 65536 (s.alloc p c).2 (tget 0 b.rcvD c)
  else place (modSub 65536 (tget 0 b.limH c) (tget 0 b.usedH c)) 31 16 + modSub 65536 (tget 0 b.limD c) (tget 0 b.usedD c)

/-- HVH_Hhh_STATUS (R61). -/
def State.hvhStatus (s : State) (h : Nat) : Nat :=
  let x := s.hier h
  place (b2n x.conflict) 4 4 + place (b2n (!(s.locksOf h).isEmpty)) 3 3 + place (b2n (s.rrs h)) 2 2 + place (b2n x.inReset) 1 1
    + b2n x.active

/-- The oldest live slot (R97): the one with the lowest generation number. -/
def State.oldestSlot (s : State) : Nat :=
  let live := (List.range 16).filter s.slotLive
  let g := fun (k : Nat) => (s.path.slots[k]?.map GenSlot.gen).getD 0
  live.foldl (fun best k => if g k < g best then k else best) s.path.slotAt

/-- DEC_FENCE_STATUS (R108). -/
def State.fenceStatus (s : State) : Nat :=
  let k := s.oldestSlot
  place (s.liveSlots - 1) 27 24 + place (min 15 (s.path.fences.length + b2n s.rings.slotWait)) 23 20
    + min 0xFFFFF (s.path.packets.filter (fun x => x.2.slot == k)).length

/-- GTH_Gnnnn_STATUS (R163). -/
def State.gthStatus (s : State) (g : Nat) : Nat :=
  let e := s.gEntry g
  let c := s.gCounts g
  place c.loss 31 24 + place c.failover 23 16 + place (if e.typ = 1 then e.acting.getD 3 else 3) 9 8 + place e.typ 7 6 + place (e.mState 2) 5 4
    + place (e.mState 1) 3 2 + e.mState 0 % 4

/-- AGE and SEQ of a mirror (R54). -/
def State.mirrorAge (s : State) (m : Mirror) : Nat :=
  place m.seq 31 24 + (if m.fresh ∧ s.coreRuns then min s.spine.cclk 999999 else 0xFFFFF)

/-- FAB_STATUS (R212). -/
def State.fabStatus (s : State) : Nat :=
  let n := match s.fabric.best with | some c => if c.anchored then c.nonce else 0 | none => 0
  place n 31 16 + place (s.fabric.upstream.getD 0) 13 8 + place (b2n s.fabric.upstream.isSome) 7 7
    + place (b2n s.fabricLive) 3 3 + fabCode s.fabric.st

/-- The best candidate's serial (R212). -/
def State.anchorSerial (s : State) : Nat := match s.fabric.best with | some c => c.serial.toNat | none => 0

/-- PWR_SLOTss_STATUS (R371). -/
def State.slotStatus (s : State) (k : Nat) : Nat :=
  let c := s.slotCh k
  place (slotCode c.phase) 31 28 + place c.cause 27 24 + place c.retries 23 20 + place (b2n c.present) 19 19
    + place (b2n c.pwrgd) 18 18 + place (b2n c.perst) 17 17 + place (b2n c.fault.isSome) 16 16 + place c.trips 15 8
    + place c.pgRaces 7 0

/-- PWR_SLOTss_MEAS (R371). -/
def State.slotMeasWord (s : State) (k : Nat) : Nat :=
  let c := s.slotCh k
  let tj := s.slotTj c / 2 ^ 32 + 64
  place c.current 31 16 + place (min 0xFF (c.vds / 50)) 15 8 + min 0xFF tj.toNat

/-- PWR_FEED_STATUS (R371). -/
def State.feedStatus (s : State) : Nat :=
  let w := s.power
  place w.switches 31 24 + place w.warns 23 16 + place w.stage 7 6 + place (b2n w.warn) 5 5 + place (b2n w.mainGood) 4 4
    + place (b2n w.feedB.good) 3 3 + place (b2n w.feedA.good) 2 2
    + (match s.activeFeed with | none => 0 | some false => 1 | some true => 2)

/-- MGT_LC_STATUS (R399). -/
def State.lcStatus (s : State) : Nat :=
  let o := s.mgmt.otp
  let bits := fun (f : KeySlot → Bool) => bitSet ((List.range 4).filter (fun k => f (tget keySlot0 o.slots k)))
  place o.floor 31 24 + place (bits KeySlot.revoked) 15 12 + place (bits (fun x => x.digest.isSome)) 11 8
    + place (b2n s.mgmt.debugEnabled) 4 4 + lcCode o.lc

/-- MGT_BOOT_STATUS (R399). -/
def State.bootStatus (s : State) : Nat :=
  let m := s.mgmt
  place m.fails 15 13 + place (b2n m.verifying.isSome) 12 12 + place (b2n m.trial) 11 11 + place (b2n m.pref) 10 10
    + place m.boot.running 9 8 + m.startRefused % 256

/-- The live value of a register's read-only fields, and of the values that mirrors copy. -/
def State.liveWord (s : State) (path : Path) (x : Place) : Nat :=
  let i := x.i
  match x.row.name with
  | .glbModeStatus => s.modeStatus
  | .glbThermStatus => place s.power.temp 31 24 + place s.power.tripCount 23 16 + b2n s.power.tripped
  | .spnTimeLo => s.ns % 2 ^ 32
  | .spnTimeHi => (s.latch path).nsHi
  | .spnTimeFrac => (s.latch path).frac
  | .spnStatus => s.spnStatus
  | .spnOffset => thetaReg s.spine.theta
  | .spnBindPending => s.pendingGroups
  | .spnCounts =>
    place s.spine.late 31 24 + place s.spine.unqual 23 16 + place s.spine.parityHold 15 8 + place s.spine.refusedCount 7 0
  | .lncStatus =>
    place (b2n (s.stack i).calDone) 2 2 + place (b2n (s.stack i).refclkOk) 1 1 + b2n (bitOf (s.act (offLncCfg i)).toNat 31)
  | .lncStart => place s.links.loadsRefused 31 24 + place (b2n s.links.loaded) 1 1
  | .lncPchk => place (s.lane i).lockLoss 31 24 + place (b2n (s.badCfg i)) 1 1 + b2n (s.checkerLocked i)
  | .lncErrcnt => (s.lane i).errCnt
  | .lncBitcntLo => (s.lane i).bitCnt % 2 ^ 32
  | .lncBitcntHi => (s.latch path).bitcntHi
  | .lncMarginStatus => place (s.lane i).marginErrors 31 16 + marginCode (s.lane i).margin
  | .plkStatus => s.plkStatus i
  | .plkErrcnt => s.plkErrcnt i
  | .bflStatus => s.bflStatus i
  | .bflErrcnt =>
    place (s.bfl i).crcErr 31 24 + place (s.bfl i).nakSent 23 16 + place (s.bfl i).replays 15 8 + place (s.bfl i).resets 7 0
  | .bflDropcnt =>
    place (s.bfl i).duplicates 31 24 + place (s.bfl i).tailBad 23 16 + place (s.bfl i).overflow 15 8 + place (s.bfl i).discarded 7 0
  | .bflCrval => s.bflCrval i
  | .hvhStatus => s.hvhStatus i
  | .hvhPresentLo => bitSet ((s.hier i).present.filter (fun v => v < 32))
  | .hvhPresentHi => bitSet (((s.hier i).present.filter (fun v => 32 ≤ v)).map (fun v => v - 32))
  | .decGen => s.path.gen
  | .decFenceStatus => s.fenceStatus
  | .decMirrorAge => s.mirrorAge s.regs.mirDec
  | .swcOcc => s.egrCells i
  | .swcShocc => s.sharedHeld (.port i)
  | .swcStatus => place (b2n ((s.port i).sup == .held || (s.bfl i).phase == .held)) 1 1 + b2n (s.flushing i)
  | .swcPool => s.poolSize - s.poolUsed
  | .swcRsvStatus => b2n s.path.overcommit
  | .swcMirrorAge => s.mirrorAge s.regs.mirSwc
  | .gthStatus => s.gthStatus i
  | .gthMark => (s.gEntry i).mark
  | .gthOcc => s.replCells
  | .gthMirrorAge => s.mirrorAge s.regs.mirGth
  | .migCStatus => place (migCode (s.ctx i).phase) 26 24 + place (b2n (s.ctx i).resync) 23 23 + place (s.ctx i).folio 18 0
  | .migCProgress => place (min 255 (s.ctx i).pass) 31 24 + place (s.ctx i).dirtyCount 16 0
  | .migCResult =>
    place (s.ctx i).abandons 31 24 + place (min 255 (s.ctx i).poisons) 23 16 + place (migEndCode (s.ctx i).last).2 3 0
  | .migCCopied => (s.ctx i).granules
  | .migHeatStatus =>
    let h := s.mig.heat
    place h.missed 31 24 + place h.fault 23 16 + place (b2n h.isOpen) 1 1 + b2n h.writing
  | .migHeatEpoch => s.mig.heat.seq
  | .fabStatus => s.fabStatus
  | .fabAnchorLo => s.anchorSerial % 2 ^ 32
  | .fabAnchorHi => s.anchorSerial / 2 ^ 32
  | .fabCounts =>
    place s.fabric.elections 31 24 + place s.fabric.refused 23 16 + place s.fabric.dropped 15 8 + place s.fabric.busy 7 0
  | .fabDiscIdx => s.fabric.prod % 65536
  | .cmrStatus => place (s.ringState i) 27 24 + place (s.inFlight i) 22 16 + (s.ring i).c % 65536
  | .cmrErr => place (s.ring i).errCause 23 16 + (s.ring i).errIdx % 65536
  | .cmrIdx => place (s.ring i).w 31 16 + (s.ring i).p % 65536
  | .cmrCounts => place s.rings.setupDrops 31 24 + place s.rings.lateRsp 23 16 + place s.rings.resetDrops 15 8
  | .dmvPool => s.dmvPool
  | .dmvCounts => s.dmvCounts
  | .dmvFStatus => s.dmvStatus i
  | .agdPCounts => place (tget 0 s.agd.splits i) 31 16 + tget 0 s.agd.faults i % 65536
  | .agdFCounts => place (tget 0 s.agd.splits (64 + i)) 31 16 + tget 0 s.agd.faults (64 + i) % 65536
  | .agdLastLo => s.agd.lastAddr % 2 ^ 32
  | .agdLastHi => s.agd.lastAddr / 2 ^ 32
  | .agdLastInfo =>
    place s.agd.seq 31 24 + place s.agd.space 23 22 + place (b2n s.agd.wr) 21 21 + place s.agd.src 20 19 + place s.agd.inst 11 0
  | .elgSStatus => place (tget 0 s.ledger.counts i) 31 16 + b2n (s.levelActive i)
  | .elgStatus => place s.ledger.opened 31 16 + s.openNow
  | .elgCounts =>
    place s.ledger.overflow 31 24 + place s.ledger.refused 23 16 + place s.ledger.unscoped 15 8 + place s.ledger.escalated 7 0
  | .elgOpenMap => s.openMap i
  | .obsCapStat => place (b2n (s.cap i).running) 31 31 + (s.cap i).w % 65536
  | .obsStat => (s.session i).sent
  | .obsDrops => (s.session i).drops
  | .pmcCntLo | .pmcThrValLo | .pmcHistBinLo => s.pmcAt x.off % 2 ^ 32
  | .pmcCntHi | .pmcThrValHi | .pmcHistBinHi => (s.latch path).pmcHi
  | .pmcStatus => place (b2n s.obs.frozen.isSome) 31 31 + s.obs.instants.length
  | .pmcFreezeNsLo => s.obs.freezeNs % 2 ^ 32
  | .pmcFreezeNsHi => s.obs.freezeNs / 2 ^ 32
  | .pwrSlotStatus => s.slotStatus i
  | .pwrSlotMeas => s.slotMeasWord i
  | .pwrFeedStatus => s.feedStatus
  | .pwrMirrorAge => s.mirrorAge s.regs.mirPwr
  | .mgtLcStatus => s.lcStatus
  | .mgtBootStatus => s.bootStatus
  | .mgtFlashStatus => place s.mgmt.flashRefused 31 24 + place (b2n s.mgmt.flashError) 1 1 + b2n s.mgmt.flashOp.isSome
  | .mgtColoIdx => place (b2n s.mgmt.coloReady) 31 31
  | .mgtCsetStatus => place s.mgmt.csetApplied 31 24 + place s.mgmt.csetResult 7 4 + b2n s.mgmt.csetBusy
  | .mgtCsetNonceLo => s.mgmt.nonce % 2 ^ 32
  | .mgtCsetNonceHi => s.mgmt.nonce / 2 ^ 32
  | .mgtTamperStatus => place s.mgmt.glitches 31 24 + place s.mgmt.tampers 23 16 + bitSet s.mgmt.latches
  | .mgtDbgStatus => place s.mgmt.denied 31 16 + place (b2n s.mgmt.debugEnabled) 1 1 + b2n (s.mgmt.tap == .dbgSelect)
  | .mgtBrgStatus => place s.mgmt.retries 31 16 + place s.mgmt.lockLimits 15 8 + min 32 s.bridgeReads
  | .mgtColoD => match s.mgmt.coloData with | some r => leNat (((coloBytes r).drop (4 * i)).take 4) | none => 0
  | _ => 0

/-- The word that the RWI and RWL fields of a register show: LOCK fields show the lock (R10). -/
def State.directWord (s : State) (x : Place) : Nat :=
  match x.row.name with
  | .hvhLock => b2n s.regs.lockHvh
  | .pwrLock => b2n s.regs.lockPwr
  | .mgtLock => b2n s.regs.lockMgt
  | _ => (s.dir x.off).toNat

/-- Reads of RWQ fields through a path return the active value (R53). -/
def State.viewActive (s : State) : Path → Bool
  | .mf => s.dirF 0x100048 0 0 == 1
  | .fw _ => s.dirF 0x100048 1 1 == 1

/-- The word that a field's access code takes its value from (R10): a mirrored one from the mirror, but for the PWR block by firmware
(R371). -/
def State.codeWord (s : State) (path : Path) (x : Place) : Access → Nat
  | .rwq => (if s.viewActive path then s.act x.off else s.shad x.off).toNat
  | .rwi | .rwl => s.directWord x
  | .ro => s.liveWord path x
  | .rom =>
    if path != .mf && x.off / 0x100000 == 0x11 then s.liveWord path x else ((tfind s.regs.mirror x.off).getD (offReset x.off)).toNat
  | .wos => 0

/-- A register as a path reads it, field by field; reserved fields read zero (R13). -/
def State.readPlace (s : State) (path : Path) (x : Place) : Nat :=
  x.row.fields.foldl (fun n f => if f.held then n + place (bitsOf (s.codeWord path x f.acc) f.hi f.lo) f.hi f.lo else n) 0

/-- What a read changes: the latch sets (R36, R262, R346). -/
def State.readLatch (s : State) (path : Path) (x : Place) : State :=
  match x.row.name with
  | .spnTimeLo => s.latchTime path
  | .lncBitcntLo => s.latchBits path x.i
  | .pmcCntLo | .pmcThrValLo | .pmcHistBinLo => s.pmcLatch path x.off
  | _ => s

/-- The windows of the always-on domain (R26): GLB, PWR, MGT. -/
def alwaysOn (off : Nat) : Bool := off / 0x100000 == 0 || off / 0x100000 == 0x11 || off / 0x100000 == 0x12

/-- A BAR0 offset is reached (R28, R420): in ENDPAPER the GLB and MGT windows, for the boot ROM also the ledger and the counters
(R385); else every window while the core runs, and those of the always-on domain at any time. -/
def State.reaches (s : State) (path : Path) (off : Nat) : Bool :=
  decide (off < 0x1300000) &&
    (if s.glb.mode = .endpaper then
      off / 0x100000 == 0 || off / 0x100000 == 0x12 || (path != .mf && (off / 0x100000 == 0xE || off / 0x100000 == 0x10))
    else alwaysOn off || s.coreRuns)

/-- A BAR0 read through a path (R12, R420): nothing where it completes with Unsupported Request or an error response. -/
def State.regRead (s : State) (path : Path) (off : Nat) : Option Nat × State :=
  if off % 4 ≠ 0 then (none, s.countDev 0)
  else if !s.reaches path off then (none, s)
  else match locate off with
    | none => (some 0, s)
    | some x => (some (s.readPlace path x), s.readLatch path x)

/-! ### Mirrors (R54) -/

/-- The mirrored registers of a block: rows with ROM fields, in a window. -/
def romPlaces (window : Nat) : List Place :=
  ((windowRows window).filter (fun r => r.fields.any (fun f => f.acc == .rom))).flatMap (fun r =>
    (List.range r.n1).map (fun i => ⟨r, i, 0, r.base + r.s1 * i⟩))

/-- All mirrored values are copied in one CCLK, at an MTICK edge. -/
def State.mirrorAll (s : State) : State :=
  let vals := ([6, 7, 8, 17].flatMap romPlaces).map (fun x => (x.off, (BitVec.ofNat 32 (s.liveWord (.fw 0) x) : Word)))
  let up := fun (m : Mirror) => ({ seq := wrapInc 8 m.seq, fresh := true } : Mirror)
  { s with regs := { s.regs with
      mirror := vals.foldl (fun t x => putWord t x.1 x.2) s.regs.mirror, mirDec := up s.regs.mirDec, mirSwc := up s.regs.mirSwc, mirGth := up s.regs.mirGth,
      mirPwr := up s.regs.mirPwr } }

end Sys2Proof.Machine
end

