-- ==== Sys2Proof/Machine/Bar0.lean ====
section
/-!
DEFINITION. Register writes (R10 to R14, R420), the BARs of the functions a host sees (R67, R70, R71, R423), and accesses that
wait for a write gate or the bridge lock (R49, R376).
-/
namespace Sys2Proof.Machine

/-! ### Writes -/

/-- The lock bit of the RWL fields of a window (R10). -/
def State.windowLocked (s : State) (off : Nat) : Bool :=
  match off / 0x100000 with
  | 5 => s.regs.lockHvh
  | 0x11 => s.regs.lockPwr
  | 0x12 => s.regs.lockMgt
  | _ => false

/-- The access codes that a write changes at once (R10). -/
def State.writesNow (s : State) (off : Nat) (a : Access) : Bool := a == .rwi || (a == .rwl && !s.windowLocked off)

/-- The RWI and RWL fields take a write, and its parity is generated (R10, R55). -/
def State.writeDirect (s : State) (x : Place) (w : Nat) : State :=
  let r := mergePlace (s.writesNow x.off) x (s.dir x.off).toNat w
  let s := s.keptRaise x.off r.2
  if x.row.fields.any (fun f => s.writesNow x.off f.acc) then s.setDir x.off (BitVec.ofNat 32 r.1) else s

/-- How many strobe fields a write gives a reserved encoding (R14). -/
def badStrobes (x : Place) (w : Nat) : Nat :=
  (x.row.fields.filter (fun f => f.acc == .wos && f.isBad (bitsOf w f.hi f.lo))).length

/-- PWR_SLOTss_CTL (R358): EN, then REARM. -/
def State.slotCtlWrite (s : State) (k w : Nat) : State :=
  let s := if bitOf w 31 then s.slotEnable k else if s.slotEn k then s.slotDisable k else s.setDir (offSlot k) 0
  if bitOf w 30 then s.slotRearm k else s

/-- A write to a register (R10), with what it commands. -/
def State.writePlace (s : State) (path : Path) (x : Place) (w : Nat) : State :=
  let bad := badStrobes x w
  if bad ≠ 0 then s.keptRaise x.off bad
  else match x.row.name with
    | .glbModeCtl => s.modeRequest (bitsOf w 3 0)
    | .spnTimeSetCtl => match bitsOf w 1 0 with | 1 => s.loadPps | 2 => s.loadNow | _ => s
    | .spnUnitGroup => s.writeGroups x.i (BitVec.ofNat 32 w)
    | .spnSrcCtl => (s.writeDirect x w).push .reselect
    | .lncStart => if bitOf w 0 then s.startLoad else s
    | .lncPgen =>
      let t := s.laneTell (s.writeDirect x w) x.i
      if t.dirF x.off 8 8 = 0 then t.modLane x.i (fun y => { y with locked := false }) else t
    | .lncUserLo | .lncUserHi => s.laneTell (s.writeDirect x w) x.i
    | .lncTcmd =>
      let s := if bitOf w 1 then s.clearChecker x.i else s
      if bitOf w 0 then s.injectBit x.i else s
    | .lncMarginCmd => (s.writeDirect x w).marginCommand x.i
    | .plkCmd => if bitOf w 0 then s.portRetrain x.i else s
    | .bflCmd => if bitOf w 0 ∧ s.role x.i = .fabric then s.push (.bflReset x.i) else s
    | .hvhGlbCtl => (s.writeDirect x w).push .recheck
    | .hvhLock => if bitOf w 0 then { s with regs := { s.regs with lockHvh := true } } else s
    | .pwrLock => if bitOf w 0 then { s with regs := { s.regs with lockPwr := true } } else s
    | .mgtLock => if bitOf w 0 then { s with regs := { s.regs with lockMgt := true } } else s
    | .fabCtl => (s.writeDirect x w).push .elect
    | .cmrSqDb => s.sqDoorbell x.i (bitsOf w 15 0)
    | .cmrCqDb => s.cqDoorbell x.i (bitsOf w 15 0)
    | .cmrCtl => s.ringCtlWrite x.i w
    | .cmrSqBaseLo | .cmrSqBaseHi | .cmrCqBaseLo | .cmrCqBaseHi => s.ringBaseWrite x.off w
    | .pwrSlotCtl => s.slotCtlWrite x.i w
    | .pwrFeedCtl => s.feedCtlWritten (s.writeDirect x w)
    | .pwrMainCtl => s.mainEnableWritten (bitOf w 0)
    | .mgtStartCtl => s.startCtl (bitsOf w 3 0)
    | .mgtFlashCmd => s.flashCmd (bitsOf w 31 28) (bitsOf w 23 0)
    | .mgtColoIdx => s.coloSelect (bitsOf w 9 0)
    | .mgtCsetCtl => if bitOf w 31 then s.csetGo path (bitsOf w 12 0) else s
    | _ => if x.row.fields.any (fun f => isRwq f.acc) then (s.stage x.off w).2 else s.writeDirect x w

/-- A BAR0 write through a path that is not held up (R12, R420): dropped where it does not reach a register. -/
def State.regWrite (s : State) (path : Path) (off w : Nat) : State :=
  if off % 4 ≠ 0 then s.countDev 0
  else if !s.reaches path off then s
  else match locate off with
    | none => s
    | some x => s.writePlace path x w

/-! ### Waiting (R49, R376) -/

/-- A number for a path. -/
def pathKey : Path → Nat
  | .mf => 0
  | .fw p => 1 + 2 * p.val

/-- Who a waiting access belongs to: the management function, a processor, or the debug master. -/
def WaitAcc.who : WaitAcc → Nat
  | .host _ _ _ _ => pathKey .mf
  | .dmv _ _ _ _ _ _ => pathKey .mf
  | .write p _ _ => pathKey p
  | .read p _ => pathKey p
  | .debug _ _ => 2

/-- While a locked sequence is open, the register path is the locking processor's alone (R376). -/
def State.bridgeHeld (s : State) (path : Path) : Bool := match s.mgmt.brgLock with | some p => path != .fw p | none => false

/-- An access to a BAR0 offset is held up: by the bridge lock (R376), a write of RWQ fields at a closed gate with 64 writes
queued, a read of them at a closed gate (R49), a read from the management side with all 32 tags in use (R374). -/
def State.heldUp (s : State) (path : Path) (off : Nat) (write : Bool) : Bool :=
  s.bridgeHeld path || (holdsRwq off && s.offClosed off && (!write || decide (64 ≤ s.regs.gateQueue.length)))
    || (path != .mf && !write && decide (32 ≤ s.bridgeReads))

/-- An access behind an earlier waiting one of its path waits too (R49: the path stalls). -/
def State.mustWait (s : State) (path : Path) (off : Nat) (write : Bool) : Bool :=
  s.mgmt.waiting.any (fun a => a.who == pathKey path) || s.heldUp path off write

/-- Let an access wait. -/
def State.waitFor (s : State) (a : WaitAcc) : State := s.modMgt (fun m => { m with waiting := m.waiting ++ [a] })

/-- A BAR0 write through a path. -/
def State.writeVia (s : State) (path : Path) (off w : Nat) : State :=
  if s.mustWait path off true then s.waitFor (.write path off w) else s.regWrite path off w

/-- A BAR0 read of the management side, or by a row that names its path: the value goes out. -/
def State.readVia (s : State) (path : Path) (off : Nat) : State :=
  if s.mustWait path off false then s.waitFor (.read path off)
  else (s.regRead path off).2.out (.value (s.regRead path off).1)

/-! ### The management endpoint's BAR0 (R12, R71) -/

/-- An offset in the doorbell page of a ring granted to a hierarchy (R71, R263). -/
def State.grantedPage (s : State) (h off : Nat) : Bool :=
  0xB00000 ≤ off && off < 0xB40000 && s.ringGrant ((off - 0xB00000) / 0x1000) == some h

/-- The endpoint of a hierarchy reaches an offset (R71). -/
def State.mepReaches (s : State) (h off : Nat) : Bool := s.privHier == some h || s.grantedPage h off

/-- R71: an access that the endpoint's BAR0 does not reach is counted for the hierarchy. -/
def State.mepMiss (s : State) (h : Nat) : State := s.countHier h 1

/-- A read of the endpoint's BAR0: the bytes, or nothing for Unsupported Request. -/
def State.mepRead (s : State) (h off len : Nat) : Option (List Byte) × State :=
  if len ≠ 4 ∨ off % 4 ≠ 0 then (none, s.countDev 0)
  else if !s.mepReaches h off then (none, s.mepMiss h)
  else
    let r := s.regRead .mf off
    (r.1.map (leBytes 4), r.2)

/-- A write of the endpoint's BAR0. -/
def State.mepStore (s : State) (h off : Nat) (data : List Byte) : State :=
  if data.length ≠ 4 ∨ off % 4 ≠ 0 then s.countDev 0
  else if !s.mepReaches h off then s.mepMiss h
  else s.regWrite .mf off (leNat data)

/-! ### The other BARs -/

/-- Word `o` of a 64-KiB BAR's MSI-X table and PBA (R423). -/
def State.msixWord (s : State) (h o : Nat) : Nat :=
  if o < 0x800 then ((tfind (s.hier h).msix (o / 4)).getD (msixReset (o / 4))).toNat
  else if 0x8000 ≤ o ∧ o < 0x8010 then
    bitSet (((s.hier h).pba.filter (fun k => k / 32 == (o - 0x8000) / 4)).map (fun k => k % 32))
  else 0

/-- A write of a word of the MSI-X table (R423, PCI Express): an interrupt that waited for its mask may go. -/
def State.msixStore (s : State) (h o v : Nat) : State :=
  if o < 0x800 then
    let k := o / 4
    let w : Word := BitVec.ofNat 32 (match k % 4 with | 0 => v / 4 * 4 | 3 => v % 2 | _ => v)
    (s.modHier h (fun x => { x with msix := tput (msixReset k) x.msix k w })).msixRelease h
  else s

/-- The contiguous runs, in ascending host address, of the folios that a hierarchy's windows map (R70, R89). -/
def State.folioRuns (s : State) (h : Nat) : List (Nat × Nat) :=
  let ws := ((List.range 16).filterMap (fun w => s.folioWindow h w)).map (fun x => (x.1, x.1 + x.2.2 * 2 ^ 28))
  let sorted := ws.foldl (fun l x => (l.filter (fun y => decide (y.1 ≤ x.1))) ++ [x] ++ l.filter (fun y => decide (x.1 < y.1))) []
  sorted.foldl (fun l x =>
    match l.reverse with
    | y :: t => if x.1 ≤ y.2 then (t.reverse) ++ [(y.1, max y.2 x.2)] else l ++ [x]
    | [] => [x]) []

/-- Word `o` of the CXL component registers (R70, R423): in the vUSB a capability header, the HDM decoder capability and its 32
decoders, one for each run. Their places are those of CXL 3.x (PRESUMED). -/
def State.componentWord (s : State) (h f o : Nat) : Nat :=
  if f ≠ 0 then (if o = 0x1000 then 0x00110001 else 0)
  else if o = 0x1000 then 0x01110001
  else if o = 0x1004 then 0x20030005
  else if o = 0x1200 then 0x0000000C
  else if o = 0x1204 then 2
  else if 0x1210 ≤ o ∧ o < 0x1210 + 32 * 0x20 then
    match (s.folioRuns h)[(o - 0x1210) / 0x20]? with
    | none => 0
    | some r =>
      match (o - 0x1210) % 0x20 with
      | 0x00 => r.1 % 2 ^ 32
      | 0x04 => r.1 / 2 ^ 32
      | 0x08 => (r.2 - r.1) % 2 ^ 32
      | 0x0C => (r.2 - r.1) / 2 ^ 32
      | 0x10 => 0x700
      | _ => 0
  else 0

/-- The words that an access of 4 or 8 bytes, naturally aligned, covers. -/
def barWords (off len : Nat) : Option (List Nat) :=
  if len = 4 ∧ off % 4 = 0 then some [off] else if len = 8 ∧ off % 8 = 0 then some [off, off + 4] else none

/-- A read of a BAR: function, first word of the BAR, offset, length. -/
def State.barRead (s : State) (h f bar off len : Nat) : Option (List Byte) × State :=
  if f = 1 ∧ bar = 4 then s.mepRead h off len
  else match barWords off len with
    | none => (none, s)
    | some ws => (some (ws.flatMap (fun o => leBytes 4 (if f = 1 then s.msixWord h o else s.componentWord h f o))), s)

/-- A write of a BAR; host writes to the decoders are ignored (R70). -/
def State.barStore (s : State) (h f bar off : Nat) (data : List Byte) : State :=
  if f = 1 ∧ bar = 4 then s.mepStore h off data
  else if f = 1 then
    match barWords off data.length with
    | none => s
    | some ws => s.each ws (fun s o => s.msixStore h o (leNat ((data.drop (o - off)).take 4)))
  else s

/-- An access of a host to a BAR, which waits for nothing. A write whose byte enables are not one run is no access of an aligned word: it
does what one of no length does (R12). -/
def State.barGo (s : State) (h f bar off : Nat) (x : Rx) : State :=
  let t := x.tlp
  let ing : Ingress := .port x.port
  match t.op with
  | .memWrite => s.barStore h f bar off (if t.be = 0 then t.payload else [])
  | .memRead =>
    match s.barRead h f bar off t.len with
    | (some d, s) => (s.answer ing x.srcFid t .ok false d).answered x.port
    | (none, s) => s.refuse ing x.srcFid t
  | _ => s.refuse ing x.srcFid t

/-- An access of the data mover to a BAR (R289, R297): reads and refusals are answered to it. -/
def State.barGoDmv (s : State) (f k key h g bar off : Nat) (t : Tlp) : State :=
  if t.op = .memWrite then s.barStore h g bar off (if t.be = 0 then t.payload else [])
  else match s.barRead h g bar off t.len with
    | (some d, s) => s.push (.dmvCpl f k key (responseTo t .ok false d false))
    | (none, s) => s.push (.dmvCpl f k key (responseTo t .ur false [] false))

/-- An access of a host to BAR0 waits; a non-posted one keeps its bookmark (R23, R24). -/
def State.hostWait (s : State) (h off : Nat) (x : Rx) : State :=
  if !x.tlp.op.nonPosted then s.waitFor (.host h off x none)
  else
    let (b, s) := s.takeBookmark
      { bookmark0 with purpose := .register, port := some x.port, ingress := .port x.port, hier := some h, tlp := x.tlp,
                       srcFid := x.srcFid, slot := s.path.slotAt, gen := s.path.gen, timer := s.timerOf (.port x.port) }
    s.waitFor (.host h off x (some b))

/-- A waiting access of a host goes on. Where its requester's completions are discarded (R73), nothing is answered. -/
def State.hostGo (s : State) (h off : Nat) (x : Rx) (bm : Option Nat) : State :=
  match bm with
  | none => s.barGo h 1 4 off x
  | some b =>
    let mute := match s.bm b with | some y => y.discard | none => false
    let s := s.bmFree b
    if !mute then s.barGo h 1 4 off x
    else if x.tlp.op = .memRead then (s.barRead h 1 4 off x.tlp.len).2
    else s

/-- A non-posted access to BAR0 that waits is answered without it: its timer expired (R77), or QUIESCED lasts 50 ms (R31). -/
def State.registerResult (s : State) (b : Nat) (y : Bookmark) (r : BmResult) : State :=
  let s := s.modMgt (fun m => { m with
    waiting := m.waiting.filter (fun a => match a with | .host _ _ _ w => w != some b | _ => true) })
  s.plainResult b y 0 r

/-- An access of a host to a BAR: one to BAR0 of the management endpoint may have to wait (R49, R376). -/
def State.barAccess (s : State) (h f bar off : Nat) (x : Rx) : State :=
  if f = 1 ∧ bar = 4 ∧ s.mustWait .mf off (x.tlp.op == .memWrite) then s.hostWait h off x else s.barGo h f bar off x

/-- An access of the data mover to a BAR. -/
def State.barAccessDmv (s : State) (f k key h g bar off : Nat) (t : Tlp) : State :=
  if g = 1 ∧ bar = 4 ∧ s.mustWait .mf off (t.op == .memWrite) then s.waitFor (.dmv f k key h off t)
  else s.barGoDmv f k key h g bar off t

/-- An access that waited goes on. -/
def State.waitedGo (s : State) : WaitAcc → State
  | .host h off x b => s.hostGo h off x b
  | .dmv f k key h off t => s.barGoDmv f k key h 1 4 off t
  | .write p off w => s.regWrite p off w
  | .read p off => (s.regRead p off).2.out (.value (s.regRead p off).1)
  | .debug off none => (s.regRead (.fw 0) off).2.out (.value (s.regRead (.fw 0) off).1)
  | .debug off (some w) => s.regWrite (.fw 0) off w

/-- Whether a waiting access is still held up. -/
def State.stillHeld (s : State) : WaitAcc → Bool
  | .host _ off x _ => s.heldUp .mf off (x.tlp.op == .memWrite)
  | .dmv _ _ _ _ off t => s.heldUp .mf off (t.op == .memWrite)
  | .write p off _ => s.heldUp p off true
  | .read p off => s.heldUp p off false
  | .debug off w => s.mgmt.brgLock.isSome || s.heldUp (.fw 0) off w.isSome

/-- Waiting accesses are looked at in order; one that is held up holds those behind it on its path. -/
def State.retryWaiting (s : State) : State :=
  let l := s.mgmt.waiting
  let s := s.modMgt (fun m => { m with waiting := [] })
  s.each l (fun s a => if s.mgmt.waiting.any (fun b => b.who == a.who) || s.stillHeld a then s.waitFor a else s.waitedGo a)

end Sys2Proof.Machine
end

