-- ==== Sys2Proof/Machine/Arrive.lean ====
section
/-!
DEFINITION. Packets from the ports: what they count, and what the mode, the role and containment let through (R31, R32, R59, R67,
R84, R87, R188, R189, R327, R328, R340, R427).
-/
namespace Sys2Proof.Machine

/-- A request of CXL.mem. -/
def PktOp.memRequest : PktOp → Bool
  | .cMemRd | .cMemWr | .cMemWrPtl => true
  | _ => false

/-- A configuration request. -/
def PktOp.config : PktOp → Bool
  | .cfgRead | .cfgWrite => true
  | _ => false

/-- A TLP whose payload differs in length from its Length field (R124). -/
def Tlp.lengthBad (t : Tlp) : Bool :=
  match t.op with
  | .memWrite | .npWrite | .atomic | .cfgWrite | .msg => t.payload.length != t.len
  | .cpl => t.status == .ok && t.payload.length != t.len
  | _ => false

/-- A TLP as it was found on arrival (R124): a payload of the wrong length makes it bad. -/
def Tlp.checked (t : Tlp) : Tlp :=
  if t.lengthBad then { t with ecrc := if t.ecrc = .none then .badLength else .bad } else t

/-- What an accepted packet counts at its port (R342) and takes of its credits (R113), and the logs of a poisoned one and of a bad ECRC
(R317, R331). -/
def State.noteRx (s : State) (p : Nat) (t : Tlp) : State :=
  let s := ((s.fcTake p t).countPort p 0).countPort p 2 t.payload.length
  let s := if t.ecrc = .bad then s.ecrcLog p t else s
  let s := if t.ep then (s.countPort p 21).poisonedLog p t else s
  let s := if t.op = .cpl ∧ (t.status = .ur ∨ t.status = .ca) then s.countPort p 20 else s
  if t.op.memRequest then s.countPort p 24 else s

/-- A new request in QUIESCED (R31, R328): refused, and a posted one counted for the mode as well. -/
def State.quiescedRefuse (s : State) (x : Rx) : State := s.observedBy x (fun s =>
  (if x.tlp.op.posted then s.countPort x.port 27 else s).refuse (.port x.port) x.srcFid x.tlp)

/-- A request of a contained hierarchy (R327): refused, and a posted one counted for the hierarchy as well. -/
def State.containedRefuse (s : State) (h : Nat) (x : Rx) : State :=
  s.observedBy x (fun s => (if x.tlp.op.posted then s.countHier h 14 else s).refuse (.port x.port) 0 x.tlp)

/-- The parts of a request, each received (R91). -/
def State.receiveParts (s : State) (x : Rx) : State :=
  if x.tlp.op.isMem || x.tlp.op.config || x.tlp.op == .msg then s.receive x
  else s.each (splitFolio x.tlp) (fun s t => s.receive { x with tlp := t })

/-- The access of a host to BAR0 of the management function, which no mode and no HIERARCHY containment stops (R31, R327, R328). -/
def State.privAccess (s : State) (h : Nat) (t : Tlp) : Option (Nat × Nat × Nat) :=
  if s.privHier = some h ∧ !t.op.isMem ∧ !t.op.config ∧ t.op ≠ .msg then
    (s.barHit h t.addr.toNat).filter (fun b => b.1 == 1)
  else none

/-- A packet from P00 in ENDPAPER (R28, R59): configuration and BAR requests to the management endpoint; all else is refused. -/
def State.endpaperRx (s : State) (x : Rx) : State :=
  let t := x.tlp
  if t.op.config then s.hostConfig 48 x
  else if t.op = .cpl ∧ (s.bm t.tag).any (fun y => y.purpose == .cset && y.tlp.reqId == t.reqId && !y.quarantined) then
    s.push (.bmResult t.tag none 0 (.answer t.status t.ep t.payload t.synth (s.viaOf x false)))
  else if t.op.response || t.op == .msg || t.op.isMem then s.refuse (.port x.port) 0 t
  else match s.barHit 48 t.addr.toNat with
    | some (f, d, off) => s.push (.bar 48 f d off x)
    | none => s.refuse (.port x.port) 0 t

/-- A packet from a host port that presents no hierarchy (R32, R427). -/
def State.bareRx (s : State) (x : Rx) : State :=
  if x.tlp.op.response then s.countPort x.port 12
  else if !s.glb.firstBound && x.tlp.op.config then (s.answer (.port x.port) 0 x.tlp .crs false []).answered x.port
  else s.observedBy x (fun s => s.refuse (.port x.port) 0 x.tlp)

/-- A packet from a host port (R87, R88, R31, R327); its memory reads are the stream of R81. -/
def State.hostRx (s : State) (x : Rx) : State :=
  match s.hierOn x.port with
  | none => s.bareRx x
  | some h =>
    let s := if x.tlp.op = .memRead ∧ x.tlp.len ≠ 0 then s.noteRead h x.tlp.addr.toNat x.tlp.len else s
    if x.tlp.op.response || x.tlp.op.config || (s.privAccess h x.tlp).isSome then s.receive x
    else
        if s.glb.mode = .quiesced then s.quiescedRefuse x
        else if s.contained .hierarchy h then s.containedRefuse h x
        else s.receiveParts x

/-- A packet from a device port (R87, R104, R31). A configuration request is answered with Unsupported Request. -/
def State.deviceRx (s : State) (x : Rx) : State :=
  if x.tlp.op.response then s.receive x
  else if x.tlp.op.config then s.refuse (.port x.port) 0 x.tlp
  else if s.glb.mode = .quiesced then s.quiescedRefuse x
  else s.receiveParts x

/-- A packet from a fabric port (R106, R188, R189): in QUIESCED no data packet is carried, but the answers to this device's own
bookmarks are taken, and with cause 3 requests are answered (R31, R328). -/
def State.fabricRx (s : State) (x : Rx) : State :=
  if s.ownFid x.srcFid then s.observedBy x (fun s => (s.countDev 8).raiseDev 1486 0
    { raise0 with port := some x.port, addr := x.tlp.addr.toNat, hdr := x.tlp.hdr.toNat })
  else if s.glb.mode = .quiesced then
    if x.tlp.op.response then
      (match s.fabricRoute x with
       | .hop _ _ => s.observedBy x id
       | .none => s.observedBy x (fun s => s.countDev 7)
       | _ => s.receive x)
    else if s.glb.quiesceCause = 3 ∨ x.tlp.op.posted then s.quiescedRefuse x
    else s.observedBy x id
  else s.receive x

/-- A packet from an analysis port (R340). -/
def State.analysisRx (s : State) (x : Rx) : State :=
  if x.tlp.op.response then s.countPort x.port 12
  else s.observedBy x (fun s => (s.countPort x.port 28).refuse (.port x.port) 0 x.tlp)

/-- A packet received in TEST: a non-posted request is answered with Unsupported Request, a posted one is dropped and counted
(Across the modes of 10_lanes_and_links). No bookmark stands for a response. -/
def State.testRx (s : State) (x : Rx) : State :=
  if x.tlp.op.response then s.countPort x.port 12 else s.observedBy x (fun s => s.refuse (.port x.port) x.srcFid x.tlp)

/-- A packet that a port received whole, by the mode and the role of the port. -/
def State.arriveIn (s : State) (x : Rx) : State :=
  if s.glb.mode = .endpaper then s.endpaperRx x
  else if s.glb.mode = .test ∧ s.role x.port ≠ .analysis then s.testRx x
  else match s.role x.port with
    | .host => s.hostRx x
    | .device => s.deviceRx x
    | .fabric => s.fabricRx x
    | .analysis => s.analysisRx x
    | .none => s

/-- A packet that a port received whole: it is numbered, with the credits it took, and checked (R113, R124); its destination is looked up
in the routing table, unless that is the device's own internal ID (R95, R188). -/
def State.arrive (s : State) (x : Rx) : State :=
  if !s.portActive x.port then s
  else
    let s := (s.noteRx x.port x.tlp).modPath (fun d => { d with arrivals := d.arrivals + 1 })
    let x := { x with tlp := x.tlp.checked, arrival := s.path.arrivals, took := fcOf x.tlp }
    let s := match s.role x.port, x.dstFid with
      | .fabric, some d => if s.internalFid = some d then s else s.checkRoute d
      | _, _ => s
    (s.useWords [3, 5, 6, 7, 8, 0xD] (some x.port) (s.hierOn x.port)).arriveIn x

/-- A packet from a host or device port: it carries no fabric header. -/
def State.arriveAt (s : State) (p : Nat) (t : Tlp) : State :=
  s.arrive { port := p, tlp := t, srcFid := 0, dstFid := none, ttl := 0, tc := t.tc.val, ld := none }

/-- A port that speaks PCI Express or CXL with a partner: host, device and analysis ports (R87, R104, R340). -/
def State.tlpPort (s : State) (p : Nat) : Bool :=
  s.role p == .host || s.role p == .device || s.role p == .analysis

/-- HOST_MEMORY_REQUEST (R88); on an analysis port R340 answers it. -/
def State.hostMemory (s : State) (p : Nat) (t : Tlp) : State :=
  match t.op with
  | .memWrite | .memRead | .atomic | .npWrite => if (s.role p = .host ∨ s.role p = .analysis) ∧ !t.locked then s.arriveAt p t else s
  | _ => s

/-- CXL_MEM_REQUEST (R84). -/
def State.hostCxlMem (s : State) (p : Nat) (t : Tlp) : State :=
  if s.role p = .host ∧ t.op.memRequest then s.arriveAt p t else s

/-- CONFIG_REQUEST (R66, R87): the word number is in `addr`, the byte enables in `be`. -/
def State.configRx (s : State) (p : Nat) (t : Tlp) : State :=
  if s.tlpPort p ∧ t.op.config then s.arriveAt p t else s

/-- IO_REQUEST (R67): a non-posted request as any other (R24), answered with Unsupported Request. -/
def State.ioRequest (s : State) (p : Nat) (rid : BitVec 16) (tag : Nat) : State :=
  if s.tlpPort p then s.arriveAt p { tlp0 with op := .io, len := 4, reqId := rid, tag := tag } else s

/-- MESSAGE_RECEIVED (R87). -/
def State.messageRx (s : State) (p : Nat) (t : Tlp) : State :=
  if s.tlpPort p ∧ t.op = .msg ∧ t.route ≠ .unlock then s.arriveAt p t else s

/-- DEVICE_PORT_REQUEST (R104). -/
def State.devicePortRequest (s : State) (p : Nat) (t : Tlp) : State :=
  match t.op with
  | .memWrite | .memRead | .atomic | .npWrite => if s.role p = .device ∨ s.role p = .analysis then s.arriveAt p t else s
  | _ => s

/-- BISNP_RECEIVED (R84). -/
def State.biSnpRx (s : State) (p : Nat) (t : Tlp) : State :=
  if s.role p = .device ∧ t.op = .biSnp then s.arriveAt p t else s

/-- COMPLETION_RECEIVED (R424) on a host or device port; a fabric port receives its responses with FABRIC_PACKET_RECEIVED. -/
def State.completionRx (s : State) (p : Nat) (t : Tlp) : State :=
  if s.tlpPort p ∧ t.op.response then s.arriveAt p t else s

/-- FABRIC_PACKET_RECEIVED (R106): the packet's credits are counted (R227), and it goes to the transaction engine whole. -/
def State.fabricPacket (s : State) (x : Rx) : State :=
  if s.portActive x.port && s.role x.port == .fabric then
    let r := s.bflCount x.port x.tlp.op.bufClass x.tc x.tlp.payload.length
    if r.1 then r.2.arrive x else r.2
  else s

/-- LOCKED_READ (R80). -/
def State.lockedRead (s : State) (p : Nat) (t : Tlp) : State :=
  if s.tlpPort p ∧ t.op = .memRead then s.arriveAt p { t with locked := true } else s

/-- UNLOCK (R80): the host's message, which like any posted request may be refused or held, goes to each port that its hierarchy has
locked, and frees it. On other ports it is a message like any other (R104, R340). -/
def State.unlockRx (s : State) (p : Nat) : State := if s.tlpPort p then s.arriveAt p unlockMsg else s

/-- LOCK_EXPIRED (R80). -/
def State.lockExpired (s : State) (p : Nat) : State :=
  match (s.swPort p).lock with
  | some h => ((s.unlockPort p).raiseHier h 2).countHier h 9
  | none => s

/-- What a packet would put on the queues: the copies of it, by the egress of each, that are sent before their tail (R122). -/
def State.cutThrough (s : State) (x : Rx) : List (Nat × Packet × QEntry) :=
  let n := s.path.nextPkt
  let t := s.arrive x
  t.path.queues.flatMap (fun q => (q.2.filter (fun e => decide (n ≤ e.pkt))).filterMap (fun e =>
    match tfind t.path.packets e.pkt with
    | some y => if t.storeForward q.1 y e then none else some (q.1, y, e)
    | none => none))

/-- A packet whose header entered stage 4 is void (R127): it is treated as never sent, so that it queues nothing and keeps no bookmark, but
was observed as bad (R334, R336). The mark goes on to the egress ports that `sent` picks, each with the bytes of payload it had sent. -/
def State.voidRx (s : State) (x : Rx) (sent : State → Nat → Option Nat × State) : State :=
  let s := s.each (s.cutThrough x) (fun s y =>
    match sent s y.1 with
    | (some got, s) => s.nullify y.1 y.2.1 y.2.2 got
    | (none, s) => s)
  s.observedBy { x with tlp := { x.tlp with ecrc := .bad } } id

/-- NULLIFIED_PACKET_RECEIVED (R127): counted, and treated as never sent. `part` is what came of it before the mark, if its header did. -/
def State.nullifiedRx (s : State) (p : Nat) (part : Option VoidRx) : State :=
  if !s.portActive p then s
  else
    let s := s.countPort p 11
    match part with
    | none => s
    | some v =>
      let fab := s.role p == .fabric
      let x : Rx :=
        { port := p, tlp := v.tlp, srcFid := if fab then v.src.val else 0, dstFid := if fab then v.dst.map Fin.val else none,
          ttl := if fab then v.ttl.val else 0, tc := if fab then v.tc.val else v.tlp.tc.val,
          ld := if fab then v.ld.map Fin.val else none }
      s.voidRx x (fun s q => ((v.sent.find? (fun y => y.1.val == q)).map (·.2), s))

/-- A packet was tail-marked on a Brodoth link (R127, R219). DESIGN CHOICE (log 91): which egress ports had begun to send it, and how much,
is a matter of time that the model leaves out: a free value for each that does not wait for the tail. -/
def State.tailMarked (s : State) (x : Rx) : State :=
  s.voidRx x (fun s _ =>
    let d := s.drawBelow (x.tlp.payload.length + 2)
    (if d.1 = 0 then none else some (d.1 - 1), d.2))

end Sys2Proof.Machine
end

