-- ==== Sys2Proof/Machine/Access.lean ====
section
/-!
DEFINITION. The debug master (R372, R392), the bridge's read timeout (R374), and the out-of-band commands that read or ask for
something (R397).
-/
namespace Sys2Proof.Machine

/-! ### The debug master -/

/-- An address of the secure region (R372). -/
def secureAddr (a : Nat) : Bool := 0x20020000 ≤ a && a < 0x20040000

/-- The BAR0 offset of an address of one of the two views (R372). -/
def viewOff (a : Nat) : Option Nat :=
  if 0x40000000 ≤ a ∧ a < 0x44000000 then some (a - 0x40000000)
  else if 0x50000000 ≤ a ∧ a < 0x54000000 then some (a - 0x50000000)
  else none

/-- An address that names a register with an RWL field whose block is locked (R392). -/
def State.lockedAddr (s : State) (a : Nat) : Bool :=
  match (viewOff a).bind locate with
  | some x => s.windowLocked x.off && x.row.fields.any (fun f => f.acc == .rwl)
  | none => false

/-- What R392 denies by the life-cycle state. -/
def State.debugDenied (s : State) (a : Nat) : Bool :=
  match s.mgmt.otp.lc with
  | .blank | .provision => false
  | .deployed => secureAddr a || s.lockedAddr a || !s.mgmt.debugEnabled
  | .returned => secureAddr a || s.lockedAddr a
  | .retired => true

/-- Four bytes of a local memory as a word. -/
def memWord (d : Byte) (t : Tbl Byte) (a : Nat) : Nat := leNat ((List.range 4).map (fun k => tget d t (a + k)))

/-- Write a word of a local memory. -/
def putMemWord (d : Byte) (t : Tbl Byte) (a w : Nat) : Tbl Byte :=
  (List.range 4).foldl (fun t k => tput d t (a + k) (BitVec.ofNat 8 (w / 2 ^ (8 * k)))) t

/-- An access to a register through a view: it waits while the bridge is locked (R376), or for a gate (R49). -/
def State.debugReg (s : State) (off : Nat) (w : Option Nat) : State :=
  let a := WaitAcc.debug off w
  if s.mgmt.waiting.any (fun b => b.who == a.who) || s.stillHeld a then s.waitFor a else s.waitedGo a

/-- An access of the debug master that is served: `w` is the word of a write; one of a BAR0 view that is not aligned is counted (R12). The
boot ROM is read only, its words are free; so
are the words of the local engines but BRG_LOCK. -/
def State.debugServe (s : State) (a : Nat) (w : Option Nat) : State :=
  match viewOff a, w with
  | some off, _ => if a % 4 = 0 then s.debugReg off w else if w.isSome then s.countDev 0 else (s.countDev 0).localError .debug
  | none, w =>
    if a % 4 ≠ 0 ∨ !localAllows s.inRom .debug (if w.isSome then .write else .read) a then s.localError .debug
    else match w with
      | none =>
        if a < 0x10000 then s.out (.value (some (Config.romWord a).toNat))
        else if a < 0x20000000 then s.out (.value (some (memWord 255 s.mgmt.sram (a - 0x10000000))))
        else if a < 0x30000000 then s.out (.value (some (memWord 0 s.mgmt.spad a)))
        else if a = 0x30000100 then s.out (.value (some (b2n s.mgmt.brgLock.isSome)))
        else let (n, s) := s.drawBelow (2 ^ 32); s.out (.value (some n))
      | some v =>
        if a < 0x20000000 then s.modMgt (fun m => { m with sram := putMemWord 255 m.sram (a - 0x10000000) v })
        else if a < 0x30000000 then s.modMgt (fun m => { m with spad := putMemWord 0 m.spad a v })
        else s

/-- DEBUG_ACCESS (R392), while the test access port has selected the debug master (R418): served, or denied, counted and raised. -/
def State.debugAccess (s : State) (a : Nat) (w : Option Nat) : State :=
  if s.glb.mode = .off ∨ s.mgmt.tap ≠ .dbgSelect then s
  else if s.debugDenied a then
    ((s.modMgt (fun m => { m with denied := wrapInc 16 m.denied })).raiseDev 1532).out (.value none)
  else s.debugServe a w

/-! ### The bridge -/

/-- BRIDGE_READ_TIMEOUT (R374): the read receives an error response; one that waited waits no more. -/
def State.bridgeTimeout (s : State) : State :=
  let s := s.modMgt (fun m => { m with waiting := match m.waiting.find? WaitAcc.bridgeRead with | some a => m.waiting.erase a | none => m.waiting })
  (s.raiseDev 1533).out (.value none)

/-! ### Out-of-band commands (R397) -/

/-- The always-on domain answers the out-of-band port. -/
def State.oobServed (s : State) : Bool := s.glb.mode != .off

/-- Answer an out-of-band command. -/
def State.oobSay (s : State) (r : OobRsp) : State := if s.oobServed then s.out (.oob r) else s

/-- READ_STATUS. -/
def State.oobStatus (s : State) : State := s.oobSay (.words [s.modeStatus, s.feedStatus, s.lcStatus, s.bootStatus])

/-- READ_COLOPHON: the bytes of the record, zero where there is none (as R399 reads it). -/
def State.oobColophon (s : State) (back : Nat) : State :=
  s.oobSay (.words (match s.mgmt.coloBack back with
    | some r => (coloBytes r).map BitVec.toNat
    | none => List.replicate 64 0))

/-- SUBMIT_CSET. -/
def State.oobSubmit (s : State) (piece : List Byte) (last : Bool) (ed : Bool) (pq : Bool) : State :=
  if s.oobServed then s.oobSetPiece piece last ed pq else s

/-- MODE_REQUEST: only within a secured session. -/
def State.oobMode (s : State) (secured : Bool) (req : Nat) : State :=
  if s.oobServed && secured && s.mgmt.spdmMctp.session then (s.oobSay .accepted).modeRequest req else s.oobSay .vendorError

/-- READ_LEDGER. -/
def State.oobLedger (s : State) (r : Nat) : State :=
  s.oobSay (if s.coreRuns then .words ((recordWords (s.record r)).map BitVec.toNat) else .vendorError)

/-- READ_COUNTER. -/
def State.oobCounter (s : State) (n : Nat) : State :=
  s.oobSay (if s.coreRuns then .words [s.pmcAt (0x1000000 + 8 * n)] else .vendorError)

end Sys2Proof.Machine
end

