-- ==== Sys2Proof/Machine/Mtick.lean ====
section
/-!
DEFINITION. The management tick (R25): what the edge measures, evaluates, scrubs and copies.
-/
namespace Sys2Proof.Machine

/-- CCLK in one MTICK (R25). -/
def tickCclk : Nat := 1000000

/-- The rest of an MTICK passes (R25). Without a running core only the edge itself is counted. -/
def State.tickTime (s : State) : State :=
  let s := if s.coreRuns then s.advance (tickCclk - s.spine.cclk) else s
  { s with spine := { s.spine with ticks := s.spine.ticks + 1, cclk := s.spine.cclk - tickCclk } }

/-- An upset makes the parity of a word bad (R55, R56): a check that meets the word finds it. -/
def State.upset (s : State) (u : Upset) : State :=
  let off := u.off.val / 4 * 4
  match u.kind with
  | .active => if holdsRwq off ∧ !s.regs.badActive.contains off then
      { s with regs := { s.regs with latActive := sadd s.regs.latActive off } } else s
  | .shadow => if holdsRwq off ∧ !s.regs.badShadow.contains off then
      { s with regs := { s.regs with latShadow := sadd s.regs.latShadow off } } else s
  | .direct =>
    let kept : Bool := match locate off with | some x => x.row.fields.any (fun f => f.acc == .rwi) | none => false
    if kept && !s.regs.badDirect.contains off then
      { s with regs := { s.regs with latDirect := sadd s.regs.latDirect off } } else s

/-- The upsets of a tick and the scrubber's pass (R55): upsets that came after the scrubber had passed the word wait for the next
check. -/
def State.upsets (s : State) (l : List Upset) : State :=
  ((s.each (l.filter (fun u => !u.late)) State.upset).scrubWords).each (l.filter (·.late)) State.upset

/-- Spine time's part of the edge (R37, R41, R42): the age of a holdover and of a silent fabric reference, and the measurement of
the external reference. -/
def State.spineTick (s : State) (clk : Option (Fin 1024)) : State :=
  let s := { s with spine := { s.spine with
    holdExpired := s.spine.holdExpired && s.holdoverOver, measured := false, extClk := clk.isSome, holdTicks := if s.spine.servo == ServoState.holdover then s.spine.holdTicks + 1 else s.spine.holdTicks,
    missed := (match s.spine.ref with | .fabric _ => s.spine.missed + 1 | _ => 0) } }
  match s.spine.ref, clk with
  | .external, some n => s.measureExternal n.val
  | _, _ => s

/-- An uncorrectable error of the code SRAM or the scratchpad (R372): an error response; while the boot ROM runs, the start fails. -/
def State.sramError (s : State) (m : LocalMaster) : State := if s.inRom then s.startFail 6 else (s.raiseDev 1535).localError m

/-- What the core does at the edge: measurement, scrubbing, fabric mode, data mover, commands sent, checkers. -/
def State.coreTick (s : State) (x : TickIn) : State :=
  let s := s.spineTick x.spineClk
  let s := ((s.scrubTables).upsets x.upsets).each x.tables State.tableError
  let s := (s.countDev 5 x.bufferFixes).fabTick.dmvTick.sentTick
  s.each x.lanes (fun s c => if s.checkerLocked c.lane.val then s.checkerCount c.lane.val c.bits c.errors else s)

/-- What the always-on domain does at the edge (R356 to R368, R416). -/
def State.auxTick (s : State) (x : TickIn) : State :=
  let s := s.thermTick x.temp.val
  let s := (s.feedsTick x.feedA.val x.feedB.val x.vbus.val).slotsTick x.slots x.vbus.val
  let s := s.modBoot (fun b => { b with mticks := b.mticks + 1, wait := b.wait + 1 })
  let s := s.modMgt (fun m => { m with memFixes := m.memFixes + x.sramFixes })
  match x.sramError with | some m => s.sramError m | none => s

/-- MTICK (R25). The mirrors copy what the edge leaves (R54). -/
def State.mtick (s : State) (x : TickIn) : State :=
  if s.glb.mode = .off then s
  else
    let s := s.tickTime
    let s := if s.coreRuns then s.coreTick x else s
    let s := s.auxTick x
    if s.coreRuns then s.mirrorAll else s

/-- One CCLK edge passes with nothing commanded (R25), while the core runs. -/
def State.idleTick (s : State) : State := if s.coreRuns then s.advance 1 else s

/-- HOLDOVER_EXPIRED (R41): the limit was reached, which raises the source once until the status has been 0 again. -/
def State.holdoverExpired (s : State) : State :=
  if s.coreRuns ∧ s.holdoverOver ∧ !s.spine.holdExpired then
    ({ s with spine := { s.spine with holdExpired := true } }).raiseDev 1474
  else s

/-- REFERENCE_LOST (R42): SPINE_CLK or SPINE_PPS of the external reference, as the pins show; the fabric reference after 8 MTICK
without an answer, or with its link down. PPS_SEEN becomes 0 when SPINE_PPS is lost. -/
def State.referenceLost (s : State) (x : LostSignal) : State :=
  match x with
  | .clk =>
    let s := { s with spine := { s.spine with extClk := false } }
    if s.spine.ref = .external then s.refLost else s
  | .pps =>
    let s := { s with spine := { s.spine with ppsLost := true, ppsSeen := false } }
    if s.spine.ref = .external then s.refLost else s
  | .fabric =>
    match s.spine.ref with
    | .fabric p => if 8 ≤ s.spine.missed ∨ (s.bfl p).phase ≠ .active then s.refLost else s
    | _ => s

/-- HEAT_EPOCH_BOUNDARY (R181): CCLK edges pass until the boundary, and the epoch closes. -/
def State.heatEdge (s : State) : State :=
  if s.coreRuns ∧ s.mig.heat.isOpen then
    let s := s.advanceToNs s.mig.heat.boundary
    s.heatBoundary
  else s

end Sys2Proof.Machine
end

