-- ==== Sys2Proof/Machine/Settle.lean ====
section
/-!
DEFINITION. The consequences of a step, carried out within it: links that go down and come up (R131, R133, R253), bindings that
fire (R48, R52), results of bookmarks, raises (R326), and all else that an effect leaves to be done.
-/
namespace Sys2Proof.Machine

/-! ### Links -/

/-- What a port presents: its hierarchies; in ENDPAPER the endpoint of P00 (R59), number 48. -/
def State.hiersOn (s : State) (p : Nat) : List Nat :=
  if s.glb.mode = .endpaper then (if p = 0 then [48] else [])
  else (s.hiers.filter (fun x => x.2.active && decide (x.2.onPort = p) && decide (x.1 < 48))).map (·.1)

/-- Every hierarchy that is, or was when a cause of IN_RESET began, on a port: there the cause ends (R73). -/
def State.hiersAt (s : State) (p : Nat) : List Nat := (s.hiers.filter (fun x => decide (x.2.onPort = p))).map (·.1)

/-- A link-down event (R131, R156, R177, R178, R80, R73, R239, R208, R339). -/
def State.doLinkDown (s : State) (p : Nat) : State :=
  let hop := s.hopActive p
  let s := ((((s.flushHeld p).flushPort p).losePort p).migPortFlushed p).freeLock p
  let s := s.each (s.hiersOn p) (fun s h => s.beginReset h true (fun x => { x with rstLink := true }))
  let s := if (s.bfl p).phase = .down then s else (s.bflClear p).fabPortDown p
  let s := if (s.swPort p).fcInit.isEmpty then s else s.modSwPort p (fun x => { x with fcInit := [], fcRcvd := [], fcTold := [] })
  ((if hop then s.routePortChanged p else s).mirrorFlush p).push .recheck

/-- A port came UP (R253, R73, R115, R224). -/
def State.doLinkUp (s : State) (p : Nat) : State :=
  let s := s.takeReserves p
  let s := s.each (s.hiersAt p) (fun s h => s.modHier h (fun x => { x with rstLink := false }))
  (if s.role p = .fabric then s.bflStart p else s.fcStart p).push .recheck

/-- FLUSH_COMPLETE (R131, R133): FLUSHING returns to 0, and a HELD link goes on. -/
def State.flushDone (s : State) (p : Nat) : State :=
  if !s.flushing p then s
  else
    let s := s.modSwPort p (fun x => { x with flushing := false })
    if (s.port p).sup = .held then s.beginDll p
    else if (s.bfl p).phase = .held then (s.takeReserves p).bflStart p
    else s

/-- What may run or show is looked at again: ports, presence, data mover functions (R253, R63, R280). -/
def State.doRecheck (s : State) : State := (s.recheckPorts.recheckPresence).dmvCheck false

/-! ### Bindings -/

/-- The binding includes a unit in a range. -/
def unitsIn (us : List Nat) (a b : Nat) : Bool := us.any (fun u => decide (a ≤ u) && decide (u ≤ b))

/-- The check of the folio windows of a hierarchy (R89). -/
def State.windowsBound (s : State) (h : Nat) : State :=
  let n := s.windowConflicts h
  let l := sdel s.path.windowConflict h
  let s := { s with path := { s.path with windowConflict := if n = 0 then l else sadd l h } }
  s.each (List.range n) (fun s _ => s.raiseHier h 3)

/-- The check of the reserves at a binding of unit 97 (R115). -/
def State.reservesBound (s : State) : State :=
  let exceeds := s.reservesOver
  let s := { s with path := { s.path with overcommit := exceeds } }
  if exceeds then s.raiseDev 1476 else s

/-- What a binding of unit 100 brings into effect (R187, R189, R208). -/
def State.fabricBound (s : State) (first : Bool) : State :=
  let s := s.modFab (fun x => { x with latched := x.latched || !first })
  let turned := (List.range 64).filter (fun p =>
    s.role p == .fabric && (s.bfl p).phase == .active
      && fld (s.oldWord (0xA00100 + 4 * p)) 31 31 != fld (s.act (0xA00100 + 4 * p)) 31 31)
  (s.each turned State.routePortChanged).checkIds

/-- What E0 of a binding brings with it, beyond the new words (R48, R52, R62, R89, R97, R115, R187, R242, R244, R287). -/
def State.doBound (s : State) (us : List Nat) (first : Bool) : State :=
  let s := if unitsIn us 48 96 || unitsIn us 98 98 || unitsIn us 101 102 then
      let t := s.advanceTimed
      t.pfDiscard (fun x => decide (x.gen < t.path.gen))
    else s
  let s := if us.contains 100 then s.fabricBound first else s
  let s := s.lanesBound us
  let s := if unitsIn us 0 47 || unitsIn us 107 186 then s.checkPresentation true else s
  let s := s.each ((List.range 48).filter (fun h => us.contains (48 + h))) State.windowsBound
  let s := if us.contains 97 then s.reservesBound else s
  let s := if us.contains 99 then s.heatBinding else s
  let s := if us.contains 105 || unitsIn us 107 186 then s.mirrorBound else s
  let s := if us.contains 103 then s.dmvAdjust.dmvCheck true else s
  s.doHeatCheck.push .recheck

/-- The first binding of the start completed (R32, R381): a start in TEST has succeeded before. -/
def State.doFirstBound (s : State) : State := if s.glb.mode = .test then s else s.startOk

/-- A step of spine time (R50, R181, R347). -/
def State.doTimeStep (s : State) (forward : Bool) : State :=
  let s := s.heatStep forward
  if forward then s.takeDue true else s

/-! ### Results of bookmarks -/

/-- A bookmark whose request nobody waits for any more: freed by the last of its answer, quarantined as on expiry. -/
def State.confirmResult (s : State) (b : Nat) (y : Bookmark) : BmResult → State
  | .answer st _ d _ _ =>
    if y.tlp.op = .memRead ∧ st = .ok ∧ y.returned + d.length < y.tlp.len then s.bmSet b { y with returned := y.returned + d.length }
    else s.bmAnswered b
  | .expired | .synthesised => s.bmQuarantine b
  | _ => s.bmFree b

/-- Something came of a bookmark's request: its purpose says what follows. -/
def State.doBmResult (s : State) (b : Nat) (m : Option Nat) (line : Nat) (r : BmResult) : State :=
  match s.bm b with
  | none => s
  | some y =>
    if y.quarantined then s
    else if y.purpose.context.isSome && y.discard then s.confirmResult b y r
    else match y.purpose with
      | .host | .fabric => s.requestResult b y m line r
      | .absorb => s.absorbResult b y r
      | .prefetch _ => s.prefetchResult b y line r
      | .migRead c g => s.migReadResult b y c g r
      | .migWrite c g => s.migWriteResult b c g r
      | .migSettle c => s.migSettleResult b c r
      | .migConfirm c => s.migConfirmResult b c r
      | .dmv _ _ _ => if y.tlp.op = .memWrite then s.absorbResult b y r else s.requestResult b y m line r
      | .snoop => s.snoopResult b y r
      | .confirm => s.confirmResult b y r
      | .register => s.registerResult b y r
      | .fetch k => s.fetchResult b y k r
      | .cset => s.csetResult b y r

/-! ### The rest -/

/-- The rest of a hierarchy reset (R73, R278, R302, R337, R184). -/
def State.doHierEnd (s : State) (h port : Nat) (full : Bool) : State :=
  let s := ((s.doHierReset h port).captureReset h).heatReset h
  if full then
    let s := s.ringsReset h
    if s.dmvHome = h then s.dmvHomeReset else s
  else s

/-- Bus Master Enable of a function changed (R72, R278, R184): an endpoint's rings go on when it is set. -/
def State.doBusMaster (s : State) (h f : Nat) (on : Bool) : State :=
  if f ≠ 1 then s else if on then s.ringsBack h else s.doHeatCheck

/-- Carry out one consequence. -/
def State.runAction (s : State) (a : Action) : State :=
  match a with
  | .opened r i => s.doOpened r i
  | .linkMerge p => s.containLink p
  | .linkDown p => s.doLinkDown p
  | .linkUp p => s.doLinkUp p
  | .recheck => s.doRecheck
  | .hierReset h p full => s.doHierEnd h p full
  | .dmvFlr f => s.dmvFlr f
  | .sendUp h f t => s.doSendUp h f t
  | .bmResult b m l r => s.doBmResult b m l r
  | .enqueued p x _ => s.countSelected p x
  | .retryHeld => s.doRetryHeld
  | .resyncLost g m => s.doResyncLost g m
  | .bar h f bar off x => s.barAccess h f bar off x
  | .dmvBar f off x => s.dmvBarAccess f off x
  | .bflDiscard p => s.modBfl p (fun b => { b with discarded := wrapInc 8 b.discarded })
  | .response x => s.doResponse x
  | .control x => s.doControl x
  | .busMaster h f on => s.doBusMaster h f on
  | .dmvCfg _ f x => s.dmvCfg f x
  | .marginCap h f l w => s.capMargin h f l w.toNat
  | .measured m l pi pe tc i => s.measured m l pi pe tc i
  | .bflSend p t ld sf df tc ttl => s.bflSend p t ld sf df tc ttl
  | .entryFailed i => s.migEntryError i
  | .migCheck c => s.migCheckSettle c
  | .cmdDone o st r => s.cmdEnd o st r
  | .fenceCheck => s.migFences
  | .heatCheck => s.doHeatCheck
  | .timeStepped fwd => s.doTimeStep fwd
  | .bound us first => s.doBound us first
  | .firstBound => s.doFirstBound
  | .reselect => s.doReselect
  | .bflTail p t ld sf df tc ttl got => s.bflTail p t ld sf df tc ttl got
  | .takeCmd o q => s.takeRemote o q
  | .cmdRsp n st c => s.cmdRspIn n st c
  | .arrive x => s.arrive x
  | .bflReset p => s.bflReset p
  | .tailMarked x => s.tailMarked x
  | .elect => s.doElect
  | .fmp p f => s.fmpReceive p f
  | .bflActive p => s.fabPortUp p
  | .timeRsp p t1 t2 t3 t4 hops => s.timeRspUse p t1 t2 t3 t4 hops
  | .colophon e c src => s.colophon e c src
  | .observed x n => s.observeIn x n
  | .observedFn h t n => s.observeFn h t n
  | .leaves p x e bad => s.observeOut p x e bad
  | .dmvCpl f _ key t => s.dmvBack f key t
  | .dmvReg f k key h g bar off t => s.barAccessDmv f k key h g bar off t

/-- What may go on when nothing is left to be done: the data mover, and accesses that wait. -/
def State.goOn (s : State) : State :=
  let s := if s.dmv.fns.isEmpty then s else s.dmvPump
  let s := if s.rings.staging.isNone then s else s.stageRetry
  let s := (if s.rings.rings.isEmpty then s else s.fetchPump).csetFetch
  let s := s.fcTellAll.reportCheck
  let s := if s.mig.writes.isEmpty && s.mig.ctxs.isEmpty then s else s.migPump
  if s.mgmt.waiting.isEmpty then s else s.retryWaiting

/-- One round: every raise is decided, every consequence carried out in order; with none left, what may go on does. -/
def State.round (s : State) : State :=
  let s := s.decideRaises
  if s.actions.isEmpty then s.goOn
  else
    let l := s.actions
    ({ s with actions := [] }).each l State.runAction

/-- Nothing is left to be carried out. -/
def State.quiet (s : State) : Bool := s.actions.isEmpty && s.raises.isEmpty

/-- Rounds until nothing is left, at most n. -/
def State.rounds : Nat → State → State
  | 0, s => s
  | n + 1, s =>
    let t := s.round
    if s.quiet && t.quiet then t else rounds n t

/-- The consequences of an effect. -/
def State.settle (s : State) : State := s.rounds 64

/-- A port under PORT containment is OFF (R255, R327). -/
def State.enforce (s : State) : State :=
  { s with links := { s.links with ports := tmap port0 (fun p x =>
      if s.contained .port p ∧ x.sup ≠ .off then { x.unlinked with sup := .off, cap := none } else x) s.links.ports } }

/-- Blocks whose part of the state a step changed used their words in it (R55; DESIGN CHOICE, log 54): by the windows of the block, for
the port or hierarchy that changed, where the block keeps such. -/
def State.usedSince (s0 s : State) : State :=
  if s.regs.latActive.isEmpty && s.regs.latDirect.isEmpty then s
  else
    let block := fun (same : Bool) (w : List Nat) (s : State) => if same then s else s.useWords w none none
    let t := block (s.spine == s0.spine) [1] s
    let t := block (s.path == s0.path) [6, 7, 8] t
    let t := block (s.mig == s0.mig) [9] t
    let t := block (s.fabric == s0.fabric) [0xA] t
    let t := block (s.rings == s0.rings) [0xB] t
    let t := block (s.dmv == s0.dmv) [0xC] t
    let t := block (s.agd == s0.agd) [0xD] t
    let t := block (s.obs == s0.obs) [0xF, 0x10] t
    let t := block (s.counts == s0.counts) [0x10] t
    let t := block (s.power == s0.power) [0x11] t
    let t := block (s.mgmt == s0.mgmt) [0x12] t
    let t := block (s.glb == s0.glb) [0] t
    let t := t.each ((List.range 64).filter (fun p => s.port p != s0.port p || (s.portLanes p).any (fun l => s.lane l != s0.lane l)))
      (fun t p => t.useWords [2, 3] (some p) none)
    let t := t.each ((List.range 64).filter (fun p => s.swPort p != s0.swPort p)) (fun t p => t.useWords [7] (some p) none)
    let t := t.each ((List.range 64).filter (fun p => s.bfl p != s0.bfl p)) (fun t p => t.useWords [4] (some p) none)
    t.each ((List.range 48).filter (fun h => s.hier h != s0.hier h)) (fun t h => t.useWords [5, 6] none (some h))

/-- The end of a step that began at `s0`: a heat report goes on, consequences are carried out, the words
used are checked, Brodoth links pass their flit boundaries; the commands that wait are those of `s0`. -/
def State.finish (s0 s : State) : State :=
  let t := s0.usedSince s.heatPump.settle
  let t := if t.quiet then t else t.settle
  { (t.flitPump (t.cclkNow - s0.cclkNow)).enforce with actions := [], raises := [], pending := s0.pending }

end Sys2Proof.Machine
end

