-- ==== Sys2Proof/Machine/Events.lean ====
section
/-!
DEFINITION. Events that no other file holds: pins and resets of a host port (R73 to R75), configuration writes of a host to one bit
(R65, R72, R73, R76, R302), register writes by name (R10), and what the rows of the table carry beside them.
-/
namespace Sys2Proof.Machine

/-! ### Registers by name -/

/-- The BAR0 offset of a block's lock register. -/
def LockBlock.off : LockBlock → Nat
  | .hvh => 0x5C0004
  | .pwr => 0x1100C04
  | .mgt => 0x120000C

/-- The BAR0 offset of a LO word (R354). -/
def PmcPlace.off : PmcPlace → Nat
  | .counter n => 0x1000000 + 8 * n.val
  | .threshold n => 0x1020004 + 0x10 * n.val
  | .bin h b => 0x1040000 + 0x100 * h.val + 8 * b.val

/-- A write of GLB_MODE_CTL.REQ (R30). -/
def State.modeCtl (s : State) (path : Path) (req : Nat) : State := s.writeVia path 0x44 req

/-- A write of a lane's MARGIN_CMD (R259): its TYPE, and bits [29:0]. -/
def State.marginWrite (s : State) (path : Path) (l typ : Nat) (w : BitVec 30) : State :=
  s.writeVia path (0x210020 + 0x40 * l) (2 ^ 30 * typ + w.toNat)

/-- A write of MGT_FLASH_CMD (R399). -/
def State.flashWrite (s : State) (path : Path) (op a : Nat) : State := s.writeVia path 0x1200010 (2 ^ 28 * op + a)

/-! ### A host port's pins and resets (R73 to R75) -/

/-- PERST_Pnn_N asserts (R73): on a host port the hierarchy is reset and the port goes to OFF (R253). -/
def State.perstLow (s : State) (p : Nat) : State :=
  let s := s.modPort p (fun x => { x with perst := true })
  if s.role p ≠ .host then s
  else
    let s := s.each (s.hiersOn p) (fun s h => s.beginReset h true (fun x => { x with rstPerst := true }))
    if (s.port p).sup = .off then s else s.portOff p

/-- PERST_Pnn_N deasserts (R73). -/
def State.perstHigh (s : State) (p : Nat) : State :=
  let s := s.modPort p (fun x => { x with perst := false })
  (s.each (s.hiersAt p) (fun s h => s.modHier h (fun x => { x with rstPerst := false }))).push .recheck

/-- A hot reset received on a host port (R73): IN_RESET lasts until the link is active again. -/
def State.hotReset (s : State) (p : Nat) : State :=
  if s.portActive p && s.role p == .host then
    s.each (s.hiersOn p) (fun s h => s.beginReset h true (fun x => { x with rstLink := true }))
  else s

/-- HIERARCHY_RRS_END (R75): once IN_RESET has ended and the host port is in its active state. -/
def State.rrsEnd (s : State) (h : Nat) : State :=
  if (s.hier h).reinit && !(s.hier h).inReset && s.portActive (s.hier h).onPort then s.modHier h (fun x => { x with reinit := false })
  else s

/-! ### Configuration writes to one bit -/

/-- A host can write a function's configuration space now (R32, R57, R59, R75, R253). -/
def State.cfgReach (s : State) (h f : Nat) : Bool :=
  if s.glb.mode = .endpaper then decide (h = 48) && f == 1 && s.portActive 0
  else
    (s.hier h).active && decide (h < 48) && !s.rrs h && s.portActive (s.hier h).onPort
      && (f == 0 || (f == 1 && s.actF (offHvhCtl h) 24 24 == 1) || (2 ≤ f && s.vdsbShown h (f - 2)))

/-- A host's write of one byte of a word that changes one bit of it and leaves the others as they are. -/
def State.hostBit (s : State) (h f d k : Nat) (on : Bool) : State :=
  if s.cfgReach h f then s.cfgWrite h f d (setBits (s.cfgW h f d) k k (b2n on)) (2 ^ (k / 8)) else s

/-- A host's write of 1 to one RW1C bit of a word, with zeros beside it. -/
def State.hostClear (s : State) (h f d k : Nat) : State :=
  if s.cfgReach h f then s.cfgWrite h f d (2 ^ k) (2 ^ (k / 8)) else s

/-- A host reaches the configuration space of a data mover function (R281): F0000 in the home hierarchy, a virtual function below
its vDSB, while the function answers (R300). -/
def State.moverReach (s : State) (f : Nat) : Bool :=
  (s.dfn f).phase != .resetting &&
    (if f = 0 then (s.hier s.dmvHome).active && !s.rrs s.dmvHome
     else match s.dmvAttached f with | some (h, _) => !s.rrs h | none => false)

/-- A host's write of one byte of a data mover function's word that changes one bit of it. -/
def State.moverBit (s : State) (f d k : Nat) (on : Bool) : State :=
  if s.moverReach f then s.dmvCfgWrite f d (setBits (s.dmvW f d ^^^ dmvCfgReset d) k k (b2n on)) (2 ^ (k / 8)) else s

/-- Bus Master Enable of a function (R72, R299). -/
def State.masterBit (s : State) (x : MasterFn) (on : Bool) : State :=
  match x with
  | .host h f => s.hostBit h.val f.val 1 2 on
  | .mover fn => s.moverBit fn.val 1 2 on

/-- DPC_TRIGGER (R76): reason 3 is the host's software trigger; the others are errors that the trigger enable lets through (PCI
Express): 0 an unmasked uncorrectable error, 1 ERR_NONFATAL, 2 ERR_FATAL. -/
def State.dpcEvent (s : State) (h v reason : Nat) : State :=
  if reason = 3 then s.hostBit h (fnV v) 0x57 22 true
  else
    let en := bitsOf (s.cfgW h (fnV v) 0x57) 17 16
    if (s.hier h).active && s.vdsbShown h v && !s.dpcStatus h v && (en == 2 || (en == 1 && reason != 1)) then s.dpcTrigger h v reason
    else s

/-! ### The switch core -/

/-- A partner's credits as the arbiter asks for them (R121): for a fabric port those of its link (R226), else all types but those
that the partner leaves without credit. -/
def State.credits (s : State) (p : Nat) (starved : List OrdType) (e : QEntry) : Bool :=
  if s.role p = .fabric then s.bflAccepts p e else !starved.contains e.typ

/-- EGRESS_SEND (R121). -/
def State.egressSend (s : State) (p : Nat) (starved : List OrdType) (choice : Nat) (fate : SendFate) : State :=
  s.egress p (s.credits p starved) choice fate

/-- ROUTE_HOLD_RELEASE (R208): CCLK edges pass until the first release time of a port's queue. -/
def State.holdRelease (s : State) (p : Nat) : State :=
  match (s.queue p).filterMap (·.release) with
  | [] => s
  | t :: l => s.advance (l.foldl min t - s.cclkNow)

/-- Waiting commands, or migration contexts, whose fence has the kind named and is clear (R99, R100, R162). -/
def State.drainFence (s : State) : State :=
  (s.fencesClear (fun f => !f.kinds.any (fun k => match k with | .completion => true | _ => false))).migFences

/-- Waiting commands under a completion fence, and migrations that wait for one. -/
def State.completionFence (s : State) : State :=
  (s.fencesClear (fun f => f.kinds.any (fun k => match k with | .completion | .gather _ => true | _ => false))).migFences

/-- FENCE_EXPIRED (R101). -/
def State.fenceLimit (s : State) (x : FenceRef) : State :=
  match x with
  | .command k => s.fenceExpire k
  | .context c => s.migFenceExpire c.val

/-! ### Brodoth -/

/-- An acknowledgement, negative acknowledgement, credit update or XOFF map acts while the link is active (R216). -/
def State.whenActive (s : State) (p : Nat) (f : State → State) : State := if (s.bfl p).phase = .active then f s else s

/-- A LINK_RESET received (R239): in any state of a running link. -/
def State.linkResetRx (s : State) (p : Nat) : State := if (s.bfl p).phase = .down then s else s.bflReset p

/-- An FMP of one type received (R190). -/
def State.fmpOfType (s : State) (p typ : Nat) (f : Fmp) : State :=
  if f.typ.val = typ then s.whenActive p (fun s => s.fmpReceive p f) else s

/-! ### Slots -/

/-- A write of PWR_SLOTss_CTL with EN as given (R358). -/
def State.slotEnWrite (s : State) (path : Path) (k : Nat) (en : Bool) : State :=
  s.writeVia path (offSlot k) (2 ^ 31 * b2n en)

/-- A write of PWR_SLOTss_CTL.REARM that leaves EN as it stands. -/
def State.slotRearmWrite (s : State) (path : Path) (k : Nat) : State :=
  s.writeVia path (offSlot k) (2 ^ 31 * b2n (s.slotEn k) + 2 ^ 30)

/-! ### The data mover's page -/

/-- A write of a word of a function's page (R283), through any path that reaches it. -/
def State.pageWord (s : State) (f off : Nat) (w : Nat) : State := s.pageStore f off (leBytes 4 w)

/-- Write EN of a ring of a function, leaving its other fields as they stand (R288, R291). -/
def State.moverRing (s : State) (f k : Nat) (en : Bool) : State :=
  s.pageWord f (0x1010 + 0x40 * k) (setBits (s.dring f k).ctl.toNat 31 31 (b2n en))

/-! ### Ports outside -/

/-- An instruction of the test access port that shifts a value out (R418). -/
def State.tapShift (s : State) (i : TapInstr) (v : Nat) : State := if s.tapRuns then (s.tapLoad i).out (.tdo v) else s

/-- An MCTP control message (R396). -/
def State.mctpControl (s : State) (cmd : Nat) : State := if s.oobServed then s.out (.mctp cmd s.bootRomServes) else s

/-- An SPDM request, where SPDM is served (R385, R394). -/
def State.spdmRequest (s : State) (t : Transport) (f : State → State) : State := if s.spdmServed t then f s else s

/-- ENTDAA gives an address; SETDASA gives that of MGT_OOB_CTL.ADDR (R396). -/
def State.setdasa (s : State) : State := s.i3cAddress (s.dirF 0x1200060 6 0)

/-! ### SPDM requests in their order (R394, R395) -/

/-- A request that the negotiation of algorithms comes before. -/
def State.spdmAfterAlgs (s : State) (t : Transport) (f : State → State) : State := s.spdmWhen t (s.spdmOf t).algs f

/-- A request of an open session. -/
def State.spdmInSession (s : State) (t : Transport) (f : State → State) : State := s.spdmWhen t (s.spdmOf t).session f

/-- GET_DIGESTS. -/
def State.spdmDigests (s : State) (t : Transport) : State := s.spdmAfterAlgs t (fun s => s.spdmSay t .digests)

/-- GET_CERTIFICATE: slot 0 alone is there (R394). -/
def State.spdmCertificate (s : State) (t : Transport) (slot off len : Nat) : State :=
  s.spdmAfterAlgs t (fun s => s.spdmSay t (if slot = 0 then .certificate slot off len else .error 1))

/-- CHALLENGE. -/
def State.spdmChallenge (s : State) (t : Transport) : State := s.spdmAfterAlgs t (fun s => s.spdmSigned t false .challengeAuth)

/-- GET_MEASUREMENTS (R393). -/
def State.spdmMeasurements (s : State) (t : Transport) (secured : Bool) (k : Nat) (sign : Bool) : State :=
  s.spdmHeard t secured (fun s => s.spdmAfterAlgs t (fun s => s.spdmMeasure t secured k sign))

/-- KEY_EXCHANGE. -/
def State.spdmKeyExchange (s : State) (t : Transport) : State := s.spdmAfterAlgs t (fun s => s.spdmKey t)

/-- FINISH ends the handshake: the session is open. -/
def State.spdmFinish (s : State) (t : Transport) : State :=
  s.spdmWhen t (s.spdmOf t).handshake (fun s =>
    (s.modSpdm t (fun x => { x with handshake := false, session := true })).spdmSay t .finish)

/-- HEARTBEAT. -/
def State.spdmHeartbeat (s : State) (t : Transport) : State := s.spdmInSession t (fun s => s.spdmSay t .heartbeatAck)

/-- KEY_UPDATE. -/
def State.spdmKeyUpdate (s : State) (t : Transport) : State :=
  s.spdmInSession t (fun s => (s.modSpdm t (fun x => { x with keys := x.keys + 1 })).spdmSay t .keyUpdateAck)

/-- END_SESSION: with the session ends what GET_PQ_SIG would sign in it (R395). -/
def State.spdmEnd (s : State) (t : Transport) : State :=
  s.spdmInSession t (fun s => (s.modSpdm t (fun x => { x with session := false, signedIn := none })).spdmSay t .endSessionAck)

/-- GET_PQ_CHAIN (R395). -/
def State.spdmPqChain (s : State) (t : Transport) : State :=
  s.spdmSay t (if s.mgmt.keysGone then .error 5 else .pqChain)

end Sys2Proof.Machine
end

