-- ==== Sys2Proof/Machine/RowsBrodoth.lean ====
section
/-!
DEFINITION. The Brodoth link (R216 to R239).
The meaning of each row: its effect, then what follows from it within the step.
-/
namespace Sys2Proof.Machine

/-- DATA_FLIT (R230): A DATA flit is accepted in sequence and its packets counted, or discarded as a duplicate or gap. -/
def execDataFlit (p : Fin 64) (sq : Fin 4096) (mark : Nat) (slots : List FlitSlot) (l : LinkSlot) (s : State) : Host.Outcome State Fault Refusal :=
  .next (s.finish (s.dataFlit p.val sq.val mark slots l))

/-- MGMT_FLIT (R221): A MGMT flit is accepted in sequence and its FMPs delivered, or discarded as a duplicate or gap. -/
def execMgmtFlit (p : Fin 64) (sq : Fin 4096) (mark : Nat) (ws : List Quad) (l : LinkSlot) (s : State) : Host.Outcome State Fault Refusal :=
  .next (s.finish (s.mgmtFlit p.val sq.val mark ws l))

/-- IDLE_FLIT (R230): An IDLE flit's link slot is used, and a NAK is sent when its SEQ shows a lost flit. -/
def execIdleFlit (p : Fin 64) (sq : Fin 4096) (l : LinkSlot) (s : State) : Host.Outcome State Fault Refusal :=
  .next (s.finish (s.idleFlit p.val sq.val l))

/-- BAD_FLIT (R230): A flit whose CRC fails after FEC is discarded and counted, and a NAK is called for. -/
def execBadFlit (p : Fin 64) (reserved : Option (Fin 4096 × LinkSlot)) (s : State) : Host.Outcome State Fault Refusal :=
  .next (s.finish (s.badOrReserved p.val reserved))

/-- ACK (R232): An ACK removes acknowledged flits from the replay buffer. -/
def execAck (p : Fin 64) (a : Fin 4096) (s : State) : Host.Outcome State Fault Refusal :=
  .next (s.finish (s.whenActive p.val (fun s => s.bflAck p.val a.val)))

/-- NAK (R232): A NAK removes acknowledged flits and starts a replay from the flit after AN_SEQ, or after REPLAY_MAX forces a
full link reset. -/
def execNak (p : Fin 64) (a : Fin 4096) (s : State) : Host.Outcome State Fault Refusal :=
  .next (s.finish (s.whenActive p.val (fun s => s.bflNak p.val a.val)))

/-- CREDIT_UPDATE (R226): A newer cumulative credit value replaces LIMIT, and one out of range is a credit error. -/
def execCreditUpdate (p : Fin 64) (u : CreditUpd) (s : State) : Host.Outcome State Fault Refusal :=
  .next (s.finish (s.whenActive p.val (fun s => s.bflUpdate p.val u)))

/-- XOFF_MAP (R236): A link slot with FB = 1 puts the transmitter in fall-back and sets XOFF per channel. -/
def execXoffMap (p : Fin 64) (m : BitVec 49) (s : State) : Host.Outcome State Fault Refusal :=
  .next (s.finish (s.whenActive p.val (fun s => s.bflXoff p.val m.toNat)))

/-- NAK_TIMER_EXPIRED (R231): The NAK timer expires with NEXT unchanged and the NAK is sent again. -/
def execNakTimerExpired (p : Fin 64) (s : State) : Host.Outcome State Fault Refusal := .next (s.finish (s.nakTimer p.val))

/-- REPLAY_TIMER_EXPIRED (R232): The replay timer expires and all outstanding flits are replayed, or a full link reset follows
at REPLAY_MAX. -/
def execReplayTimerExpired (p : Fin 64) (s : State) : Host.Outcome State Fault Refusal :=
  .next (s.finish (s.whenActive p.val (fun s => s.startReplay p.val)))

/-- INIT_ID (R224): INIT_ID received in ID moves the port to CREDIT. -/
def execInitId (p : Fin 64) (sq : Fin 4096) (l : LinkSlot) (m : InitMsg) (s : State) : Host.Outcome State Fault Refusal :=
  .next (s.finish (s.linkFlit p.val sq.val l (fun s => s.bflInit p.val 1 m)))

/-- INIT_CREDIT (R224): INIT_CREDIT received records the partner's advertisement and moves the port to DONE. -/
def execInitCredit (p : Fin 64) (sq : Fin 4096) (l : LinkSlot) (m : InitMsg) (s : State) : Host.Outcome State Fault Refusal :=
  .next (s.finish (s.linkFlit p.val sq.val l (fun s => s.bflInit p.val 2 m)))

/-- INIT_DONE (R224): INIT_DONE received in DONE makes the port ACTIVE, sets the counters and sends a TIME_REQ; in ACTIVE an
init message causes a full link reset. -/
def execInitDone (p : Fin 64) (sq : Fin 4096) (l : LinkSlot) (m : InitMsg) (s : State) : Host.Outcome State Fault Refusal :=
  .next (s.finish (s.linkFlit p.val sq.val l (fun s => s.bflInit p.val 3 m)))

/-- INIT_TIMEOUT (R224): The init timer expires, the init-timeout source is raised and a full link reset follows. -/
def execInitTimeout (p : Fin 64) (s : State) : Host.Outcome State Fault Refusal := .next (s.finish (s.bflInitTimeout p.val))

/-- TIME_REQ (R237): A TIME_REQ received is answered with a TIME_RSP carrying t2 and t3 within 1 µs. -/
def execTimeReq (p : Fin 64) (sq : Fin 4096) (l : LinkSlot) (id : Fin 256) (delay : Nat) (s : State) : Host.Outcome State Fault Refusal :=
  .next (s.finish (s.linkFlit p.val sq.val l (fun s => s.bflTimeReq p.val id.val delay)))

/-- TIME_RSP (R38): A matching TIME_RSP gives t1 to t4, from which θ, D, RTT and HOPS are computed for the servo. -/
def execTimeRsp (p : Fin 64) (sq : Fin 4096) (l : LinkSlot) (id : Fin 256) (hopsState : Fin 256) (t2 : BitVec 80) (t3 : BitVec 80) (s : State) : Host.Outcome State Fault Refusal :=
  .next (s.finish (s.linkFlit p.val sq.val l (fun s => s.bflTimeRsp p.val id.val hopsState.val t2.toNat t3.toNat)))

/-- LINK_RESET (R239): A LINK_RESET received causes a full link reset. -/
def execLinkReset (p : Fin 64) (sq : Fin 4096) (l : LinkSlot) (s : State) : Host.Outcome State Fault Refusal :=
  .next (s.finish (s.linkFlit p.val sq.val l (fun s => s.linkResetRx p.val)))

/-- BFL_PORT_RESET (R239): BFL_Pnn_CMD.RESET starts a full link reset of the fabric port. -/
def execBflPortReset (path : Path) (p : Fin 64) (s : State) : Host.Outcome State Fault Refusal :=
  .next (s.finish (s.writeVia path (0x400004 + 0x100 * p.val) 1))

end Sys2Proof.Machine
end

