-- ==== Sys2Proof/Machine/RowsFabric.lean ====
section
/-!
DEFINITION. Fabric mode (R190 to R206).
The meaning of each row: its effect, then what follows from it within the step.
-/
namespace Sys2Proof.Machine

/-- HELLO (R197): A received HELLO updates the port's advertisement, the best candidate and the election state. -/
def execHello (p : Fin 64) (f : Fmp) (s : State) : Host.Outcome State Fault Refusal :=
  .next (s.finish (s.fmpOfType p.val 1 f))

/-- ADVERTISEMENT_LAPSE (R197): A port's advertisement, or an anchor's sequence, lapses after DEAD × HELLO MTICK. -/
def execAdvertisementLapse (p : Fin 64) (anchor : Bool) (s : State) : Host.Outcome State Fault Refusal :=
  .next (s.finish (s.adLapse p.val anchor))

/-- ELECTION_SETTLED (R198): The own candidacy stays best for SETTLE MTICK and the device enters ANCHOR. -/
def execElectionSettled (s : State) : Host.Outcome State Fault Refusal := .next (s.finish s.electionSettled)

/-- REPORT_SEND (R201): A scheduled REPORT leaves on the upstream port at its drawn MTICK edge. -/
def execReportSend (s : State) : Host.Outcome State Fault Refusal := .next (s.finish s.reportSend)

/-- REPORT (R194): A received REPORT is relayed upstream, or kept at the anchor as a discovery ring record with REPORT_ACK or
REPORT_BUSY. -/
def execReport (p : Fin 64) (f : Fmp) (s : State) : Host.Outcome State Fault Refusal :=
  .next (s.finish (s.fmpOfType p.val 2 f))

/-- REPORT_ACK (R201): A REPORT_ACK ends the outstanding REPORT and resets W. -/
def execReportAck (p : Fin 64) (f : Fmp) (s : State) : Host.Outcome State Fault Refusal :=
  .next (s.finish (s.fmpOfType p.val 3 f))

/-- REPORT_BUSY (R201): A REPORT_BUSY doubles W and reschedules the REPORT. -/
def execReportBusy (p : Fin 64) (f : Fmp) (s : State) : Host.Outcome State Fault Refusal :=
  .next (s.finish (s.fmpOfType p.val 4 f))

/-- REPORT_TIMEOUT (R201): No answer arrives within W MTICK, so W doubles and the REPORT is sent again. -/
def execReportTimeout (s : State) : Host.Outcome State Fault Refusal := .next (s.finish s.reportTimeout)

/-- LEAVE (R202): A received LEAVE is relayed upstream, or recorded in the anchor's discovery ring. -/
def execLeave (p : Fin 64) (f : Fmp) (s : State) : Host.Outcome State Fault Refusal :=
  .next (s.finish (s.fmpOfType p.val 7 f))

/-- CMD (R204): A CMD is accepted and executed as an unrestricted command, or refused with a channel status. -/
def execCmd (p : Fin 64) (f : Fmp) (s : State) : Host.Outcome State Fault Refusal := .next (s.finish (s.fmpOfType p.val 5 f))

/-- CMD_RSP (R203): A CMD_RSP with matching SEQ completes the issuing descriptor, or is discarded as late. -/
def execCmdRsp (p : Fin 64) (f : Fmp) (s : State) : Host.Outcome State Fault Refusal :=
  .next (s.finish (s.fmpOfType p.val 6 f))

end Sys2Proof.Machine
end

