-- ==== Sys2Proof/Machine/RowsHosts.lean ====
section
/-!
DEFINITION. Configuration, resets and functions of hosts (R63 to R76, R253, R255, R299 to R302).
The meaning of each row: its effect, then what follows from it within the step.
-/
namespace Sys2Proof.Machine

/-- CONFIG_REQUEST (R66): A host configuration read or write to the vUSB, a vDSB, the management endpoint, a data mover
function or a target below a vDSB is answered, retried or forwarded. -/
def execConfigRequest (p : Fin 64) (t : Tlp) (s : State) : Host.Outcome State Fault Refusal :=
  .next (s.finish (s.configRx p.val t))

/-- SECONDARY_BUS_RESET (R73): Setting Secondary Bus Reset in the vUSB or a vDSB resets the vDSBs and applies the reset
outcomes of R74. -/
def execSecondaryBusReset (h : Fin 48) (f : Fin 66) (on : Bool) (s : State) : Host.Outcome State Fault Refusal :=
  .next (s.finish (s.hostBit h.val f.val 15 22 on))

/-- RETRAIN_LINK (R65): Retrain Link in a vDSB of TYPE PORT starts Recovery on the device port. -/
def execRetrainLink (h : Fin 48) (v : Fin 64) (s : State) : Host.Outcome State Fault Refusal :=
  .next (s.finish (s.hostBit h.val (fnV v.val) 0x20 5 true))

/-- LINK_DISABLE (R255): Link Disable in a vDSB of TYPE PORT disables the device port and keeps it OFF until cleared. -/
def execLinkDisable (h : Fin 48) (v : Fin 64) (on : Bool) (s : State) : Host.Outcome State Fault Refusal :=
  .next (s.finish (s.hostBit h.val (fnV v.val) 0x20 4 on))

/-- DPC_TRIGGER (R76): A host-enabled or software DPC trigger contains the vDSB. -/
def execDpcTrigger (h : Fin 48) (v : Fin 64) (reason : Fin 4) (s : State) : Host.Outcome State Fault Refusal :=
  .next (s.finish (s.dpcEvent h.val v.val reason.val))

/-- DPC_TRIGGER_STATUS_CLEAR (R76): The host clears DPC Trigger Status: a PORT link retrains, other types report presence
again, unless a ledger record still contains it. -/
def execDpcTriggerStatusClear (h : Fin 48) (v : Fin 64) (s : State) : Host.Outcome State Fault Refusal :=
  .next (s.finish (s.hostClear h.val (fnV v.val) 0x58 0))

/-- BUS_MASTER_ENABLE_CLEAR (R72): Clearing Bus Master Enable gates the function's or bridge's requests from the edge of R66
and stops its rings as MASTER_OFF. -/
def execBusMasterEnableClear (x : MasterFn) (s : State) : Host.Outcome State Fault Refusal :=
  .next (s.finish (s.masterBit x false))

/-- BUS_MASTER_ENABLE_SET (R299): Setting Bus Master Enable again writes held completions, issues held writes and reruns
stopped descriptors. -/
def execBusMasterEnableSet (x : MasterFn) (s : State) : Host.Outcome State Fault Refusal :=
  .next (s.finish (s.masterBit x true))

/-- INITIATE_FUNCTION_LEVEL_RESET (R302): A function-level reset of a data mover function squashes it and leaves it enabled.
-/
def execInitiateFunctionLevelReset (fn : Fin 2048) (s : State) : Host.Outcome State Fault Refusal :=
  .next (s.finish (s.moverBit fn.val 0x1E 15 true))

/-- VF_ENABLE_CLEAR (R302): The home host clears VF Enable, so every virtual function is squashed and disabled. -/
def execVfEnableClear (s : State) : Host.Outcome State Fault Refusal := .next (s.finish (s.moverBit 0 0x5A 0 false))

/-- SQUASH_QUEUE_CLEARED (R300): Within 2 µs of a squash, every request of the function still queued in the device has been
removed. -/
def execSquashQueueCleared (fn : Fin 2048) (s : State) : Host.Outcome State Fault Refusal :=
  .next (s.finish (s.squashCleared fn.val))

/-- SQUASH_COMPLETE (R300): Ring contexts, MSI-X entries and page registers are reset, and the function answers configuration
requests again. -/
def execSquashComplete (fn : Fin 2048) (s : State) : Host.Outcome State Fault Refusal :=
  .next (s.finish (s.squashComplete fn.val))

/-- DRAIN_COMPLETE (R301): The last descriptor of a draining function completes and the function becomes DISABLED. -/
def execDrainComplete (fn : Fin 2048) (s : State) : Host.Outcome State Fault Refusal :=
  .next (s.finish (s.drainComplete fn.val))

/-- DRAIN_TIMEOUT (R301): DMV_CTL.DRAIN_TO passes before a drain finishes, so the function is squashed. -/
def execDrainTimeout (fn : Fin 2048) (s : State) : Host.Outcome State Fault Refusal :=
  .next (s.finish (s.drainTimeout fn.val))

/-- PERST_ASSERT (R73): PERST_Pnn_N asserts on a host port, resetting its hierarchy and sending the port to OFF. -/
def execPerstAssert (p : Fin 64) (s : State) : Host.Outcome State Fault Refusal := .next (s.finish (s.perstLow p.val))

/-- PERST_DEASSERT (R73): PERST_Pnn_N deasserts, ending IN_RESET and letting the port leave OFF. -/
def execPerstDeassert (p : Fin 64) (s : State) : Host.Outcome State Fault Refusal := .next (s.finish (s.perstHigh p.val))

/-- HOT_RESET_RECEIVED (R73): A hot reset received on a host port resets its hierarchy. -/
def execHotResetReceived (p : Fin 64) (s : State) : Host.Outcome State Fault Refusal := .next (s.finish (s.hotReset p.val))

/-- HIERARCHY_RRS_END (R75): Header reinitialisation ends, at most 2 ms after the reset ends, and configuration requests are
answered normally again. -/
def execHierarchyRrsEnd (h : Fin 48) (s : State) : Host.Outcome State Fault Refusal := .next (s.finish (s.rrsEnd h.val))

end Sys2Proof.Machine
end

