-- ==== Sys2Proof/Machine/RowsLinks.lean ====
section
/-!
DEFINITION. Stacks, port links and lanes (R250 to R262, R317).
The meaning of each row: its effect, then what follows from it within the step.
-/
namespace Sys2Proof.Machine

/-- REFCLK_LOST (R250): REFCLK_Sss shows no edge for 2 µs; REFCLK_OK goes to 0 and the stack's ports go to OFF. -/
def execRefclkLost (k : Fin 16) (s : State) : Host.Outcome State Fault Refusal := .next (s.finish (s.refclkLost k.val))

/-- REFCLK_RESTORED (R250): The stack clock runs for 1 ms, REFCLK_OK returns to 1 and ports leave OFF. -/
def execRefclkRestored (k : Fin 16) (s : State) : Host.Outcome State Fault Refusal := .next (s.finish (s.refclkBack k.val))

/-- CALIBRATION_DONE (R252): Calibration of a stack's lanes completes and CAL_DONE becomes 1. -/
def execCalibrationDone (k : Fin 16) (s : State) : Host.Outcome State Fault Refusal :=
  .next (s.finish (s.calibrationDone k.val))

/-- RECEIVER_DETECTED (R253): In DETECT a receiver is detected and the port enters TRAIN with its train timer started. -/
def execReceiverDetected (p : Fin 64) (s : State) : Host.Outcome State Fault Refusal :=
  .next (s.finish (s.receiverDetected p.val))

/-- LINK_TRAINED (R253): The LTSSM reaches L0 with an acceptable result, and the port goes UP or HELD and starts its data link
layer. -/
def execLinkTrained (p : Fin 64) (r : TrainResult) (s : State) : Host.Outcome State Fault Refusal :=
  .next (s.finish (s.linkTrained p.val r))

/-- TRAIN_TIMEOUT (R253): The train timer expires, or the result is unacceptable: a failed training is counted and the rate
cap may step down. -/
def execTrainTimeout (p : Fin 64) (r : Option TrainResult) (s : State) : Host.Outcome State Fault Refusal :=
  .next (s.finish (s.trainTimeout p.val r))

/-- RECOVERY_COMPLETE (R253): Recovery completes in L0 while UP and RECOVERY is incremented. -/
def execRecoveryComplete (p : Fin 64) (rate : Fin 16) (width : Fin 32) (s : State) : Host.Outcome State Fault Refusal :=
  .next (s.finish (s.recoveryComplete p.val rate.val width.val))

/-- PORT_RETRAIN (R254): PLK_Pnn_CMD.RETRAIN clears the rate cap and, in UP, starts Recovery to the highest rate. -/
def execPortRetrain (path : Path) (p : Fin 64) (s : State) : Host.Outcome State Fault Refusal :=
  .next (s.finish (s.writeVia path (0x300008 + 0x100 * p.val) 1))

/-- L0P_REQUEST (R257): A partner's L0p request is accepted to a new width when L0P_EN = 1. -/
def execL0pRequest (p : Fin 64) (width : Fin 32) (s : State) : Host.Outcome State Fault Refusal :=
  .next (s.finish (s.l0pRequest p.val width.val))

/-- ASPM_L1_ENTRY (R257): A device port accepts its partner's L1 entry and leaves at the first queued packet. -/
def execAspmL1Entry (p : Fin 64) (s : State) : Host.Outcome State Fault Refusal := .next (s.finish (s.l1Entry p.val))

/-- MARGIN_STOP (R259): A margin command of TYPE stop returns the offset to zero and STATE to IDLE. -/
def execMarginStop (path : Path) (l : Fin 256) (w : BitVec 30) (s : State) : Host.Outcome State Fault Refusal :=
  .next (s.finish (s.marginWrite path l.val 0 w))

/-- MARGIN_TIMING (R259): A margin command of TYPE timing starts a timing-offset measurement, or ends BUSY or ABORTED. -/
def execMarginTiming (path : Path) (l : Fin 256) (w : BitVec 30) (s : State) : Host.Outcome State Fault Refusal :=
  .next (s.finish (s.marginWrite path l.val 1 w))

/-- MARGIN_VOLTAGE (R259): A margin command of TYPE voltage starts a voltage-offset measurement, or ends BUSY or ABORTED. -/
def execMarginVoltage (path : Path) (l : Fin 256) (w : BitVec 30) (s : State) : Host.Outcome State Fault Refusal :=
  .next (s.finish (s.marginWrite path l.val 2 w))

/-- MARGIN_DONE (R259): A margin measurement ends after DWELL as PASSED or FAILED, or aborts when the port leaves UP. -/
def execMarginDone (l : Fin 256) (errors : Nat) (s : State) : Host.Outcome State Fault Refusal :=
  .next (s.finish (s.marginDone l.val errors))

/-- INJECT (R262): LNC_Lnnn_TCMD.INJECT inverts one transmitted bit. -/
def execInject (path : Path) (l : Fin 256) (s : State) : Host.Outcome State Fault Refusal :=
  .next (s.finish (s.writeVia path (0x21000C + 0x40 * l.val) 1))

/-- CLEAR (R262): LNC_Lnnn_TCMD.CLEAR sets ERRCNT, BITCNT and LOCKLOSS to zero. -/
def execClear (path : Path) (l : Fin 256) (s : State) : Host.Outcome State Fault Refusal :=
  .next (s.finish (s.writeVia path (0x21000C + 0x40 * l.val) 2))

/-- CHECKER_LOCK (R262): A checker sees 64 error-free bits and declares lock. -/
def execCheckerLock (l : Fin 256) (s : State) : Host.Outcome State Fault Refusal := .next (s.finish (s.checkerLock l.val))

/-- CHECKER_LOCK_LOSS (R262): 32 or more of 64 bits mismatch, so the checker drops lock and increments LOCKLOSS. -/
def execCheckerLockLoss (l : Fin 256) (bits : Nat) (errors : Nat) (s : State) : Host.Outcome State Fault Refusal :=
  .next (s.finish (s.checkerLoss l.val bits errors))

/-- LTSSM_RETURNS_TO_DETECT (R253): While a port is in TRAIN its LTSSM returns to Detect and finds no receiver, so the
supervisor goes to DETECT without counting a failed training. -/
def execLtssmReturnsToDetect (p : Fin 64) (s : State) : Host.Outcome State Fault Refusal :=
  .next (s.finish (s.trainDetect p.val))

/-- CORRECTABLE_LINK_ERROR (R317): A PCI Express or CXL link of a port reports a receiver error, bad TLP, bad DLLP, replay
timer timeout or REPLAY_NUM rollover, raising source p = 4 and logging AER. -/
def execCorrectableLinkError (p : Fin 64) (c : LinkCause) (s : State) : Host.Outcome State Fault Refusal :=
  .next (s.finish (s.linkCorrectable p.val c))

/-- UNCORRECTABLE_LINK_ERROR (R317): A PCI Express or CXL link of a port reports a data link or flow control protocol error,
receiver overflow or malformed TLP, raising source p = 6 whose CONTAIN-LINK default retrains the port. -/
def execUncorrectableLinkError (p : Fin 64) (c : LinkCause) (s : State) : Host.Outcome State Fault Refusal :=
  .next (s.finish (s.linkUncorrectable p.val c))

end Sys2Proof.Machine
end

