-- ==== Sys2Proof/Machine/RowsMgmt.lean ====
section
/-!
DEFINITION. The management complex (R374 to R392, R399).
The meaning of each row: its effect, then what follows from it within the step.
-/
namespace Sys2Proof.Machine

/-- PREFER (R383): MGT_START_CTL PREFER_x verifies slot x and appends a PREFERENCE record. -/
def execPrefer (path : Path) (slotB : Bool) (s : State) : Host.Outcome State Fault Refusal :=
  .next (s.finish (s.writeVia path 0x1200008 (1 + b2n slotB)))

/-- TRIAL (R383): MGT_START_CTL TRIAL_x verifies slot x and appends a PREFERENCE record with TRIAL = 1. -/
def execTrial (path : Path) (slotB : Bool) (s : State) : Host.Outcome State Fault Refusal :=
  .next (s.finish (s.writeVia path 0x1200008 (3 + b2n slotB)))

/-- CLEAR_FAILS (R383): CLEAR_FAILS in ENDPAPER appends FAILS_CLEARED with FAILS = 0, and is refused elsewhere. -/
def execClearFails (path : Path) (s : State) : Host.Outcome State Fault Refusal :=
  .next (s.finish (s.writeVia path 0x1200008 5))

/-- PREFERENCE_VERIFIED (R383): The slot verification of PREFER or TRIAL ends and its record is appended or the write refused.
-/
def execPreferenceVerified (ed : Bool) (pq : Bool) (s : State) : Host.Outcome State Fault Refusal :=
  .next (s.finish (s.prefVerified ed pq))

/-- READ_PAGE (R384): MGT_FLASH_CMD READ_PAGE reads a 256-byte page into the buffer. -/
def execReadPage (path : Path) (a : Fin 16777216) (s : State) : Host.Outcome State Fault Refusal :=
  .next (s.finish (s.flashWrite path 1 a.val))

/-- PROGRAM_PAGE (R384): MGT_FLASH_CMD PROGRAM_PAGE programs a page in an image slot, or is refused. -/
def execProgramPage (path : Path) (a : Fin 16777216) (s : State) : Host.Outcome State Fault Refusal :=
  .next (s.finish (s.flashWrite path 2 a.val))

/-- ERASE_SECTOR (R384): MGT_FLASH_CMD ERASE_SECTOR erases a 4 KiB sector in an image slot, or is refused. -/
def execEraseSector (path : Path) (a : Fin 16777216) (s : State) : Host.Outcome State Fault Refusal :=
  .next (s.finish (s.flashWrite path 3 a.val))

/-- FLASH_OP_DONE (R384): A flash operation finishes, clearing BUSY and setting ERROR on failure. -/
def execFlashOpDone (err : Bool) (s : State) : Host.Outcome State Fault Refusal := .next (s.finish (s.flashEnd err))

/-- FLASH_OP_OVERRUN (R384): A flash operation overruns its time and ERROR is set. -/
def execFlashOpOverrun (s : State) : Host.Outcome State Fault Refusal := .next (s.finish (s.flashEnd true))

/-- COLOPHON_APPEND (R386): A queued colophon record is written at the next SEQ, with background sector erase. -/
def execColophonAppend (s : State) : Host.Outcome State Fault Refusal := .next (s.finish s.coloAppend)

/-- COLOPHON_SELECT (R399): Writing MGT_COLO_IDX.BACK selects a colophon record for reading. -/
def execColophonSelect (path : Path) (back : Fin 1024) (s : State) : Host.Outcome State Fault Refusal :=
  .next (s.finish (s.writeVia path 0x1200020 back.val))

/-- COLOPHON_READY (R399): The selected record is loaded into MGT_COLO_Dk and READY becomes 1. -/
def execColophonReady (s : State) : Host.Outcome State Fault Refusal := .next (s.finish s.coloLoad)

/-- CSET_SUBMIT (R390): A command set is read, checked whole, applied in order, and the NONCE is redrawn. -/
def execCsetSubmit (ed : Bool) (pq : Bool) (s : State) : Host.Outcome State Fault Refusal :=
  .next (s.finish (s.csetRun ed pq))

/-- ADVANCE (R389): ADVANCE programs the new life-cycle state, wipes the secure region, appends LIFECYCLE and restarts. -/
def execAdvance (s : State) : Host.Outcome State Fault Refusal := .next (s.finish (s.csetApply 1))

/-- PROGRAM_SLOT (R390): PROGRAM_SLOT programs a key digest into an OTP key slot. -/
def execProgramSlot (s : State) : Host.Outcome State Fault Refusal := .next (s.finish (s.csetApply 2))

/-- REVOKE_SLOT (R390): REVOKE_SLOT revokes a key slot unless none usable would remain. -/
def execRevokeSlot (s : State) : Host.Outcome State Fault Refusal := .next (s.finish (s.csetApply 3))

/-- RAISE_FLOOR (R390): RAISE_FLOOR raises the OTP SVN floor. -/
def execRaiseFloor (s : State) : Host.Outcome State Fault Refusal := .next (s.finish (s.csetApply 4))

/-- DEBUG_ENABLE (R390): DEBUG_ENABLE enables the debug master in DEPLOYED until cold reset. -/
def execDebugEnable (s : State) : Host.Outcome State Fault Refusal := .next (s.finish (s.csetApply 5))

/-- TAMPER (R391): A TAMPER input goes low and is latched; a record is appended and the secure region may be wiped. -/
def execTamper (k : Fin 2) (s : State) : Host.Outcome State Fault Refusal := .next (s.finish (s.tamper k.val))

/-- VOLTAGE_GLITCH (R391): A VDD_CORE or VDD_AUX excursion is recorded and the secure region wiped; a start in the boot ROM
fails. -/
def execVoltageGlitch (aux : Bool) (s : State) : Host.Outcome State Fault Refusal :=
  .next (s.finish (s.glitch (2 + b2n aux) 1529))

/-- CLOCK_GLITCH (R391): An MPCLK period out of bounds is recorded and the secure region wiped. -/
def execClockGlitch (s : State) : Host.Outcome State Fault Refusal := .next (s.finish (s.glitch 4 1530))

/-- DEBUG_ACCESS (R392): A debug master access is served or denied by life-cycle state, and a denial is counted and raised. -/
def execDebugAccess (a : Word) (w : Option Word) (s : State) : Host.Outcome State Fault Refusal :=
  .next (s.finish (s.debugAccess a.toNat (w.map BitVec.toNat)))

/-- BRIDGE_LOCK_OPEN (R376): BRG_LOCK = 1 gives the locking processor sole use of the data-plane register path. -/
def execBridgeLockOpen (proc : Fin 2) (s : State) : Host.Outcome State Fault Refusal := .next (s.finish (s.lockOpen proc))

/-- BRIDGE_LOCK_CLOSE (R376): BRG_LOCK = 0 closes the locked sequence. -/
def execBridgeLockClose (proc : Fin 2) (s : State) : Host.Outcome State Fault Refusal :=
  .next (s.finish (s.lockClose proc))

/-- BRIDGE_LOCK_LIMIT (R376): A locked sequence is still open after 400 MPCLK, so the bridge closes it and counts it. -/
def execBridgeLockLimit (s : State) : Host.Outcome State Fault Refusal := .next (s.finish s.lockLimit)

/-- BRIDGE_READ_TIMEOUT (R374): A bridge read has no completion after 64 µs; it receives an error and source 1,533 is raised.
-/
def execBridgeReadTimeout (s : State) : Host.Outcome State Fault Refusal := .next (s.finish s.bridgeTimeout)

/-- CROSSING_RETRY (R377): A management-side request that lost a crossing is reissued after its drawn wait. -/
def execCrossingRetry (s : State) : Host.Outcome State Fault Refusal := .next (s.finish s.crossing)

end Sys2Proof.Machine
end

