-- ==== Sys2Proof/Machine/RowsMigrate.lean ====
section
/-!
DEFINITION. Folio migration and heat (R169 to R184).
The meaning of each row: its effect, then what follows from it within the step.
-/
namespace Sys2Proof.Machine

/-- COPY_PASS_COMPLETE (R171): Every copy write of a pass is confirmed; the context goes to FINAL, starts another pass, or
ends NO_CONVERGE. -/
def execCopyPassComplete (c : Fin 64) (s : State) : Host.Outcome State Fault Refusal :=
  .next (s.finish (s.passComplete c.val))

/-- GRANULE_COPY (R172): Within its rate and bookmark limits, the engine issues source reads and destination writes for the
next granule. -/
def execGranuleCopy (c : Fin 64) (s : State) : Host.Outcome State Fault Refusal := .next (s.finish (s.copyGranule c.val))

/-- SETTLE_COMPLETE (R169): The settle of the previous pass parity completes and copying of the pass begins. -/
def execSettleComplete (c : Fin 64) (s : State) : Host.Outcome State Fault Refusal := .next (s.finish (s.settleDone c.val))

/-- FLIP_EDGE (R175): The final copy writes are confirmed, the folio entry is replaced at one edge and held writes are
released under the new entry. -/
def execFlipEdge (c : Fin 64) (s : State) : Host.Outcome State Fault Refusal := .next (s.finish (s.flip c.val))

/-- HOLD_EXPIRED (R174): The hold timer reaches HOLD_MAX: the final step is abandoned and a new pass begins, or the migration
ends HOLD_EXPIRED. -/
def execHoldExpired (c : Fin 64) (s : State) : Host.Outcome State Fault Refusal := .next (s.finish (s.holdExpire c.val))

/-- HEAT_EPOCH_BOUNDARY (R181): Spine time crosses an epoch boundary; counting moves to the other bank and the closed bank's
report begins. -/
def execHeatEpochBoundary (s : State) : Host.Outcome State Fault Refusal := .next (s.finish s.heatEdge)

/-- HEAT_REPORT_COMPLETE (R184): A heat report's writes end with Q0 rewritten with VALID = 1. -/
def execHeatReportComplete (s : State) : Host.Outcome State Fault Refusal := .next (s.finish s.heatComplete)

end Sys2Proof.Machine
end

