-- ==== Sys2Proof/Machine/RowsMover.lean ====
section
/-!
DEFINITION. The data mover (R283 to R302).
The meaning of each row: its effect, then what follows from it within the step.
-/
namespace Sys2Proof.Machine

/-- DMV_SQ_DOORBELL (R291): A data mover ring's SQ doorbell advances P, or is refused and stops the ring. -/
def execDmvSqDoorbell (fn : Fin 2048) (k : Fin 64) (idx : Fin 65536) (s : State) : Host.Outcome State Fault Refusal :=
  .next (s.finish (s.pageWord fn.val (8 * k.val) idx.val))

/-- DMV_CQ_DOORBELL (R291): A data mover ring's CQ doorbell advances H, or is refused and stops the ring. -/
def execDmvCqDoorbell (fn : Fin 2048) (k : Fin 64) (idx : Fin 65536) (s : State) : Host.Outcome State Fault Refusal :=
  .next (s.finish (s.pageWord fn.val (8 * k.val + 4) idx.val))

/-- DMV_RING_ENABLE (R288): Writing DMV_Kkk_CTL.EN = 1 takes a ring context, or sets NO_RESOURCE. -/
def execDmvRingEnable (fn : Fin 2048) (k : Fin 64) (s : State) : Host.Outcome State Fault Refusal :=
  .next (s.finish (s.moverRing fn.val k.val true))

/-- DMV_RING_DISABLE (R291): Writing DMV_Kkk_CTL.EN = 0 drains the data mover ring to DISABLED. -/
def execDmvRingDisable (fn : Fin 2048) (k : Fin 64) (s : State) : Host.Outcome State Fault Refusal :=
  .next (s.finish (s.moverRing fn.val k.val false))

/-- MSIX_MASK_WRITE (R288): Unmasking or masking a function's MSI-X entry backs or releases a vector in elastic mode. -/
def execMsixMaskWrite (fn : Fin 2048) (e : Fin 256) (masked : Bool) (s : State) : Host.Outcome State Fault Refusal :=
  .next (s.finish (s.pageWord fn.val (0x8000 + 16 * e.val + 12) (b2n masked)))

/-- DESCRIPTOR_START (R296): A data mover descriptor starts when the in-progress and FENCE limits allow. -/
def execDescriptorStart (fn : Fin 2048) (k : Fin 64) (s : State) : Host.Outcome State Fault Refusal :=
  .next (s.finish (s.descriptorStart fn.val k.val))

/-- DMV_NOP (R292): Data mover NOP completes with RESULT zero. -/
def execDmvNop (s : State) : Host.Outcome State Fault Refusal := .next (s.finish s.dmvNop)

/-- COPY (R292): COPY reads SRC and writes DST for LENGTH bytes. -/
def execCopy (s : State) : Host.Outcome State Fault Refusal := .next (s.finish (s.dmvIssue 1))

/-- FILL (R292): FILL writes the 8-byte PATTERN repeatedly over DST. -/
def execFill (s : State) : Host.Outcome State Fault Refusal := .next (s.finish (s.dmvIssue 2))

/-- COMPARE (R292): COMPARE reads both operands and reports the first differing byte. -/
def execCompare (s : State) : Host.Outcome State Fault Refusal := .next (s.finish (s.dmvIssue 3))

/-- DIGEST (R294): DIGEST computes CRC-32C or CRC-64 over SRC, optionally chained and checked. -/
def execDigest (s : State) : Host.Outcome State Fault Refusal := .next (s.finish (s.dmvIssue 4))

/-- COPY_DIGEST (R294): COPY_DIGEST copies SRC to DST and digests the bytes copied. -/
def execCopyDigest (s : State) : Host.Outcome State Fault Refusal := .next (s.finish (s.dmvIssue 5))

end Sys2Proof.Machine
end

