-- ==== Sys2Proof/Machine/RowsObserve.lean ====
section
/-!
DEFINITION. Counters, captures and mirrors (R262, R335, R340, R346, R347).
The meaning of each row: its effect, then what follows from it within the step.
-/
namespace Sys2Proof.Machine

/-- PMC_INSTANT (R347): A scheduled SNAPSHOT, FREEZE or THAW instant is reached, or moved by a forward step, and is taken. -/
def execPmcInstant (t : Nat) (s : State) : Host.Outcome State Fault Refusal := .next (s.finish (s.pmcInstant t))

/-- PMC_CNT_LO_READ (R346): A read of a counter, threshold or bin LO word latches its upper bits from the view in force. -/
def execPmcCntLoRead (path : Path) (x : PmcPlace) (s : State) : Host.Outcome State Fault Refusal :=
  .next (s.finish (s.readVia path x.off))

/-- BITCNT_LO_READ (R262): A read of LNC_Lnnn_BITCNT_LO latches bits [47:32] into the requester's latch set. -/
def execBitcntLoRead (path : Path) (l : Fin 256) (s : State) : Host.Outcome State Fault Refusal :=
  .next (s.finish (s.readVia path (0x210018 + 0x40 * l.val)))

/-- CAPTURE_RECORD_WRITE (R335): A queued capture record is written to its ring, or dropped in STOP mode when the ring is
full. -/
def execCaptureRecordWrite (s : State) : Host.Outcome State Fault Refusal := .next (s.finish s.captureWrite)

/-- MIRROR_COPY_SEND (R340): A queued mirror copy leaves its analysis port as a posted write into the session window. -/
def execMirrorCopySend (p : Fin 64) (cred : Bool) (s : State) : Host.Outcome State Fault Refusal :=
  .next (s.finish (s.mirrorSend p.val cred))

end Sys2Proof.Machine
end

