-- ==== Sys2Proof/Machine/RowsPackets.lean ====
section
/-!
DEFINITION. Packets that come in, and what becomes of their bookmarks (R67, R77 to R106, R424).
The meaning of each row: its effect, then what follows from it within the step.
-/
namespace Sys2Proof.Machine

/-- HOST_MEMORY_REQUEST (R88): A memory request from a host port is decoded, guarded, converted or split, and enqueued,
refused or answered. -/
def execHostMemoryRequest (p : Fin 64) (t : Tlp) (s : State) : Host.Outcome State Fault Refusal :=
  .next (s.finish (s.hostMemory p.val t))

/-- CXL_MEM_REQUEST (R84): A host CXL.mem request is routed by the folio table with a bookmark, or answered as unmapped, not
permitted or poison. -/
def execCxlMemRequest (p : Fin 64) (t : Tlp) (s : State) : Host.Outcome State Fault Refusal :=
  .next (s.finish (s.hostCxlMem p.val t))

/-- IO_REQUEST (R67): An I/O request from any host is answered with Unsupported Request. -/
def execIoRequest (p : Fin 64) (rid : BitVec 16) (tag : Fin 16384) (s : State) : Host.Outcome State Fault Refusal :=
  .next (s.finish (s.ioRequest p.val rid tag.val))

/-- MESSAGE_RECEIVED (R87): A message from a host or device port is routed by its routing field or to the owning hierarchy. -/
def execMessageReceived (p : Fin 64) (t : Tlp) (s : State) : Host.Outcome State Fault Refusal :=
  .next (s.finish (s.messageRx p.val t))

/-- DEVICE_PORT_REQUEST (R104): A memory request from a device port goes upstream under DEC_Pnn_UPk.MODE, to a peer, or is
refused. -/
def execDevicePortRequest (p : Fin 64) (t : Tlp) (s : State) : Host.Outcome State Fault Refusal :=
  .next (s.finish (s.devicePortRequest p.val t))

/-- BISNP_RECEIVED (R84): A back-invalidate snoop from an expander is forwarded with a bookmark to the host port that its BI-
ID names. -/
def execBisnpReceived (p : Fin 64) (t : Tlp) (s : State) : Host.Outcome State Fault Refusal :=
  .next (s.finish (s.biSnpRx p.val t))

/-- FABRIC_PACKET_RECEIVED (R106): A data-plane packet from a fabric port is routed by destination fabric ID, delivered to the
internal edge, or dropped. -/
def execFabricPacketReceived (p : Fin 64) (src : Fin 4096) (dst : Fin 4096) (ttl : Fin 16) (tc : Fin 8) (ld : Option (Fin 16)) (t : Tlp) (s : State) : Host.Outcome State Fault Refusal :=
  .next (s.finish (s.fabricPacket { port := p.val, tlp := t, srcFid := src.val, dstFid := some dst.val, ttl := ttl.val, tc := tc.val, ld := ld.map (fun x => x.val) }))

/-- COMPLETION_RECEIVED (R424): A completion or CXL.mem response is matched by egress tag to its bookmark, member and line,
and then returned, merged or failed over. -/
def execCompletionReceived (p : Fin 64) (t : Tlp) (s : State) : Host.Outcome State Fault Refusal :=
  .next (s.finish (s.completionRx p.val t))

/-- LOCKED_READ (R80): An MRdLk is accepted and locks its egress port for the hierarchy, waits for the lock, or is refused
with Unsupported Request. -/
def execLockedRead (p : Fin 64) (t : Tlp) (s : State) : Host.Outcome State Fault Refusal :=
  .next (s.finish (s.lockedRead p.val t))

/-- UNLOCK (R80): The host's Unlock message is forwarded and frees the lock. -/
def execUnlock (p : Fin 64) (s : State) : Host.Outcome State Fault Refusal := .next (s.finish (s.unlockRx p.val))

/-- LOCK_EXPIRED (R80): HVH_TIMER_CTL.LOCK_LIMIT expires; the device sends Unlock, raises lock-expired and counts the event.
-/
def execLockExpired (p : Fin 64) (s : State) : Host.Outcome State Fault Refusal := .next (s.finish (s.lockExpired p.val))

/-- PREFETCH_LIFE_EXPIRED (R82): Prefetched data is not hit within PF_LIFE and is discarded and counted. -/
def execPrefetchLifeExpired (h : Fin 48) (addr : BitVec 64) (s : State) : Host.Outcome State Fault Refusal :=
  .next (s.finish (s.pfDiscard (fun x => x.hier == h.val && x.addr == addr.toNat)))

/-- COMPLETION_TIMEOUT (R77): A bookmark timer expires and the requester receives Completer Abort, poison or nothing, with a
completion-timeout source raised. -/
def execCompletionTimeout (b : Fin 65536) (s : State) : Host.Outcome State Fault Refusal :=
  .next (s.finish (s.bmTimeout b.val))

/-- QUARANTINE_END (R78): The quarantine of an expired bookmark ends, and the bookmark and its egress tag return to the pool.
-/
def execQuarantineEnd (b : Fin 65536) (s : State) : Host.Outcome State Fault Refusal :=
  .next (s.finish (s.quarantineEnd b.val))

/-- NULLIFIED_PACKET_RECEIVED (R127): A packet nullified by its partner, or tail-marked on a Brodoth link, is treated as never
sent and counted. -/
def execNullifiedPacketReceived (p : Fin 64) (part : Option VoidRx) (s : State) : Host.Outcome State Fault Refusal :=
  .next (s.finish (s.nullifiedRx p.val part))

/-- MERGE_TIMER_EXPIRED (R151): A merge timer expires, every pending member counts as failed, and the merge is decided. -/
def execMergeTimerExpired (b : Fin 65536) (s : State) : Host.Outcome State Fault Refusal :=
  .next (s.finish (s.mergeTimeout b.val))

/-- FAILOVER_TIMER_EXPIRED (R152): A failover timer expires, the member moves to LOST and the read is reissued. -/
def execFailoverTimerExpired (b : Fin 65536) (s : State) : Host.Outcome State Fault Refusal :=
  .next (s.finish (s.failoverTimeout b.val))

end Sys2Proof.Machine
end

