-- ==== Sys2Proof/Machine/RowsPower.lean ====
section
/-!
DEFINITION. Slot power channels and feeds (R358 to R368).
The meaning of each row: its effect, then what follows from it within the step.
-/
namespace Sys2Proof.Machine

/-- SLOT_ENABLE (R358): Writing PWR_SLOTss_CTL.EN = 1 moves the channel from OFF to EMPTY outside ENDPAPER. -/
def execSlotEnable (path : Path) (k : Fin 16) (s : State) : Host.Outcome State Fault Refusal :=
  .next (s.finish (s.slotEnWrite path k.val true))

/-- SLOT_DISABLE (R358): Writing EN = 0 asserts PERST, turns the gates off after at least 100 µs, and sends the channel to
OFF. -/
def execSlotDisable (path : Path) (k : Fin 16) (s : State) : Host.Outcome State Fault Refusal :=
  .next (s.finish (s.slotEnWrite path k.val false))

/-- REARM (R358): Writing REARM leaves LATCHED for PENDING or EMPTY and clears RETRIES. -/
def execRearm (path : Path) (k : Fin 16) (s : State) : Host.Outcome State Fault Refusal :=
  .next (s.finish (s.slotRearmWrite path k.val))

/-- SLOT_PRESENCE_SEEN (R358): A card is seen in an EMPTY slot and the presence debounce starts. -/
def execSlotPresenceSeen (k : Fin 16) (s : State) : Host.Outcome State Fault Refusal := .next (s.finish (s.slotSeen k.val))

/-- SLOT_PRESENCE_LOST (R362): Presence is lost: the channel powers down to EMPTY where R362 says, and the absence timer
starts. -/
def execSlotPresenceLost (k : Fin 16) (s : State) : Host.Outcome State Fault Refusal := .next (s.finish (s.slotLost k.val))

/-- SLOT_DEBOUNCE_DONE (R358): Presence has held for PRES_DEB and the channel goes to PENDING. -/
def execSlotDebounceDone (k : Fin 16) (s : State) : Host.Outcome State Fault Refusal :=
  .next (s.finish (s.slotDebounced k.val))

/-- PCHG_TIMEOUT (R358): The pre-charge timer expires and the channel trips with cause PCHG_TIMEOUT. -/
def execPchgTimeout (k : Fin 16) (s : State) : Host.Outcome State Fault Refusal := .next (s.finish (s.slotPchgTimeout k.val))

/-- RAMP_TIMEOUT (R358): The 16-MTICK ramp timer expires and the channel trips with cause RAMP_TIMEOUT. -/
def execRampTimeout (k : Fin 16) (s : State) : Host.Outcome State Fault Refusal := .next (s.finish (s.slotRampTimeout k.val))

/-- OVERCURRENT (R358): The fault timer expires while the current is held at ILIM and the channel trips with cause
OVERCURRENT. -/
def execOvercurrent (k : Fin 16) (s : State) : Host.Outcome State Fault Refusal := .next (s.finish (s.slotOvercurrent k.val))

/-- SHORT (R358): The comparator finds current at or above 2 × ILIM and the channel trips with cause SHORT. -/
def execShort (k : Fin 16) (s : State) : Host.Outcome State Fault Refusal := .next (s.finish (s.slotShort k.val))

/-- SLOT_UNDERVOLTAGE (R364): VIN falls below VIN_UV by comparator and active channels return to PENDING without a retry. -/
def execSlotUndervoltage (s : State) : Host.Outcome State Fault Refusal := .next (s.finish s.slotUv)

/-- SLOT_RETRY_TIMER_EXPIRED (R358): The retry timer has expired with Tj at or below TJ_RESTART and presence held, so the
channel goes to PENDING and RETRIES increments. -/
def execSlotRetryTimerExpired (k : Fin 16) (s : State) : Host.Outcome State Fault Refusal :=
  .next (s.finish (s.slotRetry k.val))

/-- SLOT_PERST_RELEASE (R359): 160 MTICK after power-good, SLOTss_PERST_N is released. -/
def execSlotPerstRelease (k : Fin 16) (s : State) : Host.Outcome State Fault Refusal := .next (s.finish (s.slotRelease k.val))

/-- GOOD_RESET (R358): PWRGD has held for GOOD_RESET seconds without a trip and RETRIES is cleared. -/
def execGoodReset (k : Fin 16) (s : State) : Host.Outcome State Fault Refusal := .next (s.finish (s.slotGood k.val))

/-- ABSENCE_TIMEOUT (R362): A card stays absent for 200 ms: RETRIES clears, and FAULT_WAIT or LATCHED goes to EMPTY. -/
def execAbsenceTimeout (k : Fin 16) (s : State) : Host.Outcome State Fault Refusal := .next (s.finish (s.slotAbsent k.val))

/-- FEED_GOOD (R366): A feed stays in its window for 8 MTICK and becomes good, which may ramp it from NONE. -/
def execFeedGood (feedB : Bool) (s : State) : Host.Outcome State Fault Refusal := .next (s.finish (s.feedGood feedB))

/-- FEED_NOT_GOOD (R366): A feed stays out of its window for 1 µs; the active gate turns off into BREAK when the other feed is
good. -/
def execFeedNotGood (feedB : Bool) (s : State) : Host.Outcome State Fault Refusal := .next (s.finish (s.feedBad feedB))

/-- FEED_RAMP_TIMEOUT (R366): VBUS does not reach the feed within 16 MTICK, so the gate turns off and the feed is barred for 1
s. -/
def execFeedRampTimeout (s : State) : Host.Outcome State Fault Refusal := .next (s.finish s.feedRampTimeout)

/-- FEED_BAR_END (R366): The 1,600-MTICK bar of a faulted feed ends. -/
def execFeedBarEnd (feedB : Bool) (s : State) : Host.Outcome State Fault Refusal := .next (s.finish (s.feedBarEnd feedB))

/-- BREAK_DEAD_TIME_END (R366): BBM µs after the old gate turned off, the other feed's gate is driven and the switch is
counted. -/
def execBreakDeadTimeEnd (s : State) : Host.Outcome State Fault Refusal := .next (s.finish s.breakEnd)

/-- FEED_REVERT (R366): The primary feed is good for RETURN_DEB with REVERT = 1, so the load moves back to it through BREAK.
-/
def execFeedRevert (s : State) : Host.Outcome State Fault Refusal := .next (s.finish s.feedRevert)

/-- WARN_RELEASE (R368): After WARN_MIN with no cause present, PWR_WARN_N is released at an MTICK edge. -/
def execWarnRelease (s : State) : Host.Outcome State Fault Refusal := .next (s.finish s.warnRelease)

/-- FEED_BELOW_WARN (R368): The active feed falls below PWR_FEED_THR.WARN while still good, and PWR_WARN_N is asserted within
1 µs with WARNS counted and source 1,523 raised. -/
def execFeedBelowWarn (s : State) : Host.Outcome State Fault Refusal := .next (s.finish s.feedBelowWarn)

/-- CURRENT_REACHES_ILIM (R363): A slot channel's current reaches ILIM in RAMP or ON, the gate holds it there and the fault
timer starts, withdrawing PWRGD within 1 µs if it was asserted since the last MTICK edge. -/
def execCurrentReachesIlim (k : Fin 16) (s : State) : Host.Outcome State Fault Refusal := .next (s.finish (s.slotLimit k.val))

end Sys2Proof.Machine
end

