-- ==== Sys2Proof/Machine/RowsRings.lean ====
section
/-!
DEFINITION. Command rings (R96, R108, R161 to R170, R264 to R278, R325 to R337, R347).
The meaning of each row: its effect, then what follows from it within the step.
-/
namespace Sys2Proof.Machine

/-- SQ_DOORBELL (R265): A CMR_Rrr_SQ_DB write advances P, or is refused and stops the ring with BAD_DOORBELL. -/
def execSqDoorbell (path : Path) (r : Fin 64) (idx : Fin 65536) (s : State) : Host.Outcome State Fault Refusal :=
  .next (s.finish (s.writeVia path (0xB00000 + 0x1000 * r.val) idx.val))

/-- CQ_DOORBELL (R265): A CMR_Rrr_CQ_DB write advances H, or is refused and stops the ring. -/
def execCqDoorbell (path : Path) (r : Fin 64) (idx : Fin 65536) (s : State) : Host.Outcome State Fault Refusal :=
  .next (s.finish (s.writeVia path (0xB00004 + 0x1000 * r.val) idx.val))

/-- RING_ENABLE (R265): Writing CMR_Rrr_CTL.EN = 1 sets all four indices to 0 and starts the ring. -/
def execRingEnable (path : Path) (r : Fin 64) (ctl : BitVec 31) (s : State) : Host.Outcome State Fault Refusal :=
  .next (s.finish (s.writeVia path (0xB40010 + 0x40 * r.val) (2 ^ 31 + ctl.toNat)))

/-- RING_DISABLE (R278): Writing EN = 0 stops descriptor taking and drains the ring to DISABLED. -/
def execRingDisable (path : Path) (r : Fin 64) (s : State) : Host.Outcome State Fault Refusal :=
  .next (s.finish (s.writeVia path (0xB40010 + 0x40 * r.val) ((s.dir (0xB40010 + 0x40 * r.val)).toNat % 2 ^ 31)))

/-- DESCRIPTOR_FETCHED (R268): A fetched descriptor passes through the check stage in ring order, or the ring stops with
FETCH_ERROR. -/
def execDescriptorFetched (r : Fin 64) (s : State) : Host.Outcome State Fault Refusal :=
  .next (s.finish (s.descriptorFetched r.val))

/-- NOP (R271): The command ring NOP completes at once with SUCCESS. -/
def execNop (s : State) : Host.Outcome State Fault Refusal := .next (s.finish (s.runCmd (opIs 0x00)))

/-- FENCE (R273): FENCE holds its ring until every earlier command of the ring has completed. -/
def execFence (s : State) : Host.Outcome State Fault Refusal := .next (s.finish (s.runCmd (opIs 0x01)))

/-- QUIRE_STAGE (R274): QUIRE_STAGE checks the offset and value pairs, then writes them in list order into shadow quires. -/
def execQuireStage (s : State) : Host.Outcome State Fault Refusal := .next (s.finish (s.runCmd (opIs 0x10)))

/-- FOLIO_WRITE (R96): FOLIO_WRITE checks 1 to 64 folio entries, writes them in ascending order and completes under its fence.
-/
def execFolioWrite (s : State) : Host.Outcome State Fault Refusal := .next (s.finish (s.runCmd (opIs 0x20)))

/-- FOLIO_READ (R271): FOLIO_READ returns folio entries as they stand, inline or written to host memory. -/
def execFolioRead (s : State) : Host.Outcome State Fault Refusal := .next (s.finish (s.runCmd (opIs 0x21)))

/-- ROUTE_WRITE (R108): ROUTE_WRITE checks and writes one fabric routing entry and completes under the drain fence. -/
def execRouteWrite (s : State) : Host.Outcome State Fault Refusal := .next (s.finish (s.runCmd (opIs 0x22)))

/-- GATHER_WRITE (R161): GATHER_WRITE checks and writes a 512-bit gathering entry at one edge and completes under its fences.
-/
def execGatherWrite (s : State) : Host.Outcome State Fault Refusal := .next (s.finish (s.runCmd isGather))

/-- GATHER_STAGE_HALF (R276): An inline GATHER_WRITE with PART 0b00 stages words W0 to W3 for its ring. -/
def execGatherStageHalf (s : State) : Host.Outcome State Fault Refusal := .next (s.finish (s.runCmd isHalf))

/-- MIGRATE_START (R164): MIGRATE_START checks and starts a FOLIO-mode or RESYNC-mode migration in a context, completing when
it ends. -/
def execMigrateStart (s : State) : Host.Outcome State Fault Refusal := .next (s.finish (s.runCmd (opIs 0x30)))

/-- MIGRATE_ABORT (R170): MIGRATE_ABORT ends a context in COPY or FINAL, restoring the source entry, or is refused NOT_ACTIVE.
-/
def execMigrateAbort (s : State) : Host.Outcome State Fault Refusal := .next (s.finish (s.runCmd (opIs 0x31)))

/-- SNAPSHOT (R349): SNAPSHOT with ACT SNAPSHOT schedules an instant at which live counter values are taken and written. -/
def execSnapshot (s : State) : Host.Outcome State Fault Refusal := .next (s.finish (s.runCmd isSnapshot))

/-- FREEZE (R348): SNAPSHOT with ACT FREEZE schedules an instant at which counters, thresholds and bins are copied into a
frozen view. -/
def execFreeze (s : State) : Host.Outcome State Fault Refusal := .next (s.finish (s.runCmd isFreeze))

/-- THAW (R348): SNAPSHOT with ACT THAW schedules an instant at which reads return live values again. -/
def execThaw (s : State) : Host.Outcome State Fault Refusal := .next (s.finish (s.runCmd isThaw))

/-- LEDGER_READ (R271): LEDGER_READ takes ledger records, each in one CCLK, and returns them inline or to host memory. -/
def execLedgerRead (s : State) : Host.Outcome State Fault Refusal := .next (s.finish (s.runCmd (opIs 0x41)))

/-- LEDGER_CLEAR (R329): LEDGER_CLEAR closes a record and releases its containment, or is refused as CAUSE_PRESENT or
NOT_OPEN. -/
def execLedgerClear (s : State) : Host.Outcome State Fault Refusal := .next (s.finish (s.runCmd (opIs 0x42)))

/-- CAPTURE_START (R337): CAPTURE_CTL start sets a port's capture selection, ring and indices. -/
def execCaptureStart (s : State) : Host.Outcome State Fault Refusal := .next (s.finish (s.runCmd isCapStart))

/-- CAPTURE_STOP (R337): CAPTURE_CTL stop ends matching and completes after the last queued record is written. -/
def execCaptureStop (s : State) : Host.Outcome State Fault Refusal := .next (s.finish (s.runCmd isCapStop))

/-- REMOTE_COMMAND (R272): A descriptor with HOP_COUNT ≠ 0 is sent as a CMD from an anchored device, or refused. -/
def execRemoteCommand (s : State) : Host.Outcome State Fault Refusal := .next (s.finish s.runRemote)

/-- REMOTE_TIMEOUT (R272): No CMD_RSP arrives within RTO MTICK and the descriptor completes with REMOTE_TIMEOUT. -/
def execRemoteTimeout (seq : Fin 65536) (s : State) : Host.Outcome State Fault Refusal :=
  .next (s.finish (s.remoteTimeout seq.val))

end Sys2Proof.Machine
end

