-- ==== Sys2Proof/Machine/RowsSpdm.lean ====
section
/-!
DEFINITION. Attestation and the out-of-band port (R393 to R397).
The meaning of each row: its effect, then what follows from it within the step.
-/
namespace Sys2Proof.Machine

/-- GET_VERSION (R394): The SPDM responder answers GET_VERSION. -/
def execGetVersion (t : Transport) (s : State) : Host.Outcome State Fault Refusal :=
  .next (s.finish (s.spdmRequest t (fun s => s.spdmVersion t)))

/-- GET_CAPABILITIES (R394): The SPDM responder answers GET_CAPABILITIES. -/
def execGetCapabilities (t : Transport) (s : State) : Host.Outcome State Fault Refusal :=
  .next (s.finish (s.spdmRequest t (fun s => s.spdmCaps t)))

/-- NEGOTIATE_ALGORITHMS (R394): The SPDM responder answers NEGOTIATE_ALGORITHMS. -/
def execNegotiateAlgorithms (t : Transport) (s : State) : Host.Outcome State Fault Refusal :=
  .next (s.finish (s.spdmRequest t (fun s => s.spdmAlgs t)))

/-- GET_DIGESTS (R394): The SPDM responder returns certificate chain digests. -/
def execGetDigests (t : Transport) (s : State) : Host.Outcome State Fault Refusal :=
  .next (s.finish (s.spdmRequest t (fun s => s.spdmDigests t)))

/-- GET_CERTIFICATE (R394): The SPDM responder returns the slot 0 certificate chain. -/
def execGetCertificate (t : Transport) (slot : Fin 8) (off : Fin 65536) (len : Fin 65536) (s : State) : Host.Outcome State Fault Refusal :=
  .next (s.finish (s.spdmRequest t (fun s => s.spdmCertificate t slot.val off.val len.val)))

/-- CHALLENGE (R394): The SPDM responder answers CHALLENGE with an Ed25519-signed response. -/
def execChallenge (t : Transport) (s : State) : Host.Outcome State Fault Refusal :=
  .next (s.finish (s.spdmRequest t (fun s => s.spdmChallenge t)))

/-- GET_MEASUREMENTS (R393): The SPDM responder returns the SHA-384 measurements, signed. -/
def execGetMeasurements (t : Transport) (secured : Bool) (k : Fin 256) (sign : Bool) (s : State) : Host.Outcome State Fault Refusal :=
  .next (s.finish (s.spdmRequest t (fun s => s.spdmMeasurements t secured k.val sign)))

/-- KEY_EXCHANGE (R394): The SPDM responder performs secp384r1 key exchange for a session. -/
def execKeyExchange (t : Transport) (s : State) : Host.Outcome State Fault Refusal :=
  .next (s.finish (s.spdmRequest t (fun s => s.spdmKeyExchange t)))

/-- FINISH (R394): The SPDM responder completes session establishment. -/
def execFinish (t : Transport) (s : State) : Host.Outcome State Fault Refusal :=
  .next (s.finish (s.spdmRequest t (fun s => s.spdmFinish t)))

/-- HEARTBEAT (R394): The SPDM responder answers HEARTBEAT. -/
def execHeartbeat (t : Transport) (s : State) : Host.Outcome State Fault Refusal :=
  .next (s.finish (s.spdmRequest t (fun s => s.spdmHeartbeat t)))

/-- KEY_UPDATE (R394): The SPDM responder updates session keys. -/
def execKeyUpdate (t : Transport) (s : State) : Host.Outcome State Fault Refusal :=
  .next (s.finish (s.spdmRequest t (fun s => s.spdmKeyUpdate t)))

/-- END_SESSION (R394): The SPDM responder ends a secured session. -/
def execEndSession (t : Transport) (s : State) : Host.Outcome State Fault Refusal :=
  .next (s.finish (s.spdmRequest t (fun s => s.spdmEnd t)))

/-- GET_PQ_SIG (R395): A vendor-defined GET_PQ_SIG returns the ML-DSA-65 signature over the last signed response's digest. -/
def execGetPqSig (t : Transport) (secured : Bool) (s : State) : Host.Outcome State Fault Refusal :=
  .next (s.finish (s.spdmRequest t (fun s => s.spdmHeard t secured (fun s => s.spdmPqSig t secured))))

/-- GET_PQ_CHAIN (R395): A vendor-defined GET_PQ_CHAIN returns the ML-DSA-65 certificate chain. -/
def execGetPqChain (t : Transport) (s : State) : Host.Outcome State Fault Refusal :=
  .next (s.finish (s.spdmRequest t (fun s => s.spdmPqChain t)))

/-- READ_STATUS (R397): The out-of-band READ_STATUS returns the mode, feed, life-cycle and boot status. -/
def execReadStatus (s : State) : Host.Outcome State Fault Refusal := .next (s.finish s.oobStatus)

/-- READ_COLOPHON (R397): The out-of-band READ_COLOPHON returns the colophon record selected by BACK. -/
def execReadColophon (back : Fin 1024) (s : State) : Host.Outcome State Fault Refusal :=
  .next (s.finish (s.oobColophon back.val))

/-- SUBMIT_CSET (R397): The out-of-band SUBMIT_CSET delivers a command set in pieces and applies it. -/
def execSubmitCset (piece : List Byte) (last : Bool) (ed : Bool) (pq : Bool) (s : State) : Host.Outcome State Fault Refusal :=
  .next (s.finish (s.oobSubmit piece last ed pq))

/-- MODE_REQUEST (R397): The out-of-band MODE_REQUEST acts as GLB_MODE_CTL.REQ within a secured SPDM session. -/
def execModeRequest (secured : Bool) (req : Fin 8) (s : State) : Host.Outcome State Fault Refusal :=
  .next (s.finish (s.oobMode secured req.val))

/-- READ_LEDGER (R397): The out-of-band READ_LEDGER returns one 64-byte ledger record while the core runs. -/
def execReadLedger (r : Fin 256) (s : State) : Host.Outcome State Fault Refusal := .next (s.finish (s.oobLedger r.val))

/-- READ_COUNTER (R397): The out-of-band READ_COUNTER returns one event counter value while the core runs. -/
def execReadCounter (n : Fin 8192) (s : State) : Host.Outcome State Fault Refusal := .next (s.finish (s.oobCounter n.val))

/-- ENTDAA (R396): On the out-of-band port in I3C mode, the device takes part in ENTDAA and receives its dynamic address. -/
def execEntdaa (a : Fin 128) (s : State) : Host.Outcome State Fault Refusal := .next (s.finish (s.i3cAddress a.val))

/-- SETDASA (R396): On the out-of-band port in I3C mode, SETDASA assigns the dynamic address from MGT_OOB_CTL.ADDR. -/
def execSetdasa (s : State) : Host.Outcome State Fault Refusal := .next (s.finish s.setdasa)

/-- MCTP_CONTROL_MESSAGE (R396): An MCTP control message arriving over the SMBus or I3C binding is answered by the boot ROM or
Dzicor firmware. -/
def execMctpControlMessage (cmd : Fin 256) (s : State) : Host.Outcome State Fault Refusal :=
  .next (s.finish (s.mctpControl cmd.val))

end Sys2Proof.Machine
end

