-- ==== Sys2Proof/Machine/RowsStart.lean ====
section
/-!
DEFINITION. Starts, modes and their changes (R27 to R34, R369, R381, R382, R408).
The meaning of each row: its effect, then what follows from it within the step.
-/
namespace Sys2Proof.Machine

/-- COLD_RST_N_LOW (R27): COLD_RST_N goes low and passes its filter, so every domain resets and the device goes to OFF. -/
def execColdRstNLow (s : State) : Host.Outcome State Fault Refusal := .next (s.finish s.coldLow)

/-- VDD_AUX_OUT_OF_RANGE (R27): VDD_AUX, or VDD_IO under R406, leaves its range and the device goes to OFF with all domains
reset. -/
def execVddAuxOutOfRange (torn : Bool) (s : State) : Host.Outcome State Fault Refusal := .next (s.finish (s.auxOut torn))

/-- AUX_REFCLK_LOST (R408): AUX_REFCLK shows no edge for more than 2 µs, which is treated as COLD_RST_N low. -/
def execAuxRefclkLost (s : State) : Host.Outcome State Fault Refusal := .next (s.finish s.auxRefLost)

/-- COLD_RST_N_RISE (R27): COLD_RST_N rises with VDD_AUX in range: OFF goes to AUX, the always-on PLL locks, OOB_SEL is
sampled and the boot ROM begins a start. -/
def execColdRstNRise (oobSel : Bool) (s : State) : Host.Outcome State Fault Refusal := .next (s.finish (s.coldHigh oobSel))

/-- IMAGE_VERIFY_DONE (R382): Verification of a copied Dzicor image completes: the boot ROM hands both processors to it, tries
the other image, or fails the start with BOTH_IMAGES_BAD. -/
def execImageVerifyDone (ed : Bool) (pq : Bool) (memErr : Bool) (s : State) : Host.Outcome State Fault Refusal :=
  .next (s.finish (s.verifyDone ed pq memErr))

/-- MAIN_POWER_ENABLE (R369): A write of PWR_MAIN_CTL.EN drives PWR_MAIN_EN; EN = 1 has no effect while
GLB_THERM_STATUS.TRIPPED is 1. -/
def execMainPowerEnable (path : Path) (en : Bool) (s : State) : Host.Outcome State Fault Refusal :=
  .next (s.finish (s.writeVia path 0x1100C00 (b2n en)))

/-- MAIN_POWER_GOOD (R27): PWR_MAIN_GOOD asserts, satisfying the main-rail condition of the start. -/
def execMainPowerGood (s : State) : Host.Outcome State Fault Refusal := .next (s.finish s.mainGoodUp)

/-- MAIN_POWER_TIMEOUT (R27): PWR_MAIN_GOOD is not asserted within 100 ms of PWR_MAIN_EN, so the start fails, the main rails
are disabled and a new start is scheduled 100 ms later. -/
def execMainPowerTimeout (s : State) : Host.Outcome State Fault Refusal := .next (s.finish s.mainTimeout)

/-- CORE_PLL_LOCKED (R27): The core PLL locks and CCLK runs phase-aligned with MPCLK. -/
def execCorePllLocked (s : State) : Host.Outcome State Fault Refusal := .next (s.finish s.pllLocked)

/-- CORE_PLL_TIMEOUT (R27): The core PLL is not locked within 1 ms, so the start fails with cause CORE_PLL. -/
def execCorePllTimeout (s : State) : Host.Outcome State Fault Refusal := .next (s.finish s.pllTimeout)

/-- CORE_INITIALISED (R27): Core memories are initialised at generation 0 and the device enters TEST, STANDALONE or MEMBER as
the start plan selects. -/
def execCoreInitialised (s : State) : Host.Outcome State Fault Refusal := .next (s.finish s.coreInit)

/-- FIRST_BINDING_TIMEOUT (R27): The first binding has not completed 900 ms after the start began, so the start fails and the
device returns to AUX. -/
def execFirstBindingTimeout (s : State) : Host.Outcome State Fault Refusal := .next (s.finish s.firstTimeout)

/-- NEW_START_AFTER_FAIL (R27): The 100 ms wait after a failed start ends and the device begins a new start by itself. -/
def execNewStartAfterFail (s : State) : Host.Outcome State Fault Refusal := .next (s.finish s.newStart)

/-- MAIN_POWER_LOST (R27): PWR_MAIN_GOOD deasserts: the device goes to AUX, records the main power loss and does not count a
failed start. -/
def execMainPowerLost (s : State) : Host.Outcome State Fault Refusal := .next (s.finish s.mainLost)

/-- QUIESCE_FOR_REMOVAL (R31): GLB_MODE_CTL.REQ = 1 enters QUIESCED with cause 1, refuses new work and sends LEAVE; it is
refused where R27 does not allow it. -/
def execQuiesceForRemoval (path : Path) (s : State) : Host.Outcome State Fault Refusal := .next (s.finish (s.modeCtl path 1))

/-- QUIESCE_FOR_FIRMWARE (R31): GLB_MODE_CTL.REQ = 2 enters QUIESCED with cause 2, refusing new work and letting outstanding
bookmarks complete. -/
def execQuiesceForFirmware (path : Path) (s : State) : Host.Outcome State Fault Refusal := .next (s.finish (s.modeCtl path 2))

/-- RESUME (R27): GLB_MODE_CTL.REQ = 3 leaves QUIESCED for the mode it was entered from, unless a DEVICE-FATAL record is open.
-/
def execResume (path : Path) (s : State) : Host.Outcome State Fault Refusal := .next (s.finish (s.modeCtl path 3))

/-- RESTART (R27): GLB_MODE_CTL.REQ = 4 in QUIESCED, TEST or ENDPAPER disables the main rails and begins a new start. -/
def execRestart (path : Path) (s : State) : Host.Outcome State Fault Refusal := .next (s.finish (s.modeCtl path 4))

/-- QUIESCE_DRAIN_TIMEOUT (R31): 50 ms after entry into QUIESCED with cause 1 or 2, every bookmark still in use is answered
and freed. -/
def execQuiesceDrainTimeout (s : State) : Host.Outcome State Fault Refusal := .next (s.finish s.quiesceTimeout)

/-- AUX_REFCLK_RESTORED (R408): AUX_REFCLK has run for 1 ms within R412 after a loss, so the reset latch releases and the
device may leave OFF for AUX. -/
def execAuxRefclkRestored (oobSel : Bool) (s : State) : Host.Outcome State Fault Refusal :=
  .next (s.finish (s.auxRefBack oobSel))

/-- VDD_AUX_IN_RANGE (R27): VDD_AUX, with VDD_IO, returns to its range while COLD_RST_N is already high, so OFF goes to AUX
and a start begins. -/
def execVddAuxInRange (oobSel : Bool) (s : State) : Host.Outcome State Fault Refusal := .next (s.finish (s.auxIn oobSel))

end Sys2Proof.Machine
end

