-- ==== Sys2Proof/Machine/RowsSwitch.lean ====
section
/-!
DEFINITION. The switch core: egress, flushes and fences (R99 to R102, R121, R131, R208, R253).
The meaning of each row: its effect, then what follows from it within the step.
-/
namespace Sys2Proof.Machine

/-- EGRESS_SEND (R121): An egress link can accept a packet and its arbiter chooses and sends one eligible head. -/
def execEgressSend (p : Fin 64) (starved : List OrdType) (choice : Nat) (fate : SendFate) (s : State) : Host.Outcome State Fault Refusal :=
  .next (s.finish (s.egressSend p.val starved choice fate))

/-- ROUTE_HOLD_RELEASE (R208): The release time of a packet held after a route change is reached and it becomes eligible. -/
def execRouteHoldRelease (p : Fin 64) (s : State) : Host.Outcome State Fault Refusal := .next (s.finish (s.holdRelease p.val))

/-- LINK_DOWN (R253): The LTSSM leaves L0 and Recovery for Detect or Disabled, a link-down event. -/
def execLinkDown (p : Fin 64) (s : State) : Host.Outcome State Fault Refusal := .next (s.finish (s.linkLeft p.val))

/-- FLUSH_COMPLETE (R131): Every cell of a flushed port is freed and FLUSHING returns to 0, releasing a HELD link. -/
def execFlushComplete (p : Fin 64) (s : State) : Host.Outcome State Fault Refusal := .next (s.finish (s.flushDone p.val))

/-- PORT_BOOKMARKS_ANSWERED (R131): Within 12 µs of a flush, every bookmark whose request left through the port is answered as
on expiry and quarantined. -/
def execPortBookmarksAnswered (p : Fin 64) (s : State) : Host.Outcome State Fault Refusal :=
  .next (s.finish (s.answerPort p.val))

/-- DRAIN_FENCE_CLEAR (R99): No packet older than generation g remains, so a waiting table write completes. -/
def execDrainFenceClear (s : State) : Host.Outcome State Fault Refusal := .next (s.finish s.drainFence)

/-- COMPLETION_FENCE_CLEAR (R100): Every bookmark stamped older than g has been freed, so a completion-fenced command or
migration step proceeds. -/
def execCompletionFenceClear (s : State) : Host.Outcome State Fault Refusal := .next (s.finish s.completionFence)

/-- FENCE_EXPIRED (R101): DEC_FENCE_CTL.LIMIT passes before a fence clears; the command completes FENCE_EXPIRED and raises
fence-expired. -/
def execFenceExpired (x : FenceRef) (s : State) : Host.Outcome State Fault Refusal := .next (s.finish (s.fenceLimit x))

/-- GENERATION_SLOT_FREED (R102): Fewer than 14 generation slots are live, so a command waiting for a slot proceeds. -/
def execGenerationSlotFreed (s : State) : Host.Outcome State Fault Refusal := .next (s.finish s.slotFreed)

end Sys2Proof.Machine
end

