-- ==== Sys2Proof/Machine/RowsTap.lean ====
section
/-!
DEFINITION. The test access port (R418).
The meaning of each row: its effect, then what follows from it within the step.
-/
namespace Sys2Proof.Machine

/-- TAP_RESET (R418): TRST_N or Test-Logic-Reset resets the test access port and returns the pins to functional use. -/
def execTapReset (s : State) : Host.Outcome State Fault Refusal := .next (s.finish (s.tapLoad .idcode))

/-- BYPASS (R418): The TAP instruction BYPASS selects the bypass register. -/
def execBypass (s : State) : Host.Outcome State Fault Refusal := .next (s.finish (s.tapShift .bypass 0))

/-- IDCODE (R418): The TAP IDCODE instruction returns 0x0725_69D3. -/
def execIdcode (s : State) : Host.Outcome State Fault Refusal := .next (s.finish (s.tapShift .idcode 0x072569D3))

/-- SAMPLE_PRELOAD (R418): The TAP SAMPLE/PRELOAD instruction captures and preloads boundary cells. -/
def execSamplePreload (cells : List (Pin × Bool)) (s : State) : Host.Outcome State Fault Refusal :=
  .next (s.finish (s.tapSample cells))

/-- EXTEST (R418): The TAP EXTEST instruction drives pins from boundary cells, except the observe-only cells. -/
def execExtest (s : State) : Host.Outcome State Fault Refusal := .next (s.finish (s.tapLoad .extest))

/-- CLAMP (R418): The TAP CLAMP instruction holds pins at boundary values with bypass selected. -/
def execClamp (s : State) : Host.Outcome State Fault Refusal := .next (s.finish (s.tapLoad .clamp))

/-- HIGHZ (R418): The TAP HIGHZ instruction places the driven pins in high impedance. -/
def execHighz (s : State) : Host.Outcome State Fault Refusal := .next (s.finish (s.tapLoad .highz))

/-- EXTEST_PULSE (R418): The IEEE 1149.6 EXTEST_PULSE instruction tests the AC-coupled lanes. -/
def execExtestPulse (s : State) : Host.Outcome State Fault Refusal := .next (s.finish (s.tapLoad .extestPulse))

/-- EXTEST_TRAIN (R418): The IEEE 1149.6 EXTEST_TRAIN instruction tests the AC-coupled lanes with pulse trains. -/
def execExtestTrain (s : State) : Host.Outcome State Fault Refusal := .next (s.finish (s.tapLoad .extestTrain))

/-- DBG_SELECT (R418): The vendor TAP instruction DBG_SELECT selects the debug master under R392. -/
def execDbgSelect (s : State) : Host.Outcome State Fault Refusal := .next (s.finish (s.tapLoad .dbgSelect))

end Sys2Proof.Machine
end

