-- ==== Sys2Proof/Machine/RowsTime.lean ====
section
/-!
DEFINITION. Spine time, bindings and register writes (R10, R25, R36 to R50, R243).
The meaning of each row: its effect, then what follows from it within the step.
-/
namespace Sys2Proof.Machine

/-- MTICK (R25): The 250,000-MPCLK count expires and the MTICK edge drives mirror refreshes, servo measurements, scrubbing,
slot evaluation and the other per-MTICK work. -/
def execMtick (x : TickIn) (s : State) : Host.Outcome State Fault Refusal := .next (s.finish (s.mtick x))

/-- SPINE_PPS_EDGE (R37): A SPINE_PPS rising edge marks a second, corrects θ when it is off by more than P/2, and performs a
pending load at PPS. -/
def execSpinePpsEdge (s : State) : Host.Outcome State Fault Refusal := .next (s.finish s.ppsEdge)

/-- REFERENCE_LOST (R42): A time reference is lost under R42 and the servo goes to HOLDOVER with r = y. -/
def execReferenceLost (x : LostSignal) (s : State) : Host.Outcome State Fault Refusal := .next (s.finish (s.referenceLost x))

/-- HOLDOVER_EXPIRED (R41): Time in HOLDOVER reaches SPN_HOLDOVER_LIMIT.LIMIT; HOLDOVER_EXPIRED is set and its source is
raised. -/
def execHoldoverExpired (s : State) : Host.Outcome State Fault Refusal := .next (s.finish s.holdoverExpired)

/-- SPN_TIME_LO_READ (R36): A read of SPN_TIME_LO returns NS[31:0] and latches NS[63:32] and FRAC into the requester's latch
set. -/
def execSpnTimeLoRead (path : Path) (s : State) : Host.Outcome State Fault Refusal :=
  .next (s.finish (s.readVia path 0x100000))

/-- TIME_LOAD_NOW (R44): SPN_TIME_SET_CTL.ACT = 0b10 loads spine time now, as a step; it is refused while the time comes from
the fabric. -/
def execTimeLoadNow (path : Path) (s : State) : Host.Outcome State Fault Refusal :=
  .next (s.finish (s.writeVia path 0x100038 2))

/-- TIME_LOAD_AT_PPS (R44): SPN_TIME_SET_CTL.ACT = 0b01 arms a load of the written value plus EXT_DELAY at the next SPINE_PPS
edge. -/
def execTimeLoadAtPps (path : Path) (s : State) : Host.Outcome State Fault Refusal :=
  .next (s.finish (s.writeVia path 0x100038 1))

/-- SPN_UNIT_GROUP_WRITE (R46): A write to SPN_UNIT_GROUP_k moves quire units between binding groups, refusing each field
whose old or new group has a pending binding. -/
def execSpnUnitGroupWrite (path : Path) (k : Fin 47) (w : Word) (s : State) : Host.Outcome State Fault Refusal :=
  .next (s.finish (s.writeVia path (0x100200 + 4 * k.val) w.toNat))

/-- QUIRE_BIND (R47): A binding request for groups G at instant T is decided as MODE, NOT_ALIGNED, LATE, FAR, GROUP_BUSY or
accepted. -/
def execQuireBind (s : State) : Host.Outcome State Fault Refusal := .next (s.finish (s.runCmd isBind))

/-- QUIRE_BIND_WITHDRAW (R47): A QUIRE_BIND with WITHDRAW = 1 withdraws a pending binding of exactly the same G and T before T
− 1,000 ns. -/
def execQuireBindWithdraw (s : State) : Host.Outcome State Fault Refusal := .next (s.finish (s.runCmd isWithdraw))

/-- BINDING_ARM (R48): Local spine time reaches T − 1,000 ns and the binding is armed, so withdrawal is no longer accepted. -/
def execBindingArm (t : Nat) (s : State) : Host.Outcome State Fault Refusal := .next (s.finish (s.bindArm t))

/-- WRITE_GATE_CLOSE (R48): 16 CCLK before E0 the write gate closes on every unit of the armed groups and shadow parity is
sampled. -/
def execWriteGateClose (t : Nat) (s : State) : Host.Outcome State Fault Refusal := .next (s.finish (s.bindGate t))

/-- SHADOW_PARITY (R48): One CCLK before E0 a sampled parity error cancels the whole request, which completes as
SHADOW_PARITY. -/
def execShadowParity (t : Nat) (s : State) : Host.Outcome State Fault Refusal := .next (s.finish (s.bindCancel t))

/-- BINDING_FIRE (R48): At E0 the active selector flips in every unit of every group bound at T, and the checks that run at a
binding take place. -/
def execBindingFire (t : Nat) (s : State) : Host.Outcome State Fault Refusal := .next (s.finish (s.bindFire t))

/-- OLD_QUIRE_RELEASE (R48): 18 CCLK after E0 the last header decided under the old quire has left stage 5 and the previous
active quire is released. -/
def execOldQuireRelease (t : Nat) (s : State) : Host.Outcome State Fault Refusal := .next (s.finish (s.bindRelease t))

/-- COPY_FORWARD_BEGIN (R48): 32 CCLK after E0 the new active quire begins to be copied into the new shadow quire. -/
def execCopyForwardBegin (t : Nat) (s : State) : Host.Outcome State Fault Refusal := .next (s.finish (s.bindCopy t))

/-- BINDING_COMPLETE (R48): Copy-forward completes, the write gate opens, queued writes are applied, pending bits clear and
the request completes as BOUND. -/
def execBindingComplete (t : Nat) (s : State) : Host.Outcome State Fault Refusal := .next (s.finish (s.bindComplete t))

/-- REGISTER_WRITE (R10): A BAR0 or bridge write to a register with no row of its own lands in the shadow quire or acts at
once, as its access code says. -/
def execRegisterWrite (path : Path) (off : Fin 67108864) (w : Word) (s : State) : Host.Outcome State Fault Refusal :=
  .next (s.finish (s.writeVia path off.val w.toNat))

/-- BLOCK_LOCK (R10): Writing 1 to HVH_LOCK, PWR_LOCK or MGT_LOCK makes every RWL field of the block read only until cold
reset. -/
def execBlockLock (path : Path) (b : LockBlock) (s : State) : Host.Outcome State Fault Refusal :=
  .next (s.finish (s.writeVia path b.off 1))

/-- START_LOAD (R243): LNC_START.LOAD = 1 copies the shadow quires of units 107 to 186 into the active quires before the first
binding, or is refused. -/
def execStartLoad (path : Path) (s : State) : Host.Outcome State Fault Refusal :=
  .next (s.finish (s.writeVia path 0x20F000 1))

end Sys2Proof.Machine
end

