-- ==== Sys2Proof/Machine/Dispatch.lean ====
section
/-!
DEFINITION. Which meaning each command has: one arm for each row of the table of operations and events.
-/
namespace Sys2Proof.Machine

def exec (i : Instr) (s : State) : Host.Outcome State Fault Refusal :=
  match i with
  | .coldRstNLow => Sys2Proof.Machine.execColdRstNLow s
  | .vddAuxOutOfRange torn => Sys2Proof.Machine.execVddAuxOutOfRange torn s
  | .auxRefclkLost => Sys2Proof.Machine.execAuxRefclkLost s
  | .coldRstNRise oobSel => Sys2Proof.Machine.execColdRstNRise oobSel s
  | .imageVerifyDone ed pq memErr => Sys2Proof.Machine.execImageVerifyDone ed pq memErr s
  | .mainPowerEnable path en => Sys2Proof.Machine.execMainPowerEnable path en s
  | .mainPowerGood => Sys2Proof.Machine.execMainPowerGood s
  | .mainPowerTimeout => Sys2Proof.Machine.execMainPowerTimeout s
  | .corePllLocked => Sys2Proof.Machine.execCorePllLocked s
  | .corePllTimeout => Sys2Proof.Machine.execCorePllTimeout s
  | .coreInitialised => Sys2Proof.Machine.execCoreInitialised s
  | .firstBindingTimeout => Sys2Proof.Machine.execFirstBindingTimeout s
  | .newStartAfterFail => Sys2Proof.Machine.execNewStartAfterFail s
  | .mainPowerLost => Sys2Proof.Machine.execMainPowerLost s
  | .quiesceForRemoval path => Sys2Proof.Machine.execQuiesceForRemoval path s
  | .quiesceForFirmware path => Sys2Proof.Machine.execQuiesceForFirmware path s
  | .resume path => Sys2Proof.Machine.execResume path s
  | .restart path => Sys2Proof.Machine.execRestart path s
  | .quiesceDrainTimeout => Sys2Proof.Machine.execQuiesceDrainTimeout s
  | .mtick x => Sys2Proof.Machine.execMtick x s
  | .spinePpsEdge => Sys2Proof.Machine.execSpinePpsEdge s
  | .referenceLost x => Sys2Proof.Machine.execReferenceLost x s
  | .holdoverExpired => Sys2Proof.Machine.execHoldoverExpired s
  | .spnTimeLoRead path => Sys2Proof.Machine.execSpnTimeLoRead path s
  | .timeLoadNow path => Sys2Proof.Machine.execTimeLoadNow path s
  | .timeLoadAtPps path => Sys2Proof.Machine.execTimeLoadAtPps path s
  | .spnUnitGroupWrite path k w => Sys2Proof.Machine.execSpnUnitGroupWrite path k w s
  | .quireBind => Sys2Proof.Machine.execQuireBind s
  | .quireBindWithdraw => Sys2Proof.Machine.execQuireBindWithdraw s
  | .bindingArm t => Sys2Proof.Machine.execBindingArm t s
  | .writeGateClose t => Sys2Proof.Machine.execWriteGateClose t s
  | .shadowParity t => Sys2Proof.Machine.execShadowParity t s
  | .bindingFire t => Sys2Proof.Machine.execBindingFire t s
  | .oldQuireRelease t => Sys2Proof.Machine.execOldQuireRelease t s
  | .copyForwardBegin t => Sys2Proof.Machine.execCopyForwardBegin t s
  | .bindingComplete t => Sys2Proof.Machine.execBindingComplete t s
  | .registerWrite path off w => Sys2Proof.Machine.execRegisterWrite path off w s
  | .blockLock path b => Sys2Proof.Machine.execBlockLock path b s
  | .startLoad path => Sys2Proof.Machine.execStartLoad path s
  | .configRequest p t => Sys2Proof.Machine.execConfigRequest p t s
  | .secondaryBusReset h f on => Sys2Proof.Machine.execSecondaryBusReset h f on s
  | .retrainLink h v => Sys2Proof.Machine.execRetrainLink h v s
  | .linkDisable h v on => Sys2Proof.Machine.execLinkDisable h v on s
  | .dpcTrigger h v reason => Sys2Proof.Machine.execDpcTrigger h v reason s
  | .dpcTriggerStatusClear h v => Sys2Proof.Machine.execDpcTriggerStatusClear h v s
  | .busMasterEnableClear x => Sys2Proof.Machine.execBusMasterEnableClear x s
  | .busMasterEnableSet x => Sys2Proof.Machine.execBusMasterEnableSet x s
  | .initiateFunctionLevelReset fn => Sys2Proof.Machine.execInitiateFunctionLevelReset fn s
  | .vfEnableClear => Sys2Proof.Machine.execVfEnableClear s
  | .squashQueueCleared fn => Sys2Proof.Machine.execSquashQueueCleared fn s
  | .squashComplete fn => Sys2Proof.Machine.execSquashComplete fn s
  | .drainComplete fn => Sys2Proof.Machine.execDrainComplete fn s
  | .drainTimeout fn => Sys2Proof.Machine.execDrainTimeout fn s
  | .perstAssert p => Sys2Proof.Machine.execPerstAssert p s
  | .perstDeassert p => Sys2Proof.Machine.execPerstDeassert p s
  | .hotResetReceived p => Sys2Proof.Machine.execHotResetReceived p s
  | .hierarchyRrsEnd h => Sys2Proof.Machine.execHierarchyRrsEnd h s
  | .hostMemoryRequest p t => Sys2Proof.Machine.execHostMemoryRequest p t s
  | .cxlMemRequest p t => Sys2Proof.Machine.execCxlMemRequest p t s
  | .ioRequest p rid tag => Sys2Proof.Machine.execIoRequest p rid tag s
  | .messageReceived p t => Sys2Proof.Machine.execMessageReceived p t s
  | .devicePortRequest p t => Sys2Proof.Machine.execDevicePortRequest p t s
  | .bisnpReceived p t => Sys2Proof.Machine.execBisnpReceived p t s
  | .fabricPacketReceived p src dst ttl tc ld t => Sys2Proof.Machine.execFabricPacketReceived p src dst ttl tc ld t s
  | .completionReceived p t => Sys2Proof.Machine.execCompletionReceived p t s
  | .lockedRead p t => Sys2Proof.Machine.execLockedRead p t s
  | .unlock p => Sys2Proof.Machine.execUnlock p s
  | .lockExpired p => Sys2Proof.Machine.execLockExpired p s
  | .prefetchLifeExpired h addr => Sys2Proof.Machine.execPrefetchLifeExpired h addr s
  | .completionTimeout b => Sys2Proof.Machine.execCompletionTimeout b s
  | .quarantineEnd b => Sys2Proof.Machine.execQuarantineEnd b s
  | .egressSend p starved choice fate => Sys2Proof.Machine.execEgressSend p starved choice fate s
  | .nullifiedPacketReceived p part => Sys2Proof.Machine.execNullifiedPacketReceived p part s
  | .routeHoldRelease p => Sys2Proof.Machine.execRouteHoldRelease p s
  | .linkDown p => Sys2Proof.Machine.execLinkDown p s
  | .flushComplete p => Sys2Proof.Machine.execFlushComplete p s
  | .portBookmarksAnswered p => Sys2Proof.Machine.execPortBookmarksAnswered p s
  | .drainFenceClear => Sys2Proof.Machine.execDrainFenceClear s
  | .completionFenceClear => Sys2Proof.Machine.execCompletionFenceClear s
  | .fenceExpired x => Sys2Proof.Machine.execFenceExpired x s
  | .generationSlotFreed => Sys2Proof.Machine.execGenerationSlotFreed s
  | .sqDoorbell path r idx => Sys2Proof.Machine.execSqDoorbell path r idx s
  | .cqDoorbell path r idx => Sys2Proof.Machine.execCqDoorbell path r idx s
  | .ringEnable path r ctl => Sys2Proof.Machine.execRingEnable path r ctl s
  | .ringDisable path r => Sys2Proof.Machine.execRingDisable path r s
  | .descriptorFetched r => Sys2Proof.Machine.execDescriptorFetched r s
  | .nop => Sys2Proof.Machine.execNop s
  | .fence => Sys2Proof.Machine.execFence s
  | .quireStage => Sys2Proof.Machine.execQuireStage s
  | .folioWrite => Sys2Proof.Machine.execFolioWrite s
  | .folioRead => Sys2Proof.Machine.execFolioRead s
  | .routeWrite => Sys2Proof.Machine.execRouteWrite s
  | .gatherWrite => Sys2Proof.Machine.execGatherWrite s
  | .gatherStageHalf => Sys2Proof.Machine.execGatherStageHalf s
  | .migrateStart => Sys2Proof.Machine.execMigrateStart s
  | .migrateAbort => Sys2Proof.Machine.execMigrateAbort s
  | .snapshot => Sys2Proof.Machine.execSnapshot s
  | .freeze => Sys2Proof.Machine.execFreeze s
  | .thaw => Sys2Proof.Machine.execThaw s
  | .ledgerRead => Sys2Proof.Machine.execLedgerRead s
  | .ledgerClear => Sys2Proof.Machine.execLedgerClear s
  | .captureStart => Sys2Proof.Machine.execCaptureStart s
  | .captureStop => Sys2Proof.Machine.execCaptureStop s
  | .remoteCommand => Sys2Proof.Machine.execRemoteCommand s
  | .remoteTimeout seq => Sys2Proof.Machine.execRemoteTimeout seq s
  | .pmcInstant t => Sys2Proof.Machine.execPmcInstant t s
  | .pmcCntLoRead path x => Sys2Proof.Machine.execPmcCntLoRead path x s
  | .bitcntLoRead path l => Sys2Proof.Machine.execBitcntLoRead path l s
  | .copyPassComplete c => Sys2Proof.Machine.execCopyPassComplete c s
  | .granuleCopy c => Sys2Proof.Machine.execGranuleCopy c s
  | .settleComplete c => Sys2Proof.Machine.execSettleComplete c s
  | .flipEdge c => Sys2Proof.Machine.execFlipEdge c s
  | .holdExpired c => Sys2Proof.Machine.execHoldExpired c s
  | .heatEpochBoundary => Sys2Proof.Machine.execHeatEpochBoundary s
  | .heatReportComplete => Sys2Proof.Machine.execHeatReportComplete s
  | .mergeTimerExpired b => Sys2Proof.Machine.execMergeTimerExpired b s
  | .failoverTimerExpired b => Sys2Proof.Machine.execFailoverTimerExpired b s
  | .hello p f => Sys2Proof.Machine.execHello p f s
  | .advertisementLapse p anchor => Sys2Proof.Machine.execAdvertisementLapse p anchor s
  | .electionSettled => Sys2Proof.Machine.execElectionSettled s
  | .reportSend => Sys2Proof.Machine.execReportSend s
  | .report p f => Sys2Proof.Machine.execReport p f s
  | .reportAck p f => Sys2Proof.Machine.execReportAck p f s
  | .reportBusy p f => Sys2Proof.Machine.execReportBusy p f s
  | .reportTimeout => Sys2Proof.Machine.execReportTimeout s
  | .leave p f => Sys2Proof.Machine.execLeave p f s
  | .cmd p f => Sys2Proof.Machine.execCmd p f s
  | .cmdRsp p f => Sys2Proof.Machine.execCmdRsp p f s
  | .dataFlit p sq mark slots l => Sys2Proof.Machine.execDataFlit p sq mark slots l s
  | .mgmtFlit p sq mark ws l => Sys2Proof.Machine.execMgmtFlit p sq mark ws l s
  | .idleFlit p sq l => Sys2Proof.Machine.execIdleFlit p sq l s
  | .badFlit p reserved => Sys2Proof.Machine.execBadFlit p reserved s
  | .ack p a => Sys2Proof.Machine.execAck p a s
  | .nak p a => Sys2Proof.Machine.execNak p a s
  | .creditUpdate p u => Sys2Proof.Machine.execCreditUpdate p u s
  | .xoffMap p m => Sys2Proof.Machine.execXoffMap p m s
  | .nakTimerExpired p => Sys2Proof.Machine.execNakTimerExpired p s
  | .replayTimerExpired p => Sys2Proof.Machine.execReplayTimerExpired p s
  | .initId p sq l m => Sys2Proof.Machine.execInitId p sq l m s
  | .initCredit p sq l m => Sys2Proof.Machine.execInitCredit p sq l m s
  | .initDone p sq l m => Sys2Proof.Machine.execInitDone p sq l m s
  | .initTimeout p => Sys2Proof.Machine.execInitTimeout p s
  | .timeReq p sq l id delay => Sys2Proof.Machine.execTimeReq p sq l id delay s
  | .timeRsp p sq l id hopsState t2 t3 => Sys2Proof.Machine.execTimeRsp p sq l id hopsState t2 t3 s
  | .linkReset p sq l => Sys2Proof.Machine.execLinkReset p sq l s
  | .bflPortReset path p => Sys2Proof.Machine.execBflPortReset path p s
  | .refclkLost k => Sys2Proof.Machine.execRefclkLost k s
  | .refclkRestored k => Sys2Proof.Machine.execRefclkRestored k s
  | .calibrationDone k => Sys2Proof.Machine.execCalibrationDone k s
  | .receiverDetected p => Sys2Proof.Machine.execReceiverDetected p s
  | .linkTrained p r => Sys2Proof.Machine.execLinkTrained p r s
  | .trainTimeout p r => Sys2Proof.Machine.execTrainTimeout p r s
  | .recoveryComplete p rate width => Sys2Proof.Machine.execRecoveryComplete p rate width s
  | .portRetrain path p => Sys2Proof.Machine.execPortRetrain path p s
  | .l0pRequest p width => Sys2Proof.Machine.execL0pRequest p width s
  | .aspmL1Entry p => Sys2Proof.Machine.execAspmL1Entry p s
  | .marginStop path l w => Sys2Proof.Machine.execMarginStop path l w s
  | .marginTiming path l w => Sys2Proof.Machine.execMarginTiming path l w s
  | .marginVoltage path l w => Sys2Proof.Machine.execMarginVoltage path l w s
  | .marginDone l errors => Sys2Proof.Machine.execMarginDone l errors s
  | .inject path l => Sys2Proof.Machine.execInject path l s
  | .clear path l => Sys2Proof.Machine.execClear path l s
  | .checkerLock l => Sys2Proof.Machine.execCheckerLock l s
  | .checkerLockLoss l bits errors => Sys2Proof.Machine.execCheckerLockLoss l bits errors s
  | .dmvSqDoorbell fn k idx => Sys2Proof.Machine.execDmvSqDoorbell fn k idx s
  | .dmvCqDoorbell fn k idx => Sys2Proof.Machine.execDmvCqDoorbell fn k idx s
  | .dmvRingEnable fn k => Sys2Proof.Machine.execDmvRingEnable fn k s
  | .dmvRingDisable fn k => Sys2Proof.Machine.execDmvRingDisable fn k s
  | .msixMaskWrite fn e masked => Sys2Proof.Machine.execMsixMaskWrite fn e masked s
  | .descriptorStart fn k => Sys2Proof.Machine.execDescriptorStart fn k s
  | .dmvNop => Sys2Proof.Machine.execDmvNop s
  | .copy => Sys2Proof.Machine.execCopy s
  | .fill => Sys2Proof.Machine.execFill s
  | .compare => Sys2Proof.Machine.execCompare s
  | .digest => Sys2Proof.Machine.execDigest s
  | .copyDigest => Sys2Proof.Machine.execCopyDigest s
  | .captureRecordWrite => Sys2Proof.Machine.execCaptureRecordWrite s
  | .mirrorCopySend p cred => Sys2Proof.Machine.execMirrorCopySend p cred s
  | .slotEnable path k => Sys2Proof.Machine.execSlotEnable path k s
  | .slotDisable path k => Sys2Proof.Machine.execSlotDisable path k s
  | .rearm path k => Sys2Proof.Machine.execRearm path k s
  | .slotPresenceSeen k => Sys2Proof.Machine.execSlotPresenceSeen k s
  | .slotPresenceLost k => Sys2Proof.Machine.execSlotPresenceLost k s
  | .slotDebounceDone k => Sys2Proof.Machine.execSlotDebounceDone k s
  | .pchgTimeout k => Sys2Proof.Machine.execPchgTimeout k s
  | .rampTimeout k => Sys2Proof.Machine.execRampTimeout k s
  | .overcurrent k => Sys2Proof.Machine.execOvercurrent k s
  | .short k => Sys2Proof.Machine.execShort k s
  | .slotUndervoltage => Sys2Proof.Machine.execSlotUndervoltage s
  | .slotRetryTimerExpired k => Sys2Proof.Machine.execSlotRetryTimerExpired k s
  | .slotPerstRelease k => Sys2Proof.Machine.execSlotPerstRelease k s
  | .goodReset k => Sys2Proof.Machine.execGoodReset k s
  | .absenceTimeout k => Sys2Proof.Machine.execAbsenceTimeout k s
  | .feedGood feedB => Sys2Proof.Machine.execFeedGood feedB s
  | .feedNotGood feedB => Sys2Proof.Machine.execFeedNotGood feedB s
  | .feedRampTimeout => Sys2Proof.Machine.execFeedRampTimeout s
  | .feedBarEnd feedB => Sys2Proof.Machine.execFeedBarEnd feedB s
  | .breakDeadTimeEnd => Sys2Proof.Machine.execBreakDeadTimeEnd s
  | .feedRevert => Sys2Proof.Machine.execFeedRevert s
  | .warnRelease => Sys2Proof.Machine.execWarnRelease s
  | .prefer path slotB => Sys2Proof.Machine.execPrefer path slotB s
  | .trial path slotB => Sys2Proof.Machine.execTrial path slotB s
  | .clearFails path => Sys2Proof.Machine.execClearFails path s
  | .preferenceVerified ed pq => Sys2Proof.Machine.execPreferenceVerified ed pq s
  | .readPage path a => Sys2Proof.Machine.execReadPage path a s
  | .programPage path a => Sys2Proof.Machine.execProgramPage path a s
  | .eraseSector path a => Sys2Proof.Machine.execEraseSector path a s
  | .flashOpDone err => Sys2Proof.Machine.execFlashOpDone err s
  | .flashOpOverrun => Sys2Proof.Machine.execFlashOpOverrun s
  | .colophonAppend => Sys2Proof.Machine.execColophonAppend s
  | .colophonSelect path back => Sys2Proof.Machine.execColophonSelect path back s
  | .colophonReady => Sys2Proof.Machine.execColophonReady s
  | .csetSubmit ed pq => Sys2Proof.Machine.execCsetSubmit ed pq s
  | .advance => Sys2Proof.Machine.execAdvance s
  | .programSlot => Sys2Proof.Machine.execProgramSlot s
  | .revokeSlot => Sys2Proof.Machine.execRevokeSlot s
  | .raiseFloor => Sys2Proof.Machine.execRaiseFloor s
  | .debugEnable => Sys2Proof.Machine.execDebugEnable s
  | .tamper k => Sys2Proof.Machine.execTamper k s
  | .voltageGlitch aux => Sys2Proof.Machine.execVoltageGlitch aux s
  | .clockGlitch => Sys2Proof.Machine.execClockGlitch s
  | .debugAccess a w => Sys2Proof.Machine.execDebugAccess a w s
  | .bridgeLockOpen proc => Sys2Proof.Machine.execBridgeLockOpen proc s
  | .bridgeLockClose proc => Sys2Proof.Machine.execBridgeLockClose proc s
  | .bridgeLockLimit => Sys2Proof.Machine.execBridgeLockLimit s
  | .bridgeReadTimeout => Sys2Proof.Machine.execBridgeReadTimeout s
  | .crossingRetry => Sys2Proof.Machine.execCrossingRetry s
  | .getVersion t => Sys2Proof.Machine.execGetVersion t s
  | .getCapabilities t => Sys2Proof.Machine.execGetCapabilities t s
  | .negotiateAlgorithms t => Sys2Proof.Machine.execNegotiateAlgorithms t s
  | .getDigests t => Sys2Proof.Machine.execGetDigests t s
  | .getCertificate t slot off len => Sys2Proof.Machine.execGetCertificate t slot off len s
  | .challenge t => Sys2Proof.Machine.execChallenge t s
  | .getMeasurements t secured k sign => Sys2Proof.Machine.execGetMeasurements t secured k sign s
  | .keyExchange t => Sys2Proof.Machine.execKeyExchange t s
  | .finish t => Sys2Proof.Machine.execFinish t s
  | .heartbeat t => Sys2Proof.Machine.execHeartbeat t s
  | .keyUpdate t => Sys2Proof.Machine.execKeyUpdate t s
  | .endSession t => Sys2Proof.Machine.execEndSession t s
  | .getPqSig t secured => Sys2Proof.Machine.execGetPqSig t secured s
  | .getPqChain t => Sys2Proof.Machine.execGetPqChain t s
  | .readStatus => Sys2Proof.Machine.execReadStatus s
  | .readColophon back => Sys2Proof.Machine.execReadColophon back s
  | .submitCset piece last ed pq => Sys2Proof.Machine.execSubmitCset piece last ed pq s
  | .modeRequest secured req => Sys2Proof.Machine.execModeRequest secured req s
  | .readLedger r => Sys2Proof.Machine.execReadLedger r s
  | .readCounter n => Sys2Proof.Machine.execReadCounter n s
  | .tapReset => Sys2Proof.Machine.execTapReset s
  | .bypass => Sys2Proof.Machine.execBypass s
  | .idcode => Sys2Proof.Machine.execIdcode s
  | .samplePreload cells => Sys2Proof.Machine.execSamplePreload cells s
  | .extest => Sys2Proof.Machine.execExtest s
  | .clamp => Sys2Proof.Machine.execClamp s
  | .highz => Sys2Proof.Machine.execHighz s
  | .extestPulse => Sys2Proof.Machine.execExtestPulse s
  | .extestTrain => Sys2Proof.Machine.execExtestTrain s
  | .dbgSelect => Sys2Proof.Machine.execDbgSelect s
  | .auxRefclkRestored oobSel => Sys2Proof.Machine.execAuxRefclkRestored oobSel s
  | .vddAuxInRange oobSel => Sys2Proof.Machine.execVddAuxInRange oobSel s
  | .feedBelowWarn => Sys2Proof.Machine.execFeedBelowWarn s
  | .currentReachesIlim k => Sys2Proof.Machine.execCurrentReachesIlim k s
  | .ltssmReturnsToDetect p => Sys2Proof.Machine.execLtssmReturnsToDetect p s
  | .correctableLinkError p c => Sys2Proof.Machine.execCorrectableLinkError p c s
  | .uncorrectableLinkError p c => Sys2Proof.Machine.execUncorrectableLinkError p c s
  | .entdaa a => Sys2Proof.Machine.execEntdaa a s
  | .setdasa => Sys2Proof.Machine.execSetdasa s
  | .mctpControlMessage cmd => Sys2Proof.Machine.execMctpControlMessage cmd s

end Sys2Proof.Machine
end

