-- ==== Sys2Proof/WellFormed.lean ====
section
/-!
DEFINITION. Which commands are well formed: the relations between the operands of one command that their types do not state (sizes that
match payloads, packet kinds that a row takes, lengths of messages). The step runs every command; these are what a sender keeps to.
-/
namespace Sys2Proof
open Sys2Proof.Machine

/-- Payload and size of a packet: a read or a response without data carries none, all else the data its size tells (R84, R85, R94), but for
writes and completions of PCI Express, whose payload may differ from their Length field (R124). -/
def Machine.Tlp.sizeOk (t : Tlp) : Bool :=
  match t.op with
  | .memWrite | .npWrite | .cpl => decide (t.payload.length ≤ 512)
  | .atomic | .cfgWrite | .msg => decide (t.payload.length = t.len)
  | .cMemWr | .cMemWrPtl | .drs => decide (t.payload.length = 64 ∧ t.len = 64)
  | .memRead | .cfgRead | .cMemRd | .ndr | .biSnp | .biRsp | .io => t.payload.isEmpty

/-- Bus, device and function numbers in range (R57, R87). -/
def Machine.Tlp.routeOk (t : Tlp) : Bool :=
  match t.route with
  | .byId bus dev fn => decide (bus < 256 ∧ dev < 32 ∧ fn < 8)
  | .type0 dev fn => decide (dev < 32 ∧ fn < 8)
  | _ => true

/-- A memory request of PCI Express: at most 4,096 bytes read or 512 written (R85), and an atomic operand of 4 to 32 bytes. -/
def Machine.Tlp.memoryOk (t : Tlp) : Bool :=
  t.sizeOk &&
    (match t.op with
     | .memRead => decide (t.len ≤ 4096)
     | .memWrite | .npWrite => decide (t.len ≤ 512)
     | .atomic => decide (4 ≤ t.len ∧ t.len ≤ 32)
     | _ => false)

/-- A CXL.mem request: one aligned line of 64 bytes (R84). -/
def Machine.Tlp.cxlMemOk (t : Tlp) : Bool :=
  t.sizeOk && decide (t.addr.toNat % 64 = 0) &&
    (match t.op with | .cMemRd => decide (t.len = 64) | .cMemWr | .cMemWrPtl => true | _ => false)

/-- A configuration request: a word number in `addr`, four byte enables, one word of data in a write (R66). -/
def Machine.Tlp.configOk (t : Tlp) : Bool :=
  t.sizeOk && t.routeOk && decide (t.addr.toNat < 1024 ∧ t.be.toNat < 16 ∧ t.len = 4) &&
    (match t.op with | .cfgRead | .cfgWrite => true | _ => false) &&
    (match t.route with | .type0 _ _ | .byId _ _ _ => true | _ => false)

/-- A response (R87). -/
def Machine.Tlp.responseOk (t : Tlp) : Bool :=
  t.sizeOk && (match t.op with | .cpl | .ndr | .drs | .biRsp => true | _ => false)

/-- A width in lanes (R241). -/
def widthOk (w : Nat) : Bool := w == 1 || w == 2 || w == 4 || w == 8 || w == 16

/-- A training result: a rate of R246, a width of lanes or none, at most 16 logical devices (R245). -/
def Machine.TrainResult.ok (r : TrainResult) : Bool := decide (r.rate ≤ 5 ∧ r.lds ≤ 16) && (r.width == 0 || widthOk r.width)

/-- No two of a list agree in `f`. -/
def noRepeat {α : Type} (f : α → Nat) (l : List α) : Bool := l.all (fun x => decide ((l.filter (fun y => f y == f x)).length = 1))

/-- What an MTICK edge brings: each slot measured once, each lane compared once, never more wrong bits than bits (R25, R262, R360). -/
def Machine.TickIn.ok (x : TickIn) : Bool :=
  noRepeat (fun (m : SlotMeas) => m.slot.val) x.slots && noRepeat (fun (c : Compared) => c.lane.val) x.lanes
    && x.lanes.all (fun c => decide (c.errors ≤ c.bits))

/-- The body of a fabric management packet, in words of 8 bytes, by type (R192). -/
def fmpBodyWords (typ : Nat) : Nat :=
  match typ with
  | 1 => 4
  | 2 => 60
  | 5 => 8
  | 6 => 4
  | 7 => 2
  | _ => 0

/-- A fabric management packet of a type: at most 8 hops, and the body of its type (R191, R192). -/
def Machine.Fmp.ok (f : Fmp) (typ : Nat) : Bool :=
  decide (f.typ.val = typ ∧ f.hopCount.val ≤ 8 ∧ f.body.length = fmpBodyWords typ)

/-- A slot of a DATA flit holds at most 16 bytes (R213, R219). -/
def Machine.FlitSlot.ok : FlitSlot → Bool
  | .data b => decide (b.length ≤ 16)
  | .header t ld => t.routeOk && (match ld with | some k => decide (k < 16) | none => true)
  | .start _ | .null => true

/-- Well-formed commands. -/
def Instr.wf (i : Instr) : Bool :=
  match i with
  | .coldRstNLow => true
  | .vddAuxOutOfRange _ => true
  | .auxRefclkLost => true
  | .coldRstNRise _ => true
  | .imageVerifyDone _ _ _ => true
  | .mainPowerEnable _ _ => true
  | .mainPowerGood => true
  | .mainPowerTimeout => true
  | .corePllLocked => true
  | .corePllTimeout => true
  | .coreInitialised => true
  | .firstBindingTimeout => true
  | .newStartAfterFail => true
  | .mainPowerLost => true
  | .quiesceForRemoval _ => true
  | .quiesceForFirmware _ => true
  | .resume _ => true
  | .restart _ => true
  | .quiesceDrainTimeout => true
  | .auxRefclkRestored _ => true
  | .vddAuxInRange _ => true
  | .mtick x => x.ok
  | .spinePpsEdge => true
  | .referenceLost _ => true
  | .holdoverExpired => true
  | .spnTimeLoRead _ => true
  | .timeLoadNow _ => true
  | .timeLoadAtPps _ => true
  | .spnUnitGroupWrite _ _ _ => true
  | .quireBind => true
  | .quireBindWithdraw => true
  | .bindingArm _ => true
  | .writeGateClose _ => true
  | .shadowParity _ => true
  | .bindingFire _ => true
  | .oldQuireRelease _ => true
  | .copyForwardBegin _ => true
  | .bindingComplete _ => true
  | .registerWrite _ _ _ => true
  | .blockLock _ _ => true
  | .startLoad _ => true
  | .configRequest _ t => t.configOk
  | .secondaryBusReset _ _ _ => true
  | .retrainLink _ _ => true
  | .linkDisable _ _ _ => true
  | .dpcTrigger _ _ _ => true
  | .dpcTriggerStatusClear _ _ => true
  | .busMasterEnableClear _ => true
  | .busMasterEnableSet _ => true
  | .initiateFunctionLevelReset _ => true
  | .vfEnableClear => true
  | .squashQueueCleared _ => true
  | .squashComplete _ => true
  | .drainComplete _ => true
  | .drainTimeout _ => true
  | .perstAssert _ => true
  | .perstDeassert _ => true
  | .hotResetReceived _ => true
  | .hierarchyRrsEnd _ => true
  | .hostMemoryRequest _ t => t.memoryOk && !t.locked
  | .cxlMemRequest _ t => t.cxlMemOk
  | .ioRequest _ _ _ => true
  | .messageReceived _ t => t.op == .msg && t.route != .unlock && t.sizeOk && t.routeOk
  | .devicePortRequest _ t => t.memoryOk && !t.locked
  | .bisnpReceived _ t => t.op == .biSnp && t.payload.isEmpty && decide (t.len = 64 ∧ t.ld < 48)
  | .fabricPacketReceived _ _ _ _ _ _ t => t.sizeOk && t.routeOk
  | .completionReceived _ t => t.responseOk
  | .lockedRead _ t => t.op == .memRead && t.memoryOk && decide (t.len ≠ 0)
  | .unlock _ => true
  | .lockExpired _ => true
  | .prefetchLifeExpired _ _ => true
  | .completionTimeout _ => true
  | .quarantineEnd _ => true
  | .nullifiedPacketReceived _ part => match part with | some x => x.tlp.routeOk | none => true
  | .mergeTimerExpired _ => true
  | .failoverTimerExpired _ => true
  | .egressSend _ starved _ _ => starved.all (fun o => decide ((starved.filter (fun x => x == o)).length = 1))
  | .routeHoldRelease _ => true
  | .linkDown _ => true
  | .flushComplete _ => true
  | .portBookmarksAnswered _ => true
  | .drainFenceClear => true
  | .completionFenceClear => true
  | .fenceExpired _ => true
  | .generationSlotFreed => true
  | .sqDoorbell _ _ _ => true
  | .cqDoorbell _ _ _ => true
  | .ringEnable _ _ _ => true
  | .ringDisable _ _ => true
  | .descriptorFetched _ => true
  | .nop => true
  | .fence => true
  | .quireStage => true
  | .folioWrite => true
  | .folioRead => true
  | .routeWrite => true
  | .gatherWrite => true
  | .gatherStageHalf => true
  | .migrateStart => true
  | .migrateAbort => true
  | .snapshot => true
  | .freeze => true
  | .thaw => true
  | .ledgerRead => true
  | .ledgerClear => true
  | .captureStart => true
  | .captureStop => true
  | .remoteCommand => true
  | .remoteTimeout _ => true
  | .pmcInstant _ => true
  | .pmcCntLoRead _ _ => true
  | .bitcntLoRead _ _ => true
  | .captureRecordWrite => true
  | .mirrorCopySend _ _ => true
  | .copyPassComplete _ => true
  | .granuleCopy _ => true
  | .settleComplete _ => true
  | .flipEdge _ => true
  | .holdExpired _ => true
  | .heatEpochBoundary => true
  | .heatReportComplete => true
  | .hello _ f => f.ok 1
  | .advertisementLapse _ _ => true
  | .electionSettled => true
  | .reportSend => true
  | .report _ f => f.ok 2
  | .reportAck _ f => f.ok 3
  | .reportBusy _ f => f.ok 4
  | .reportTimeout => true
  | .leave _ f => f.ok 7
  | .cmd _ f => f.ok 5
  | .cmdRsp _ f => f.ok 6
  | .dataFlit _ _ _ slots _ => decide (slots.length = 14) && slots.all FlitSlot.ok
  | .mgmtFlit _ _ _ ws _ => decide (ws.length = 28)
  | .idleFlit _ _ _ => true
  | .badFlit _ _ => true
  | .ack _ _ => true
  | .nak _ _ => true
  | .creditUpdate _ _ => true
  | .xoffMap _ _ => true
  | .nakTimerExpired _ => true
  | .replayTimerExpired _ => true
  | .initId _ _ _ _ => true
  | .initCredit _ _ _ m => decide (m.adv.length = 49)
  | .initDone _ _ _ m => decide (m.adv.length = 49)
  | .initTimeout _ => true
  | .timeReq _ _ _ _ _ => true
  | .timeRsp _ _ _ _ _ _ _ => true
  | .linkReset _ _ _ => true
  | .bflPortReset _ _ => true
  | .refclkLost _ => true
  | .refclkRestored _ => true
  | .calibrationDone _ => true
  | .receiverDetected _ => true
  | .linkTrained _ r => r.ok
  | .trainTimeout _ r => match r with | some x => x.ok | none => true
  | .recoveryComplete _ rate width => decide (rate.val ≤ 5) && widthOk width.val
  | .portRetrain _ _ => true
  | .l0pRequest _ width => widthOk width.val
  | .aspmL1Entry _ => true
  | .marginStop _ _ _ => true
  | .marginTiming _ _ _ => true
  | .marginVoltage _ _ _ => true
  | .marginDone _ _ => true
  | .inject _ _ => true
  | .clear _ _ => true
  | .checkerLock _ => true
  | .checkerLockLoss _ bits errors => decide (errors ≤ bits)
  | .ltssmReturnsToDetect _ => true
  | .correctableLinkError _ _ => true
  | .uncorrectableLinkError _ _ => true
  | .dmvSqDoorbell _ _ _ => true
  | .dmvCqDoorbell _ _ _ => true
  | .dmvRingEnable _ _ => true
  | .dmvRingDisable _ _ => true
  | .msixMaskWrite _ _ _ => true
  | .descriptorStart _ _ => true
  | .dmvNop => true
  | .copy => true
  | .fill => true
  | .compare => true
  | .digest => true
  | .copyDigest => true
  | .slotEnable _ _ => true
  | .slotDisable _ _ => true
  | .rearm _ _ => true
  | .slotPresenceSeen _ => true
  | .slotPresenceLost _ => true
  | .slotDebounceDone _ => true
  | .pchgTimeout _ => true
  | .rampTimeout _ => true
  | .overcurrent _ => true
  | .short _ => true
  | .slotUndervoltage => true
  | .slotRetryTimerExpired _ => true
  | .slotPerstRelease _ => true
  | .goodReset _ => true
  | .absenceTimeout _ => true
  | .feedGood _ => true
  | .feedNotGood _ => true
  | .feedRampTimeout => true
  | .feedBarEnd _ => true
  | .breakDeadTimeEnd => true
  | .feedRevert => true
  | .warnRelease => true
  | .feedBelowWarn => true
  | .currentReachesIlim _ => true
  | .prefer _ _ => true
  | .trial _ _ => true
  | .clearFails _ => true
  | .preferenceVerified _ _ => true
  | .readPage _ _ => true
  | .programPage _ _ => true
  | .eraseSector _ _ => true
  | .flashOpDone _ => true
  | .flashOpOverrun => true
  | .colophonAppend => true
  | .colophonSelect _ _ => true
  | .colophonReady => true
  | .csetSubmit _ _ => true
  | .advance => true
  | .programSlot => true
  | .revokeSlot => true
  | .raiseFloor => true
  | .debugEnable => true
  | .tamper _ => true
  | .voltageGlitch _ => true
  | .clockGlitch => true
  | .debugAccess _ _ => true
  | .bridgeLockOpen _ => true
  | .bridgeLockClose _ => true
  | .bridgeLockLimit => true
  | .bridgeReadTimeout => true
  | .crossingRetry => true
  | .getVersion _ => true
  | .getCapabilities _ => true
  | .negotiateAlgorithms _ => true
  | .getDigests _ => true
  | .getCertificate _ _ _ _ => true
  | .challenge _ => true
  | .getMeasurements _ _ _ _ => true
  | .keyExchange _ => true
  | .finish _ => true
  | .heartbeat _ => true
  | .keyUpdate _ => true
  | .endSession _ => true
  | .getPqSig _ _ => true
  | .getPqChain _ => true
  | .readStatus => true
  | .readColophon _ => true
  | .submitCset piece _ _ _ => decide (piece.length ≤ 4096)
  | .modeRequest _ _ => true
  | .readLedger _ => true
  | .readCounter _ => true
  | .entdaa _ => true
  | .setdasa => true
  | .mctpControlMessage _ => true
  | .tapReset => true
  | .bypass => true
  | .idcode => true
  | .samplePreload cells => cells.all (fun c => decide ((cells.filter (fun d => d.1 == c.1)).length = 1))
  | .extest => true
  | .clamp => true
  | .highz => true
  | .extestPulse => true
  | .extestTrain => true
  | .dbgSelect => true

end Sys2Proof
end

