-- ==== Sys2Proof/Safety.lean ====
section
/-!
DEFINITION. What statements about the device are said in: the invariant that every step keeps, states in which nothing is left to
be carried out, the canonical form of the addressed memories, and a register access that a row makes.
-/
namespace Sys2Proof.Machine

/-- A contained port is OFF (R255, R327). -/
def State.containedOff (s : State) : Prop := ∀ p, s.contained .port p = true → (s.port p).sup = .off

/-- Between steps: no consequence and no raise is left over, and every port under PORT containment is OFF (R255, R326, R327). -/
def State.Inv (s : State) : Prop := s.actions = [] ∧ s.raises = [] ∧ s.containedOff

/-- A state in which nothing goes on by itself. -/
structure State.Still (s : State) : Prop where
  /-- Nothing is left over. -/
  inv : s.Inv
  /-- The ports are listed canonically. -/
  ports : twf port0 s.links.ports = true
  /-- No data mover function is up (R280). -/
  mover : s.dmv.fns = []
  /-- No register access waits (R49, R376). -/
  waiting : s.mgmt.waiting = []
  /-- No command set is being read (R377). -/
  commandSet : s.mgmt.csetRead = none
  /-- No command ring is listed (R264), and no QUIRE_STAGE waits at a gate (R49). -/
  rings : s.rings.rings = [] ∧ s.rings.staging = none
  /-- No heat report has a part left (R184). -/
  heat : s.mig.heat.left = []
  /-- No copy write waits, and no settle read is left to send (R169, R172). -/
  migrations : s.mig.writes = [] ∧ ∀ x ∈ s.mig.ctxs, (s.ctx x.1).settleTodo = []
  /-- Every partner was told of the credits it has (R114). -/
  credits : ∀ x ∈ s.path.swPorts, (s.swPort x.1).fcInit = [] ∨ (s.swPort x.1).fcTold = s.fcGiven x.1
  /-- The last report tells what stands, where one is due (R201). -/
  report : s.fabric.st = .joined ∨ s.fabric.st = .anchored → s.fabric.report.last = s.reportFields
  /-- No active Brodoth link has anything to send at a flit boundary (R234). -/
  flits : ∀ x ∈ s.fabric.links, x.2.phase = .active → s.boundary x.1 = none

/-- The canonical form of an addressed memory: addresses strictly rising, and no byte listed that an unlisted address reads as
(`d`). -/
def Memory.wf (d : Byte) (m : List Host.Cell) : Bool := twf d m

/-- The addressed memories of the management complex, each in its canonical form: flash bytes are kept as their difference from
the erased value, code SRAM reads 0xFF and the scratchpad 0 where nothing is listed. -/
def State.memoriesWf (s : State) : Bool :=
  Memory.wf 0 s.mgmt.flash && Memory.wf 0xFF s.mgmt.sram && Memory.wf 0 s.mgmt.spad

/-- A BAR0 write that a row makes: it waits where the bridge or a gate holds it up (R49, R376), is dropped where the path does not
reach its register (R28, R420), and else has the effect `e`. -/
def State.written (s : State) (path : Path) (off w : Nat) (e : State) : State :=
  if s.mustWait path off true then s.waitFor (.write path off w) else if s.reaches path off then e else s

/-- A BAR0 read that a row makes: it waits where it is held up, is answered with nothing where the path does not reach the register,
and else gives the value out and has the effect `e` (R12, R36, R420). -/
def State.readOut (s : State) (path : Path) (off : Nat) (v : Nat) (e : State) : State :=
  if s.mustWait path off false then s.waitFor (.read path off)
  else if s.reaches path off then e.out (.value (some v)) else s.out (.value none)

/-- The effect stage of the next checked command when it is of a kind (R268): one
that advances the generation waits for a free slot (R102), and else the words of the decode and ring windows are used (R55), it leaves
the checked ones and has the effect `e`. -/
def State.effectStage (s : State) (kind : Cmd → Bool) (e : State → Cmd → State) : State :=
  match s.nextCmd with
  | none => s
  | some c =>
    if !kind c then s
    else if c.advances ∧ 14 ≤ s.liveSlots then s.modRings (fun x => { x with slotWait := true })
    else e ((s.useWords [1, 0xB] none none).modRings (fun x => { x with checked := x.checked.erase c, slotWait := false })) c

end Sys2Proof.Machine
end

