-- ==== Sys2Proof/Certificates/Slice0/Obligations.lean ====
section
/-!
DEFINITION. The statements for the provers, one definition each.
-/

open Sys2Proof Sys2Proof.Machine

/-- A step runs the command at the front of the queue: For every command and state, a step with the command at the front of the
queue is exec of that command on the state with the rest of the queue. The queue of commands is the model's own form (log entry
1). Follows R1, R4. -/
def Obligations.StepRunsFrontCommand : Prop :=
  ∀ (c : Instr) (rest : List Instr) (s : State),
    step { s with pending := c :: rest } = exec c { s with pending := rest }

/-- With no command waiting one CCLK passes, or nothing happens where no core clock runs: With an empty queue a step answers the
same state while the core does not run. While it runs, with no threshold counter selected, no request held, no port in L1 and no
instant pending, spine time advances by the increment, one CCLK is counted, and nothing else changes. That an empty queue stands
for one CCLK is the model's choice (log entry 3). Follows R25, R35. -/
def Obligations.IdleStepIsOneClockEdge : Prop :=
  ∀ s : State, s.pending = [] →
    (s.coreRuns = false → step s = .next s) ∧
    (s.coreRuns = true → s.thrSelected = [] → s.path.heldRx = [] → s.path.heldOut = [] →
      (∀ x ∈ s.links.ports, x.2.inL1 = false) → s.obs.instants = [] →
      step s = .next { s with spine := { s.spine with t40 := s.spine.t40 + s.spine.inc, cclk := s.spine.cclk + 1 } })

/-- Every command completes, leaves the queue alone, and leaves nothing undone: Every command in every state answers a next
state, never a fault or a refusal; the next state holds the queue it was given, and no consequence and no raise is left to be
carried out. Follows R1, R27. -/
def Obligations.EveryCommandCompletes : Prop :=
  ∀ (c : Instr) (s : State), ∃ t,
    exec c s = .next t ∧ t.pending = s.pending ∧ t.actions = [] ∧ t.raises = []

/-- The state after reset meets the invariant: At reset no consequence and no raise is left over, no port under PORT containment
is in a state other than OFF, and the addressed memories have their canonical form. Follows R17, R27, R255. -/
def Obligations.ResetMeetsInvariant : Prop :=
  State.reset.Inv ∧ State.reset.memoriesWf = true

/-- Every step keeps the invariant: a contained port stays OFF and nothing is left undone: From every state that meets the
invariant (no consequence and no raise left over, every port with an open PORT record OFF), whatever command waits and with none
waiting, the next state of a step meets it. Follows R255, R326, R327. -/
def Obligations.StepKeepsInvariant : Prop :=
  ∀ s t : State, s.Inv → step s = .next t → t.Inv

/-- An effect that leaves nothing to be carried out is the whole of the step: Where an effect leaves a still state (the
invariant holds, the ports are listed canonically, no data mover function is up, no command ring is listed, and no access,
command set, heat report, migration, credit, report or flit is under way), the end of the step changes nothing but the queue,
which is that of the state the step began at. Follows R326, R255. -/
def Obligations.QuietEffectEndsUnchanged : Prop :=
  ∀ s0 s : State, s.Still → s0.finish s = { s with pending := s0.pending }

/-- After a cold reset every register word, in every quire, has its reset value: After COLD_RST_N goes low, every BAR0 word of
the active quire, of the shadow quire and of the fields outside the quires has its stated reset value, so the active and shadow
quires hold the same values. Which reset restores a field that a lighter reset restores is said by other statements. Follows
R17. -/
def Obligations.ColdResetLeavesResetValues : Prop :=
  ∀ s t : State, exec .coldRstNLow s = .next t →
    ∀ off : Nat, t.act off = offReset off ∧ t.shad off = offReset off ∧ t.dir off = offReset off

/-- COLD_RST_N low, VDD_AUX out of range and AUX_REFCLK lost reset everything but what outlives a cold reset: Each of the three
commands completes in OFF with every part of the state at its reset value, but for the levels of the three pins (the one that
caused it is now bad), the serial number, the fuses, the flash, the written colophon records, and the pins of the ports; the
test access port keeps its instruction and cells while VDD_AUX is in range. With VDD_AUX leaving its range a record then being
written is torn. Queued colophon appends are lost (log entry 33). Follows R17, R27, R386, R406, R408. -/
def Obligations.ColdResetCommands : Prop :=
  ∀ s : State,
    (let cold := fun (m : Mgmt) (rst aux clk : Bool) =>
      { State.reset with
        glb := { glb0 with mode := .off, coldRstHigh := rst, vddAuxOk := aux, auxRefclkOk := clk, serial := s.glb.serial }
        links := { links0 with
          ports := (s.links.ports.filter (fun x => x.2.perst)).map (fun x => (x.1, { port0 with perst := true })) }
        mgmt := { mgmt0 with
          otp := m.otp, flash := m.flash, colo := m.colo, coloAt := m.coloAt,
          tap := if aux then m.tap else .idcode, cells := if aux then m.cells else [] }
        outbox := s.outbox, pending := s.pending, freeCtr := s.freeCtr }
    exec .coldRstNLow s = .next (cold s.mgmt false s.glb.vddAuxOk s.glb.auxRefclkOk) ∧
    exec .auxRefclkLost s = .next (cold s.mgmt s.glb.coldRstHigh s.glb.vddAuxOk false) ∧
    (∀ torn : Bool, exec (.vddAuxOutOfRange torn) s =
      .next (cold (match s.mgmt.coloQueue with
          | r :: _ => if torn then s.mgmt.writeColo { r with bad := true } else s.mgmt
          | [] => s.mgmt)
        s.glb.coldRstHigh false s.glb.auxRefclkOk)))

/-- The supplies and pins that begin a start, the main rails, the PLL and the time limits of a start: COLD_RST_N rising, VDD_AUX
back in range and AUX_REFCLK running again each set their pin; with the other two good, and the device in OFF (or never
started), OOB_SEL is sampled into MGT_OOB_CTL, the mode becomes AUX, the warning is asserted while no feed is connected, the
mode change is recorded, and the boot ROM begins a start. Else nothing but the pin changes. PWR_MAIN_GOOD is noted outside OFF
and restarts the wait for the PLL of a start that awaits the core; the PLL's lock is noted for such a start with the rails good.
Each time limit acts only in its case and when its MTICK have passed: 160 without PWR_MAIN_GOOD (cause 2), 1 without the PLL
(cause 3), 1,440 without a completed first binding (cause 4), and 160 after a failure begin a new start. Follows R27, R406,
R407, R408, R369, R381. -/
def Obligations.StartPowerAndTimers : Prop :=
  (∀ (s : State) (sel : Bool),
    (let goes := fun (s1 : State) (others : Bool) =>
      if (s1.glb.mode = .off ∨ s1.mgmt.boot.phase = .idle) ∧ others = true then
        let s2 := s1.setDir 0x1200060 (BitVec.ofNat 32 (0x62 + place (b2n sel) 8 8))
        let s3 := { s2 with glb := { s2.glb with mode := .aux } }
        ((if s3.power.feed.warns then s3.warnOn else s3).colophon 6 0 0xFFFF).beginStart
      else s1
    exec (.coldRstNRise sel) s = .next (s.finish (goes { s with glb := { s.glb with coldRstHigh := true } }
      (s.glb.vddAuxOk && s.glb.auxRefclkOk))) ∧
    exec (.vddAuxInRange sel) s = .next (s.finish (goes { s with glb := { s.glb with vddAuxOk := true } }
      (s.glb.coldRstHigh && s.glb.auxRefclkOk))) ∧
    exec (.auxRefclkRestored sel) s = .next (s.finish (goes { s with glb := { s.glb with auxRefclkOk := true } }
      (s.glb.coldRstHigh && s.glb.vddAuxOk))))) ∧
  (∀ s : State,
    exec .mainPowerGood s = .next (s.finish
      (if s.glb.mode = .off then s
      else { s with
        power := { s.power with mainGood := true }
        mgmt := { s.mgmt with boot := if s.awaitsCore then { s.mgmt.boot with wait := 0 } else s.mgmt.boot } })) ∧
    exec .corePllLocked s = .next (s.finish
      (if s.awaitsCore ∧ s.power.mainGood then { s with mgmt := { s.mgmt with boot := { s.mgmt.boot with pll := true } } } else s)) ∧
    exec .mainPowerTimeout s = .next (s.finish
      (if s.glb.mode = .aux ∧ s.mgmt.boot.phase = .firmware ∧ s.mainEn ∧ !s.power.mainGood ∧ 160 ≤ s.mgmt.boot.wait
        then s.startFail 2 else s)) ∧
    exec .corePllTimeout s = .next (s.finish
      (if s.glb.mode = .aux ∧ s.awaitsCore ∧ s.power.mainGood ∧ !s.mgmt.boot.pll ∧ 1 ≤ s.mgmt.boot.wait then s.startFail 3 else s)) ∧
    exec .firstBindingTimeout s = .next (s.finish
      (if (s.glb.mode = .standalone ∨ s.glb.mode = .member) ∧ !s.glb.firstBound ∧ 1440 ≤ s.mgmt.boot.mticks
        then s.startFail 4 else s)) ∧
    exec .newStartAfterFail s = .next (s.finish
      (if s.mgmt.boot.phase = .failWait ∧ 160 ≤ s.mgmt.boot.wait then s.beginStart else s)) ∧
    (∀ (path : Path) (en : Bool), exec (.mainPowerEnable path en) s = .next (s.finish
      (s.written path 0x1100C00 (b2n en) (s.mainEnableWritten en)))))

/-- A start begins: ENDPAPER, or an image to verify, by life cycle, keys and failed starts: A start from a state with room in
the colophon queue goes to ENDPAPER exactly when the life cycle is BLANK, RETURN or RETIRED, or PROVISION with no usable key
slot, or when 3 or more starts have failed in PROVISION or DEPLOYED. In ENDPAPER the main rails are enabled and the last record
queued is ENDPAPER_ENTERED. Otherwise the boot ROM verifies the first choice, the mode stays, and the last record queued is
START_BEGIN, with the count of failed starts one higher, at most 7. Either way the group of R357 is 0, and the keys are there.
Follows R27, R357, R381, R387, R390. -/
def Obligations.StartDecision : Prop :=
  ∀ s : State, s.mgmt.coloQueue.length < 8 →
    (let m := s.mgmt
    let t := s.beginStart
    let endpaper : Bool :=
      m.otp.lc == .blank || m.otp.lc == .returned || m.otp.lc == .retired
        || (m.otp.lc == .provision && (!m.otp.anyUsable || decide (3 ≤ m.fails)))
        || (m.otp.lc == .deployed && decide (3 ≤ m.fails))
    t.mgmt.keysGone = false ∧ t.power.stage = 0 ∧
    (endpaper = true →
      t.glb.mode = .endpaper ∧ t.mainEn = true ∧ t.mgmt.boot.phase = .endpaper ∧
      ∃ r, t.mgmt.coloQueue = m.coloQueue ++ [r] ∧ r.event = 7 ∧ r.mode = 2 ∧ r.fails = m.fails) ∧
    (endpaper = false →
      t.glb.mode = s.glb.mode ∧ t.mgmt.boot.phase = .rom ∧ t.mgmt.boot.image = b2n m.firstChoice ∧
      ∃ r, t.mgmt.coloQueue = m.coloQueue ++ [r] ∧ r.event = 1 ∧ r.image = b2n m.firstChoice ∧ r.fails = min (m.fails + 1) 7))

/-- Verification of an image: its firmware runs, the other image is tried, or the start fails: IMAGE_VERIFY_DONE acts only while
the boot ROM runs. An uncorrectable memory error fails the start with cause 6. An image that verifies is measured, its plan,
VERSION and SVN are taken, firmware runs, and IMAGE_VERIFIED is recorded. The first image that does not verify is followed by
the other one, which is copied to code SRAM, and source 1,531 is held; the second one fails the start with cause 1. An image
verifies exactly when its fields are as R379 and R380 ask, the digest of its keys stands in a key slot that is not revoked, SVN
is at least the floor, and both signatures verify. That an empty start plan does not verify is the model's choice (log entry
107). Follows R372, R379, R380, R382. -/
def Obligations.ImageVerification : Prop :=
  (∀ (s : State) (ed pq memErr : Bool),
    (let m := s.mgmt
    let b : Bool := m.boot.image == 1
    exec (.imageVerifyDone ed pq memErr) s = .next (s.finish
      (if m.boot.phase ≠ .rom then s
      else if memErr then s.startFail 6
      else if m.verifies b ed pq then
        ({ s with mgmt := { m with
            boot := { m.boot with
              phase := .firmware, onTrial := m.trial && m.pref == b, wait := 0, plan := m.codeByte b (m.imgNum b 0x18 4),
              version := m.imgNum b 8 4, svn := m.imgNum b 0xC 2,
              meas := Config.sha384 (m.flashRead (slotBaseOf b) 0x800 ++ m.flashRead (slotBaseOf b + 0x2000) (m.imgNum b 0x10 4)),
              security := some m.securityNow } } }).colophon 2 0 0xFFFF
      else if m.boot.second then ({ s with mgmt := { m with boot := { m.boot with image := 2 } } }).startFail 1
      else { s with mgmt := { m with boot := { m.boot with image := b2n (!b), second := true, held := true } }.copyImage (!b) })))) ∧
  (∀ (m : Mgmt) (b ed pq : Bool),
    (let len := m.imgNum b 0x10 4
    let plan := m.imgNum b 0x18 4
    let mode := m.codeByte b plan
    m.verifies b ed pq = true ↔
      m.imgNum b 0 4 = 0x445A4331 ∧ m.imgNum b 4 4 = 1 ∧ len % 4 = 0 ∧ len ≤ 524288 ∧ m.imgNum b 0x14 4 < len ∧
      1 ≤ m.imgNum b 0x1C 4 ∧ plan + m.imgNum b 0x1C 4 ≤ len ∧ (1 ≤ mode ∧ mode ≤ 3) ∧
      (∃ k, k < 4 ∧ (tget keySlot0 m.otp.slots k).revoked = false ∧
        (tget keySlot0 m.otp.slots k).digest = some (Config.sha384 (m.flashRead (slotBaseOf b + 0x20) 0x7C0))) ∧
      m.otp.floor ≤ m.imgNum b 0xC 2 ∧ ed = true ∧ pq = true))

/-- A failed start: recorded with its cause, the rails off, the core off, AUX, and a new start to come: A start that fails
leaves mode AUX with the main rails disabled and the core off, waiting for the new start; with room in the colophon queue the
last record is START_FAIL with its cause and MODE AUX; when the image that was running was preferred on trial, the preference
moves to the other image and the trial ends. Follows R27, R381, R382, R387. -/
def Obligations.StartFailure : Prop :=
  ∀ (s : State) (cause : Nat), s.mgmt.coloQueue.length < 8 →
    (let t := s.startFail cause
    let moves : Bool := s.mgmt.boot.phase == .firmware && s.mgmt.trial && s.mgmt.boot.image == b2n s.mgmt.pref
    t.glb.mode = .aux ∧ t.glb.coreUp = false ∧ t.mainEn = false ∧ t.mgmt.boot.phase = .failWait ∧
    ∃ r, t.mgmt.coloQueue = s.mgmt.coloQueue ++ [r] ∧ r.event = 4 ∧ r.cause = cause % 256 ∧ r.mode = 1 ∧
      r.pref = (if moves then !s.mgmt.pref else s.mgmt.pref) ∧ r.trial = (if moves then false else s.mgmt.trial))

/-- Core initialised, main power lost, and GLB_MODE_CTL: quiesce, resume, restart, or refused and counted: With the rails good
and the PLL locked, a start that awaits the core enters TEST, STANDALONE or MEMBER as the start plan says (TEST is at once a
success of the start), raising source 1,531 if it was held; in ENDPAPER port P00 is provided and its stack calibrates. When
PWR_MAIN_GOOD deasserts with the core in use the device goes to AUX with the loss recorded, the failed start that START_BEGIN
had counted is taken back, and what ran keeps its identity until firmware begins a new start. Where the write reaches
GLB_MODE_CTL: REQ 1 and 2 quiesce in STANDALONE, MEMBER and ANCHOR with that cause, send LEAVE and end the migrations; REQ 3
resumes from QUIESCED with no DEVICE-FATAL record open, ANCHOR as MEMBER, with the cause 0; REQ 4 restarts from QUIESCED, TEST
and ENDPAPER. Any other request increments REFUSED_COUNT and does nothing else. 80 MTICK after entry into QUIESCED with cause 1
or 2 every bookmark not in quarantine is answered. Follows R27, R242, R246, R252, R381, R382, R388, R30, R31. -/
def Obligations.ModeCommands : Prop :=
  (∀ s : State,
    exec .coreInitialised s = .next (s.finish
      (if s.awaitsCore ∧ s.power.mainGood ∧ s.mgmt.boot.pll then
        let s1 := { s with glb := { s.glb with coreUp := true } }
        let s2 := if s.mgmt.boot.held then
            ({ s1 with mgmt := { s1.mgmt with boot := { s1.mgmt.boot with held := false } } }).raiseDev 1531 else s1
        if s.glb.mode = .endpaper then
          (((s2.checkProvided false).modStack 0 (fun x => { x with calibrating := true })).push .reselect).push .recheck
        else if s.mgmt.boot.plan = 1 then (s2.setMode .test).startOk
        else if s.mgmt.boot.plan = 2 then (s2.setMode .standalone).colophon 6 0 0xFFFF
        else ((s2.setMode .member).colophon 6 0 0xFFFF).push .elect
      else s)) ∧
    exec .mainPowerLost s = .next (s.finish
      (let s1 := { s with power := { s.power with mainGood := false } }
      if s.glb.mode = .off ∨ s.glb.mode = .aux then
        { s1 with mgmt := { s1.mgmt with boot := { s1.mgmt.boot with pll := false } } }
      else
        let c := s.mgmt.boot.counted
        ((s1.colophon 5 0 0xFFFF (fun r => { r with
          mode := 1, fails := if c then r.fails - 1 else r.fails,
          failed := if c ∧ r.failed ≠ 0xFFFFFFFF then r.failed - 1 else r.failed })).toAux).modBoot (fun b =>
            { boot0 with phase := .lossWait, image := b.running, version := b.version, svn := b.svn, meas := b.meas,
                         plan := b.plan, security := b.security,
                         mticks := b.mticks })))) ∧
  (∀ (s : State) (path : Path),
    (let refused : State := { s with glb := { s.glb with refused := (s.glb.refused + 1) % 256 } }
    let running : Bool := s.glb.mode == .standalone || s.glb.mode == .member || s.glb.mode == .anchor
    let resumed : State := s.changeMode (if s.glb.enteredFrom = .anchor then .member else s.glb.enteredFrom) 0 0xFFFF
    exec (.quiesceForRemoval path) s = .next (s.finish (s.written path 0x44 1
      (if running then ((s.enterQuiesced 1 0xFFFF).sendLeave.migQuiesce).push .elect else refused))) ∧
    exec (.quiesceForFirmware path) s = .next (s.finish (s.written path 0x44 2
      (if running then ((s.enterQuiesced 2 0xFFFF).sendLeave.migQuiesce).push .elect else refused))) ∧
    exec (.resume path) s = .next (s.finish (s.written path 0x44 3
      (if s.glb.mode = .quiesced ∧ !s.contained .device 0 then
        (({ resumed with glb := { resumed.glb with quiesceCause := 0 } }).push .elect).push .retryHeld
      else refused))) ∧
    exec (.restart path) s = .next (s.finish (s.written path 0x44 4
      (if s.glb.mode = .quiesced ∨ s.glb.mode = .test ∨ s.glb.mode = .endpaper then
        ((s.setMode .aux).colophon 6 0 0xFFFF).toAux.beginStart
      else refused))) ∧
    exec .quiesceDrainTimeout s = .next (s.finish
      (if s.glb.mode = .quiesced ∧ (s.glb.quiesceCause = 1 ∨ s.glb.quiesceCause = 2) ∧ 80 ≤ s.mgmt.boot.wait then
        s.each s.path.bookmarks (fun s x => if x.2.quarantined then s else s.push (.bmResult x.1 none 0 .quiesced))
      else s))))

/-- A mode change sets MODE and PREV_MODE and counts; entry into QUIESCED keeps where it came from: A change to another mode
sets MODE, keeps the mode before it as PREV_MODE and adds one to TRANSITION_COUNT modulo 256; no change leaves the three as they
are. MODE, PREV_MODE and the counts read in GLB_MODE_STATUS where R29 puts them; after reset it reads mode AUX with OFF before
it. Follows R29. -/
def Obligations.ModeChangeBookkeeping : Prop :=
  (∀ (s : State) (m : Mode),
    (m ≠ s.glb.mode → (s.setMode m).glb = { s.glb with
      mode := m, prevMode := s.glb.mode, transitions := (s.glb.transitions + 1) % 256 }) ∧
    (m = s.glb.mode → s.setMode m = s)) ∧
  (∀ s : State, s.glb.refused < 256 → s.glb.transitions < 256 → s.glb.quiesceCause < 8 →
    bitsOf s.modeStatus 2 0 = modeCode s.glb.mode ∧ bitsOf s.modeStatus 5 3 = modeCode s.glb.prevMode ∧
    bitsOf s.modeStatus 11 9 = s.glb.quiesceCause ∧ bitsOf s.modeStatus 23 16 = s.glb.transitions ∧
    bitsOf s.modeStatus 31 24 = s.glb.refused) ∧
  State.reset.modeStatus = 1

/-- MGT_START_CTL and the preferred image; the colophon: a queued record is written, a record is read back: PREFER and TRIAL of
a slot begin its verification unless one runs, then they are refused and counted; CLEAR_FAILS appends a record with F = 0 in
ENDPAPER and is refused elsewhere. When a verification ends, an image that verifies becomes the preference (on trial for TRIAL)
by a record, one that does not counts as a refusal; without a verification nothing happens. With no flash operation under way
the oldest queued record is written to the next place, modulo 1,024, and entering a sector erases the one after it; with one
under way, or an empty queue, nothing happens. A write of MGT_COLO_IDX.BACK keeps the number and clears READY; then the record
that lies BACK before the newest valid one is loaded. Follows R383, R386, R399. -/
def Obligations.ImagesAndColophon : Prop :=
  (∀ (s : State) (path : Path) (b : Bool),
    (let refused : State := { s with mgmt := { s.mgmt with startRefused := (s.mgmt.startRefused + 1) % 256 } }
    let verify := fun (t : Bool) => if s.mgmt.verifying.isSome then refused
      else { s with mgmt := { s.mgmt with verifying := some (b, t) } }
    exec (.prefer path b) s = .next (s.finish (s.written path 0x1200008 (1 + b2n b) (verify false))) ∧
    exec (.trial path b) s = .next (s.finish (s.written path 0x1200008 (3 + b2n b) (verify true))) ∧
    exec (.clearFails path) s = .next (s.finish (s.written path 0x1200008 5
      (if s.glb.mode = .endpaper then s.colophon 8 0 0xFFFF (fun r => { r with fails := 0 }) else refused))) ∧
    (∀ (ed pq : Bool), exec (.preferenceVerified ed pq) s = .next (s.finish
      (match s.mgmt.verifying with
      | none => s
      | some (slotB, trial) =>
        let s1 : State := { s with mgmt := { s.mgmt with verifying := none } }
        if s1.mgmt.verifies slotB ed pq then s1.colophon 12 0 0xFFFF (fun r => { r with pref := slotB, trial := trial })
        else { s1 with mgmt := { s1.mgmt with startRefused := (s1.mgmt.startRefused + 1) % 256 } }))))) ∧
  (∀ (s : State) (path : Path) (back : Fin 1024),
    exec .colophonAppend s = .next (s.finish
      (match s.mgmt.coloQueue, s.mgmt.flashOp with
      | r :: rest, none =>
        let k := match s.mgmt.coloAt with | some j => (j + 1) % 1024 | none => 0
        let kept := if k % 64 = 0 then
            s.mgmt.colo.filter (fun x => x.1 / 64 != (k / 64 + 1) % 16 && x.1 / 64 != k / 64) else s.mgmt.colo
        { s with mgmt := { s.mgmt with colo := tput coloRec0 kept k r, coloAt := some k, coloQueue := rest } }
      | _, _ => s)) ∧
    exec (.colophonSelect path back) s = .next (s.finish (s.written path 0x1200020 back.val
      ((s.setDir 0x1200020 (BitVec.ofNat 32 back.val)).modMgt (fun m => { m with coloReady := false })))) ∧
    exec .colophonReady s = .next (s.finish
      { s with mgmt := { s.mgmt with coloReady := true, coloData := s.mgmt.coloBack (s.dirF 0x1200020 9 0) } }))

/-- Flash operations: what begins one, what refuses it, and what it leaves: READ_PAGE needs a page address, PROGRAM_PAGE a page
and ERASE_SECTOR a sector address in an image slot that is not the running one, and none of them begins while an operation runs:
else it is refused and counted. When the operation ends without error, a read loads the page buffer, a program clears the bits
of the page that are 0 in the buffer, an erase unlists 4,096 bytes; an overrun ends the operation with an error. What an
operation that failed leaves in flash or buffer is free. Follows R384, R399. -/
def Obligations.FlashOperations : Prop :=
  ∀ (s : State) (path : Path) (a : Fin 16777216),
    (let refused : State := { s with mgmt := { s.mgmt with flashRefused := (s.mgmt.flashRefused + 1) % 256 } }
    let begin := fun (o : FlashOp) => ({ s with mgmt := { s.mgmt with flashOp := some (o, a.val) } } : State)
    let inSlot : Bool := decide (0x10000 ≤ a.val ∧ a.val < 0x1F0000) && !s.inRunningSlot a.val
    exec (.readPage path a) s = .next (s.finish (s.written path 0x1200010 (2 ^ 28 * 1 + a.val)
      (if s.mgmt.flashOp.isSome ∨ a.val % 256 ≠ 0 then refused else begin .read))) ∧
    exec (.programPage path a) s = .next (s.finish (s.written path 0x1200010 (2 ^ 28 * 2 + a.val)
      (if s.mgmt.flashOp.isSome ∨ a.val % 256 ≠ 0 ∨ !inSlot then refused else begin .program))) ∧
    exec (.eraseSector path a) s = .next (s.finish (s.written path 0x1200010 (2 ^ 28 * 3 + a.val)
      (if s.mgmt.flashOp.isSome ∨ a.val % 4096 ≠ 0 ∨ !inSlot then refused else begin .erase))) ∧
    (let ended := fun (err : Bool) =>
      match s.mgmt.flashOp with
      | none => s
      | some (op, x) =>
        let s1 : State := { s with mgmt := { s.mgmt with flashOp := none, flashError := err } }
        match op, err with
        | .read, false => s1.setFlashBuf (s1.mgmt.flashRead x 256)
        | .read, true => (s1.drawBytes 256).2.setFlashBuf (s1.drawBytes 256).1
        | .program, false => s1.modMgt (fun m => m.flashPut x ((s1.flashBuf.zip (m.flashRead x 256)).map (fun y => y.1 &&& y.2)))
        | .program, true => (s1.drawBytes 256).2.modMgt (fun m => m.flashPut x (s1.drawBytes 256).1)
        | .erase, false => { s1 with mgmt := { s1.mgmt with
            flash := s1.mgmt.flash.filter (fun y => !decide (x ≤ y.1 ∧ y.1 < x + 4096)) } }
        | .erase, true => (s1.drawBytes 4096).2.modMgt (fun m => m.flashPut x (s1.drawBytes 4096).1)
    (∀ err : Bool, exec (.flashOpDone err) s = .next (s.finish (ended err))) ∧
    exec .flashOpOverrun s = .next (s.finish (ended true))))

/-- Programming a page changes its 256 bytes and no others, and only from 1 to 0: In a flash in canonical form, putting the
bytewise AND of a 256-byte buffer and the page stores exactly that at the page: a byte of flash outside the page reads as
before, a byte in it reads as buffer AND old byte, and the form stays canonical. Follows R378, R384. -/
def Obligations.FlashMemoryFrame : Prop :=
  ∀ (m : Mgmt) (a : Nat) (buf : List Byte), Memory.wf 0 m.flash = true → buf.length = 256 → 0x10000 ≤ a →
    (let t := m.flashPut a ((buf.zip (m.flashRead a 256)).map (fun x => x.1 &&& x.2))
    Memory.wf 0 t.flash = true ∧
    (∀ b, b < a ∨ a + 256 ≤ b → t.flashByte b = m.flashByte b) ∧
    (∀ k, k < 256 → t.flashByte (a + k) = buf.getD k 0 &&& m.flashByte (a + k)))

/-- A command set: refused with its result, or its commands change fuses and debug access, each when first in line: With no set
being read, or one that is not read whole yet, nothing happens. A set that could not be read ends with RESULT 9; one that fails
a check ends with that check's result; either way a new nonce is drawn, and source 1,534 is raised. A set that passes every
check makes its commands wait, in order. GO has no effect while a set is processed; else it makes CSET busy and begins the read,
at the address set, through the management endpoint for a host's write and from the local bus for one of the management complex.
Each of the five rows acts on the first waiting command when that has its opcode, and else changes nothing. A command that the
fuses no longer accept ends the set with RESULT 7, an ADVANCE outside QUIESCED, TEST and ENDPAPER with RESULT 8. PROGRAM_SLOT,
REVOKE_SLOT, RAISE_FLOOR and DEBUG_ENABLE leave the fuses that R389 and R390 give, and the set ends with RESULT 1 after its last
command. ADVANCE also erases both image slots when the new state is RETIRED, wipes the secure region, records the change, ends
the set and restarts the device. Follows R390, R399, R389, R391, R392. -/
def Obligations.CommandSets : Prop :=
  (∀ (s : State) (ed pq : Bool),
    (let refuse := fun (r : Nat) =>
      ({ s with
        mgmt := { s.mgmt with
          nonce := Config.freeNat s.freeCtr % 2 ^ 64, csetResult := r, csetBusy := false, csetQ := [], csetRead := none }
        freeCtr := s.freeCtr + 1 } : State).raiseDev 1534
    let read := fun (r : CsetRead) => r.failed || decide (r.len ≤ r.got.length)
    (s.mgmt.csetRead = none → exec (.csetSubmit ed pq) s = .next (s.finish s)) ∧
    (∀ r, s.mgmt.csetRead = some r → read r = false → exec (.csetSubmit ed pq) s = .next (s.finish s)) ∧
    (∀ r, s.mgmt.csetRead = some r → r.failed = true → exec (.csetSubmit ed pq) s = .next (s.finish (refuse 9))) ∧
    (∀ r, s.mgmt.csetRead = some r → r.failed = false → read r = true → s.csetCheck r.got ed pq ≠ 1 →
      exec (.csetSubmit ed pq) s = .next (s.finish (refuse (s.csetCheck r.got ed pq)))) ∧
    (∀ r, s.mgmt.csetRead = some r → r.failed = false → read r = true → s.csetCheck r.got ed pq = 1 →
      exec (.csetSubmit ed pq) s = .next (s.finish { s with mgmt := { s.mgmt with
        csetBusy := true, csetRead := none, csetQ := setCmds r.got (leNat ((r.got.drop 6).take 2)) } })) ∧
    (∀ (path : Path) (len : Nat),
      (s.mgmt.csetBusy = true → s.csetGo path len = s) ∧
      (s.mgmt.csetBusy = false → s.csetGo path len = ({ s with mgmt := { s.mgmt with
        csetBusy := true
        csetRead := some ⟨(match path with | .fw _ => none | .mf => if s.glb.mode = Mode.endpaper then some 48 else s.privHier),
          2 ^ 32 * (s.dir 0x1200034).toNat + (s.dir 0x1200030).toNat, len, [], none, false⟩ } }).csetFetch)))) ∧
  (∀ s : State,
    (let row := fun (op : Nat) (done : State → State) =>
      match s.mgmt.csetQ with
      | [] => s
      | c :: rest =>
        if c.op ≠ op then s
        else if op = 1 ∧ s.glb.mode ≠ .quiesced ∧ s.glb.mode ≠ .test ∧ s.glb.mode ≠ .endpaper then s.csetEnd 8
        else match s.mgmt.otp.apply c rest.isEmpty with
          | none => s.csetEnd 7
          | some o => done { s with mgmt := { s.mgmt with otp := o, csetQ := rest, debugOn := s.mgmt.debugOn || op == 5 } }
    let last := fun (t : State) => if t.mgmt.csetQ.isEmpty then t.csetEnd 1 else t
    exec .advance s = .next (s.finish (row 1 (fun t =>
      (((if t.mgmt.otp.lc = .retired then
          { t with mgmt := { t.mgmt with flash := t.mgmt.flash.filter (fun x => !decide (0x10000 ≤ x.1 ∧ x.1 < 0x1F0000)) } }
        else t).wipe.colophon 11 0 0xFFFF).csetEnd 1).restart))) ∧
    exec .programSlot s = .next (s.finish (row 2 last)) ∧
    exec .revokeSlot s = .next (s.finish (row 3 last)) ∧
    exec .raiseFloor s = .next (s.finish (row 4 last)) ∧
    exec .debugEnable s = .next (s.finish (row 5 last))))

/-- No command takes the life cycle back, and RETIRED is its end: Whatever command the fuses accept: the life cycle either stays
or follows R389's table (BLANK to PROVISION, PROVISION to DEPLOYED, DEPLOYED to RETURN, and PROVISION, DEPLOYED or RETURN to
RETIRED), so its code never falls; the security version floor never falls; a revoked key slot stays revoked. Follows R389, R390.
-/
def Obligations.LifeCycleOrder : Prop :=
  ∀ (o n : Otp) (c : CsetCmd) (last : Bool), o.apply c last = some n →
    (n.lc = o.lc ∨ (o.lc, n.lc) ∈
      [(.blank, .provision), (.provision, .deployed), (.deployed, .returned), (.provision, .retired), (.deployed, .retired),
       (.returned, .retired)]) ∧
    lcCode o.lc ≤ lcCode n.lc ∧ o.floor ≤ n.floor ∧
    (∀ k, k < 4 → twf keySlot0 o.slots = true → (tget keySlot0 o.slots k).revoked = true → (tget keySlot0 n.slots k).revoked = true)

/-- Tamper inputs and glitches; debug accesses; the bridge, its lock, limit, timeout and retries: Outside OFF: a tamper input
sets its latch, counts, appends a record of event 9 and raises source 1,528, and wipes the secure region when its action says
so; a voltage glitch (core or auxiliary) and a clock glitch set their latch, count, append a record of event 10, raise 1,529 or
1,530 and always wipe; while the boot ROM works on a start the glitch also fails it with cause 5. Wiping zeroes the secure
region and takes the attestation keys away, and leaves the rest of the scratchpad. A debug access has an effect only outside OFF
with DBG_SELECT loaded; one that R392 denies is counted, raises source 1,532 and is answered with an error; one that is served
reads or writes the code SRAM or the scratchpad at its address. A processor opens a locked sequence when none is open and closes
its own; the limit closes any and is counted. A read timeout raises 1,533, is answered with an error and drops the oldest
waiting read of the management side; a retry is counted. Follows R373, R391, R372, R374, R376, R377, R392, R418. -/
def Obligations.SecurityCommands : Prop :=
  (∀ s : State,
    (let glitch := fun (k src : Nat) =>
      if s.glb.mode = .off then s
      else
        let s1 : State := { s with mgmt := { s.mgmt with latches := sadd s.mgmt.latches k, glitches := (s.mgmt.glitches + 1) % 256 } }
        let s2 := ((s1.colophon 10 0 src).raiseDev src).wipe
        if s2.mgmt.boot.phase == .rom then s2.startFail 5 else s2
    (∀ k : Fin 2, exec (.tamper k) s = .next (s.finish
      (if s.glb.mode = .off then s
      else
        let s1 : State := { s with mgmt := { s.mgmt with
          latches := sadd s.mgmt.latches k.val, tampers := (s.mgmt.tampers + 1) % 256 } }
        let s2 := (s1.colophon 9 0 1528).raiseDev 1528
        if s2.dirF 0x1200050 (2 * k.val + 1) (2 * k.val) = 1 then s2.wipe else s2))) ∧
    exec (.voltageGlitch false) s = .next (s.finish (glitch 2 1529)) ∧
    exec (.voltageGlitch true) s = .next (s.finish (glitch 3 1529)) ∧
    exec .clockGlitch s = .next (s.finish (glitch 4 1530)) ∧
    s.wipe = { s with mgmt := { s.mgmt with keysGone := true, spad := s.mgmt.spad.filter (fun x => x.1 < 0x20020000) } })) ∧
  (∀ s : State,
    (∀ (a : Word) (w : Option Word),
      (s.glb.mode = .off ∨ s.mgmt.tap ≠ .dbgSelect → exec (.debugAccess a w) s = .next (s.finish s)) ∧
      (s.glb.mode ≠ .off → s.mgmt.tap = .dbgSelect → s.debugDenied a.toNat = true →
        exec (.debugAccess a w) s = .next (s.finish
          (({ s with mgmt := { s.mgmt with denied := (s.mgmt.denied + 1) % 65536 } }.raiseDev 1532).out (.value none)))) ∧
      (s.glb.mode ≠ .off → s.mgmt.tap = .dbgSelect → s.debugDenied a.toNat = false → a.toNat % 4 = 0 →
        0x10000000 ≤ a.toNat → a.toNat < 0x10080000 →
        exec (.debugAccess a w) s = .next (s.finish (match w with
          | none => s.out (.value (some (memWord 0xFF s.mgmt.sram (a.toNat - 0x10000000))))
          | some v => { s with mgmt := { s.mgmt with sram := putMemWord 0xFF s.mgmt.sram (a.toNat - 0x10000000) v.toNat } }))) ∧
      (s.glb.mode ≠ .off → s.mgmt.tap = .dbgSelect → s.debugDenied a.toNat = false → a.toNat % 4 = 0 →
        0x20000000 ≤ a.toNat → a.toNat < 0x20040000 →
        exec (.debugAccess a w) s = .next (s.finish (match w with
          | none => s.out (.value (some (memWord 0 s.mgmt.spad a.toNat)))
          | some v => { s with mgmt := { s.mgmt with spad := putMemWord 0 s.mgmt.spad a.toNat v.toNat } })))) ∧
    (∀ p : Fin 2,
      exec (.bridgeLockOpen p) s = .next (s.finish
        (if s.mgmt.brgLock.isNone then { s with mgmt := { s.mgmt with brgLock := some p } } else s)) ∧
      exec (.bridgeLockClose p) s = .next (s.finish
        (if s.mgmt.brgLock = some p then { s with mgmt := { s.mgmt with brgLock := none } } else s))) ∧
    exec .bridgeLockLimit s = .next (s.finish
      (if s.mgmt.brgLock.isSome then
        { s with mgmt := { s.mgmt with brgLock := none, lockLimits := (s.mgmt.lockLimits + 1) % 256 } } else s)) ∧
    exec .bridgeReadTimeout s = .next (s.finish
      (({ s with mgmt := { s.mgmt with
          waiting := match s.mgmt.waiting.find? (fun (a : WaitAcc) => match a with | .read (.fw _) _ | .debug _ none => true | _ => false) with
            | some a => s.mgmt.waiting.erase a | none => s.mgmt.waiting } }.raiseDev 1533).out (.value none))) ∧
    exec .crossingRetry s = .next (s.finish { s with mgmt := { s.mgmt with retries := (s.mgmt.retries + 1) % 65536 } }))

/-- A word written to a local memory reads back, other bytes are unchanged, and the canonical form is kept: In a memory in
canonical form, with any default byte: after a 32-bit word is written at an address, the word read there is the one written
(least significant byte first), every byte outside the four reads as before, and the form stays canonical. Follows R8, R372. -/
def Obligations.LocalMemoryReadAfterWrite : Prop :=
  ∀ (d : Byte) (t : Tbl Byte) (a w : Nat), Memory.wf d t = true → w < 2 ^ 32 →
    memWord d (putMemWord d t a w) a = w ∧
    (∀ b, b < a ∨ a + 4 ≤ b → tget d (putMemWord d t a w) b = tget d t b) ∧
    Memory.wf d (putMemWord d t a w) = true

/-- SPDM: each request is answered in its order; a signed response needs the keys and signs a new digest: Over a transport that
is served: GET_VERSION begins the connection again; GET_CAPABILITIES and NEGOTIATE_ALGORITHMS follow it in that order;
GET_DIGESTS, GET_CERTIFICATE (slot 0 alone), CHALLENGE, GET_MEASUREMENTS and KEY_EXCHANGE need the algorithms; FINISH a
handshake; HEARTBEAT, KEY_UPDATE and END_SESSION a session; GET_PQ_SIG a signed response of its connection or, asked in the
session, of the session; GET_PQ_CHAIN nothing. Out of order the answer is error 4, a slot or index that there is not error 1,
and error 5 where keys are needed and gone. Over a transport not served, and to a request of a session that is not open, nothing
is answered. Without keys a signed response is error 5. With keys its digest is a free value, new each time, which the
connection, or its secured session, keeps for GET_PQ_SIG; nothing else of the state changes. In ENDPAPER measurements 2 and 3 do
not exist; 2 is the digest of the running image; an index above 4 never exists. Follows R385, R391, R393, R394, R395. -/
def Obligations.SpdmRequests : Prop :=
  (∀ (s : State) (t : Transport),
    (let say := fun (r : SpdmRsp) => s.out (.spdm t r)
    let fin := fun (e : State) => (.next (s.finish (if s.spdmServed t then e else s)) : Host.Outcome State Fault Refusal)
    let x := s.spdmOf t
    exec (.getVersion t) s = fin (((s.modSpdm t (fun _ => { spdm0 with version := true })).out (.spdm t .version))) ∧
    exec (.getCapabilities t) s = fin ((if x.version then
      (s.modSpdm t (fun x => { x with caps := true })).out (.spdm t .capabilities) else say (.error 4))) ∧
    exec (.negotiateAlgorithms t) s = fin ((if x.caps then
      (s.modSpdm t (fun x => { x with algs := true })).out (.spdm t .algorithms) else say (.error 4))) ∧
    exec (.getDigests t) s = fin ((say (if x.algs then .digests else .error 4))) ∧
    (∀ (slot : Fin 8) (off len : Fin 65536), exec (.getCertificate t slot off len) s = fin ((say
      (if x.algs then (if slot.val = 0 then .certificate 0 off.val len.val else .error 1) else .error 4)))) ∧
    exec (.challenge t) s = fin ((if x.algs then s.spdmSigned t false .challengeAuth else say (.error 4))) ∧
    (∀ (secured : Bool) (k : Fin 256) (sign : Bool), exec (.getMeasurements t secured k sign) s = fin
      (if secured && !x.session then s else if x.algs then s.spdmMeasure t secured k.val sign else say (.error 4))) ∧
    exec (.keyExchange t) s = fin ((if x.algs then (if s.mgmt.keysGone then say (.error 5)
      else (s.modSpdm t (fun x => { x with handshake := true, session := false, keys := 0, signedIn := none })).spdmSigned t false .keyExchange)
      else say (.error 4))) ∧
    exec (.finish t) s = fin ((if x.handshake then
      (s.modSpdm t (fun x => { x with handshake := false, session := true })).out (.spdm t .finish) else say (.error 4))) ∧
    exec (.heartbeat t) s = fin ((say (if x.session then .heartbeatAck else .error 4))) ∧
    exec (.keyUpdate t) s = fin ((if x.session then
      (s.modSpdm t (fun x => { x with keys := x.keys + 1 })).out (.spdm t .keyUpdateAck) else say (.error 4))) ∧
    exec (.endSession t) s = fin ((if x.session then
      (s.modSpdm t (fun x => { x with session := false, signedIn := none })).out (.spdm t .endSessionAck) else say (.error 4))) ∧
    (∀ secured : Bool, exec (.getPqSig t secured) s = fin (if secured && !x.session then s
      else say (if s.mgmt.keysGone then .error 5
        else match (if secured then x.signedIn else x.signed) with | some d => .pqSig d | none => .error 4))) ∧
    exec (.getPqChain t) s = fin ((say (if s.mgmt.keysGone then .error 5 else .pqChain))))) ∧
  (∀ (s : State) (t : Transport) (f : Nat → SpdmRsp),
    (∀ secured : Bool, s.mgmt.keysGone = true → s.spdmSigned t secured f = s.out (.spdm t (.error 5))) ∧
    (s.mgmt.keysGone = false → s.spdmSigned t false f =
      ({ s with freeCtr := s.freeCtr + 1 }.modSpdm t (fun x => { x with signed := some (Config.freeNat s.freeCtr) })).out
        (.spdm t (f (Config.freeNat s.freeCtr)))) ∧
    (s.mgmt.keysGone = false → s.spdmSigned t true f =
      ({ s with freeCtr := s.freeCtr + 1 }.modSpdm t (fun x => { x with signedIn := some (Config.freeNat s.freeCtr) })).out
        (.spdm t (f (Config.freeNat s.freeCtr)))) ∧
    (s.glb.mode = .endpaper → s.measurement 2 = none ∧ s.measurement 3 = none) ∧
    (s.glb.mode ≠ .endpaper → s.measurement 2 = some s.mgmt.boot.meas) ∧
    (∀ k, k = 0 ∨ 4 < k → s.measurement k = none))

/-- The out-of-band port and the test access port: In OFF nothing is answered. READ_STATUS gives four status words,
READ_COLOPHON the record's 64 bytes or zeros, READ_LEDGER and READ_COUNTER the record and the counter while the core runs and
else a vendor error. SUBMIT_CSET collects pieces and submits the whole at the last. MODE_REQUEST is accepted only as a message
of an open secured session. ENTDAA and SETDASA set the dynamic address in I3C mode. A control message is answered by the boot
ROM until firmware runs. Zeros for no record and the vendor error outside a session are the model's choices (log entries 40 and
42). While VDD_AUX is in range: a reset of the port loads IDCODE; each instruction is loaded; IDCODE also shifts out 0x072569D3,
BYPASS shifts out 0, and SAMPLE/PRELOAD takes the boundary cells that are shifted in. Otherwise nothing changes. Follows R390,
R396, R397, R418. -/
def Obligations.ExternalPorts : Prop :=
  (∀ s : State,
    (let say := fun (r : OobRsp) => if s.glb.mode != .off then s.out (.oob r) else s
    exec .readStatus s = .next (s.finish (say (.words [s.modeStatus, s.feedStatus, s.lcStatus, s.bootStatus]))) ∧
    (∀ back : Fin 1024, exec (.readColophon back) s = .next (s.finish (say (.words
      (match s.mgmt.coloBack back.val with
      | some r => (coloBytes r).map BitVec.toNat
      | none => List.replicate 64 0))))) ∧
    (∀ r : Fin 256, exec (.readLedger r) s = .next (s.finish (say
      (if s.coreRuns then .words ((recordWords (s.record r.val)).map BitVec.toNat) else .vendorError)))) ∧
    (∀ n : Fin 8192, exec (.readCounter n) s = .next (s.finish (say
      (if s.coreRuns then .words [s.pmcAt (0x1000000 + 8 * n.val)] else .vendorError)))) ∧
    (∀ (piece : List Byte) (last : Bool) (ed pq : Bool),
      exec (.submitCset piece last ed pq) s = .next (s.finish
        (if s.glb.mode != .off then
          let s1 := s.out (.oob .accepted)
          if last then ({ s1 with mgmt := { s1.mgmt with oobSet := [] } }).csetSubmit (some (s.mgmt.oobSet ++ piece)) ed pq
          else { s1 with mgmt := { s1.mgmt with oobSet := s.mgmt.oobSet ++ piece } }
        else s))) ∧
    (∀ (secured : Bool) (req : Fin 8), exec (.modeRequest secured req) s = .next (s.finish
      (if s.glb.mode != .off && secured && s.mgmt.spdmMctp.session then (say .accepted).modeRequest req.val else say .vendorError))) ∧
    (let address := fun (a : Nat) =>
      if bitOf (s.dir 0x1200060).toNat 8 && s.glb.mode != .off then
        ({ s with mgmt := { s.mgmt with oobAddr := some a } }).out (.i3c a) else s
    (∀ a : Fin 128, exec (.entdaa a) s = .next (s.finish (address a.val))) ∧
    exec .setdasa s = .next (s.finish (address (s.dirF 0x1200060 6 0)))) ∧
    (∀ cmd : Fin 256, exec (.mctpControlMessage cmd) s = .next (s.finish
      (if s.glb.mode != .off then
        s.out (.mctp cmd.val (s.mgmt.boot.phase != .firmware && s.mgmt.boot.phase != .lossWait)) else s))))) ∧
  (∀ s : State,
    (let on : Bool := s.glb.vddAuxOk
    let load := fun (i : TapInstr) => if on then { s with mgmt := { s.mgmt with tap := i } } else s
    exec .tapReset s = .next (s.finish (load .idcode)) ∧
    exec .idcode s = .next (s.finish (if on then (load .idcode).out (.tdo 0x072569D3) else s)) ∧
    exec .bypass s = .next (s.finish (if on then (load .bypass).out (.tdo 0) else s)) ∧
    (∀ cells : List (Pin × Bool), exec (.samplePreload cells) s = .next (s.finish
      (if on then { s with mgmt := { s.mgmt with tap := .sample, cells := cells } } else s))) ∧
    exec .extest s = .next (s.finish (load .extest)) ∧
    exec .clamp s = .next (s.finish (load .clamp)) ∧
    exec .highz s = .next (s.finish (load .highz)) ∧
    exec .extestPulse s = .next (s.finish (load .extestPulse)) ∧
    exec .extestTrain s = .next (s.finish (load .extestTrain)) ∧
    exec .dbgSelect s = .next (s.finish (load .dbgSelect))))

/-- The test access port and the SPDM requests touch nothing but their own state: In a still state, after any instruction of the
test access port only its instruction, its cells and what was shifted out differ; after any SPDM request over either transport
only the two connections, the count of free values and what was answered differ. Follows R418. -/
def Obligations.TestPortFrame : Prop :=
  ∀ (s t : State), s.Still →
    (∀ c : Instr, c ∈ [.tapReset, .bypass, .idcode, .extest, .clamp, .highz, .extestPulse, .extestTrain, .dbgSelect] ∨
        (∃ cells, c = .samplePreload cells) → exec c s = .next t →
      t = { s with mgmt := { s.mgmt with tap := t.mgmt.tap, cells := t.mgmt.cells }, outbox := t.outbox }) ∧
    (∀ (c : Instr) (x : Transport),
        c ∈ [.getVersion x, .getCapabilities x, .negotiateAlgorithms x, .getDigests x, .challenge x, .keyExchange x, .finish x,
             .heartbeat x, .keyUpdate x, .endSession x, .getPqSig x false, .getPqSig x true, .getPqChain x] ∨
          (∃ slot off len, c = .getCertificate x slot off len) ∨ (∃ secured k sign, c = .getMeasurements x secured k sign) → exec c s = .next t →
      t = { s with
        mgmt := { s.mgmt with spdmDoe := t.mgmt.spdmDoe, spdmMctp := t.mgmt.spdmMctp }, outbox := t.outbox, freeCtr := t.freeCtr })

/-- A slot channel: EN and REARM, presence, timers, the retry, and its trips: Where the write reaches the register. EN = 1 is
kept, and takes a channel in OFF to EMPTY with its limits taken, outside ENDPAPER. EN = 0 with EN = 1 before it disables the
slot; the gates' turning off counts from the first such write. REARM of a channel in LATCHED clears RETRIES and leads to PENDING
with a card present, else to EMPTY, but not in QUIESCED (the model's choice, log entry 105); EN stays as it stands. A card seen
starts the debounce of an EMPTY channel; presence lost powers a channel down to EMPTY from INSERTING, PENDING, PRECHARGE, RAMP
and ON, and starts the absence timer; after PRES_DEB in INSERTING the channel goes to PENDING with its limits taken; 320 MTICK
of absence clear RETRIES and end FAULTWAIT and LATCHED; PERST is released 160 MTICK after power-good in ON; GOOD_RESET seconds
in ON clear RETRIES; the retry leaves FAULTWAIT for PENDING once its wait is over, the junction is cool and a card has been
present for PRES_DEB. In QUIESCED neither of the two acts (the model's choice, log entry 105). A short in PRECHARGE, RAMP or ON
trips with cause 1, an expired fault timer in RAMP or ON with 2, the pre-charge time-out with 4, the ramp time-out (16 MTICK)
with 5. A trip turns the gates off, withdraws PWRGD, asserts PERST, keeps the cause, counts, goes to FAULTWAIT while RETRIES is
below RETRY_MAX and else to LATCHED, and raises 1,504 + slot with the cause in AUX. The current reaching ILIM starts the fault
timer. An undervoltage of VIN raises 1,525 once and sends each powering channel back to PENDING with its gates off, but none in
QUIESCED (the model's choice, log entry 105). Follows R358, R371, R359, R360, R362, R361, R363, R364, R370. -/
def Obligations.SlotChannel : Prop :=
  (∀ (s : State) (path : Path) (k : Fin 16),
    (let off := 0x1100000 + 0x40 * k.val
    let en := s.setDir off 0x80000000
    exec (.slotEnable path k) s = .next (s.finish (s.written path off (2 ^ 31)
      (if (s.slotCh k.val).phase = .off ∧ s.glb.mode ≠ .endpaper then
        en.modSlotCh k.val (fun c => { en.slotWords k.val c with phase := .empty, age := 0 })
      else en))) ∧
    exec (.slotDisable path k) s = .next (s.finish (s.written path off 0
      (if bitOf (s.dir off).toNat 31 then
        (s.setDir off 0).modSlotCh k.val (fun c => { c with
          phase := .off, perst := true, retries := 0, fault := none, faultFresh := false, pgFresh := false, release := none,
          evals := 0, age := 0,
          closing := if c.closing.isSome then c.closing
            else if c.gate || c.pchg || c.pwrgd then some (1000000 * s.spine.ticks + s.spine.cclk) else none })
      else s.setDir off 0))) ∧
    exec (.rearm path k) s = .next (s.finish (s.written path off (2 ^ 31 * b2n (s.slotEn k.val) + 2 ^ 30)
      (let e := if s.slotEn k.val then s.slotEnable k.val else s.setDir off 0
      if (e.slotCh k.val).phase = .latched ∧ s.glb.mode ≠ .quiesced then
        let r := e.modSlotCh k.val (fun c => { c with retries := 0 })
        if (r.slotCh k.val).present then r.toPending k.val else r.modSlotCh k.val (fun c => { c with phase := .empty, age := 0 })
      else e))))) ∧
  (∀ (s : State) (k : Fin 16),
    (let c := s.slotCh k.val
    exec (.slotPresenceSeen k) s = .next (s.finish
      (if c.present then s
      else s.modSlotCh k.val (fun c => { c with
        present := true, held := 0, absent := none, phase := if c.phase = .empty then .inserting else c.phase,
        age := if c.phase = .empty then 0 else c.age }))) ∧
    exec (.slotPresenceLost k) s = .next (s.finish
      (if !c.present then s
      else s.modSlotCh k.val (fun c =>
        let c := { c with present := false, held := 0, absent := some 0 }
        match c.phase with
        | .inserting => { c with phase := .empty, age := 0 }
        | .pending | .precharge | .ramp | .on => { c.down with phase := .empty, age := 0 }
        | _ => c))) ∧
    exec (.slotDebounceDone k) s = .next (s.finish
      (if c.phase = .inserting ∧ s.presDeb ≤ c.age then
        s.toPending k.val else s)) ∧
    exec (.absenceTimeout k) s = .next (s.finish
      (match c.absent with
      | some a => if a < 320 then s else s.modSlotCh k.val (fun c => { c with
          retries := 0, phase := if c.phase = .faultWait ∨ c.phase = .latched then .empty else c.phase })
      | none => s)) ∧
    exec (.slotPerstRelease k) s = .next (s.finish
      (match c.release with
      | some a => if c.phase = .on ∧ 160 ≤ a then s.modSlotCh k.val (fun c => { c with perst := false, release := none }) else s
      | none => s)) ∧
    exec (.goodReset k) s = .next (s.finish
      (if s.glb.mode ≠ .quiesced ∧ c.phase = .on ∧ s.goodReset ≠ 0 ∧ s.goodReset ≤ c.age then s.modSlotCh k.val (fun c => { c with retries := 0 }) else s)) ∧
    exec (.slotRetryTimerExpired k) s = .next (s.finish
      (if s.glb.mode ≠ .quiesced ∧ c.phase = .faultWait ∧ s.retryWait ≤ c.age ∧ s.slotTj c ≤ Int.ofNat c.restart * 2 ^ 32 ∧ c.present ∧ s.presDeb ≤ c.held then
        (s.modSlotCh k.val (fun c => { c with retries := min (c.retries + 1) 15 })).toPending k.val
      else s)))) ∧
  (∀ (s : State) (k : Fin 16),
    (let c := s.slotCh k.val
    let trip := fun (cause : Nat) =>
      (s.modSlotCh k.val (fun c => { c.down with
        cause := cause, trips := (c.trips + 1) % 256, age := 0,
        phase := if c.retries < s.retryMax then .faultWait else .latched })).raise
        { raise0 with src := 1504 + k.val, aux := cause, port := s.slotPort k.val }
    exec (.short k) s = .next (s.finish (if c.phase = .precharge ∨ c.phase = .ramp ∨ c.phase = .on then trip 1 else s)) ∧
    exec (.overcurrent k) s = .next (s.finish
      (match c.fault with
      | some a => if (c.phase = .ramp ∨ c.phase = .on) ∧ c.faultT ≤ a then trip 2 else s
      | none => s)) ∧
    exec (.pchgTimeout k) s = .next (s.finish (if c.phase = .precharge ∧ c.pchgTo ≤ c.age then trip 4 else s)) ∧
    exec (.rampTimeout k) s = .next (s.finish (if c.phase = .ramp ∧ 16 ≤ c.age then trip 5 else s)) ∧
    exec (.currentReachesIlim k) s = .next (s.finish
      (if (c.phase ≠ .ramp ∧ c.phase ≠ .on) ∨ c.fault.isSome then s
      else if c.phase = .on ∧ c.pgFresh then
        s.modSlotCh k.val (fun c => { c with
          phase := .ramp, pwrgd := false, release := none, pgFresh := false, pgRaces := (c.pgRaces + 1) % 256, fault := some 0,
          faultFresh := true, evals := 0, age := 0 })
      else s.modSlotCh k.val (fun c => { c with fault := some 0, faultFresh := true }))) ∧
    exec .slotUndervoltage s = .next (s.finish
      ((if s.power.vinLow then s else ({ s with power := { s.power with vinLow := true } }).raiseDev 1525).each (List.range 16)
        (fun s j => if (s.slotCh j).phase.powering ∧ s.glb.mode ≠ .quiesced then (s.modSlotCh j SlotChan.down).toPending j else s)))))

/-- A channel that trips or loses its card drives neither gate and holds PERST: After a trip of any cause, and after presence is
lost in a powering or pending state, the channel has its gate, its pre-charge gate and PWRGD off, PERST asserted and no fault
timer; a trip never lets RETRIES change, and every other channel is as before. Follows R358, R361. -/
def Obligations.SlotFaultTurnsOff : Prop :=
  ∀ (s : State) (k j : Nat) (cause : Nat), twf slot0 s.power.slots = true →
    (let t := s.slotTrip k cause
    (t.slotCh k).gate = false ∧ (t.slotCh k).pchg = false ∧ (t.slotCh k).pwrgd = false ∧ (t.slotCh k).perst = true ∧
    (t.slotCh k).fault = none ∧ (t.slotCh k).retries = (s.slotCh k).retries ∧ (t.slotCh k).cause = cause ∧
    ((t.slotCh k).phase = .faultWait ∨ (t.slotCh k).phase = .latched) ∧
    (j ≠ k → t.slotCh j = s.slotCh j)) ∧
    ((s.slotCh k).present = true → (s.slotCh k).phase ∈ [.pending, .precharge, .ramp, .on] →
      (let t := s.slotLost k
      (t.slotCh k).gate = false ∧ (t.slotCh k).pchg = false ∧ (t.slotCh k).pwrgd = false ∧ (t.slotCh k).perst = true ∧
      (t.slotCh k).phase = .empty ∧ (j ≠ k → t.slotCh j = s.slotCh j)))

/-- The feed controller: good, not good, ramp, bar, break, revert, and the early warning: A feed 8 MTICK in its window becomes
good, with the other feed if that one is as long in its window, and the primary feed first is picked when nothing is connected;
a feed no longer good raises 1,520 or 1,521; a connected feed that is not good is broken from while the other is good and not
barred; 16 MTICK of ramp without VBUS bar the feed, raise 1,524 and pick again; a bar ends after 1,600 MTICK, and the feed may
be picked or broken to; after the dead time of a break the other feed ramps, counted and raised as 1,522; the primary feed, good
and not barred, is reverted to once it has been good and primary for RETURN_DEB; the connected feed below WARN asserts the
warning, which ends when its least time is over, no cause is left and the feed is high enough. Follows R366, R368, R370. -/
def Obligations.FeedSelection : Prop :=
  ∀ (s : State) (b : Bool),
    (let breaks := fun (t : State) => match t.activeFeed with
      | some f => if !(t.feedOf f).good ∧ (t.feedOf (!f)).good ∧ (t.feedOf (!f)).barred = none then t.setFeed (.brk f) else t
      | none => t
    exec (.feedGood b) s = .next (s.finish
      (if (s.feedOf b).inWindow < 8 ∨ (s.feedOf b).good then s
      else
        let one := s.modFeed b (fun x => { x with good := true, goodFor := 0 })
        let both := if 8 ≤ (one.feedOf (!b)).inWindow ∧ !(one.feedOf (!b)).good then
          one.modFeed (!b) (fun x => { x with good := true, goodFor := 0 }) else one
        breaks both.feedPick)) ∧
    exec (.feedNotGood b) s = .next (s.finish
      (if !(s.feedOf b).good then s.modFeed b (fun x => { x with inWindow := 0 })
      else breaks ((s.modFeed b (fun x => { x with good := false, goodFor := 0, inWindow := 0 })).raiseDev
        (if b then 1521 else 1520)))) ∧
    exec .feedRampTimeout s = .next (s.finish
      (match s.power.feed with
      | .ramp f _ => if s.power.feedAge < 16 then s
        else (((s.setFeed .none).modFeed f (fun x => { x with barred := some 0 })).raiseDev 1524).feedPick
      | _ => s)) ∧
    exec (.feedBarEnd b) s = .next (s.finish
      (match (s.feedOf b).barred with
      | some a => if a < 1600 then s else breaks (s.modFeed b (fun x => { x with barred := none })).feedPick
      | none => s)) ∧
    exec .breakDeadTimeEnd s = .next (s.finish
      (match s.power.feed with
      | .brk f =>
        let s1 := s.setFeed (.ramp (!f) false)
        ({ s1 with power := { s1.power with switches := (s1.power.switches + 1) % 256 } }).raiseDev 1522
      | _ => s)) ∧
    exec .feedRevert s = .next (s.finish
      (match s.power.feed with
      | .on f => if f ≠ s.primary ∧ bitOf (s.dir 0x1100800).toNat 30 ∧ ((s.feedOf s.primary).good ∧ (s.feedOf s.primary).barred = none)
          ∧ 160 * s.dirF 0x1100800 23 16 ≤ (s.feedOf s.primary).goodFor
          ∧ 160 * s.dirF 0x1100800 23 16 ≤ s.power.primaryFor then s.setFeed (.brk f) else s
      | _ => s)) ∧
    exec .feedBelowWarn s = .next (s.finish
      (match s.activeFeed with
      | some _ => ({ s with power := { s.power with belowWarn := true } }).warnOn
      | none => s)) ∧
    (let connected := match s.power.feed with | .ramp f _ | .on f => some f | _ => none
    let high : Bool := match connected with
      | some f => decide (100 * s.dirF 0x1100804 15 8 + 20 * s.dirF 0x1100804 7 0 ≤ (s.feedOf f).mv)
      | none => false
    let lasted : Bool := decide (s.power.warnAt + 1600000 * s.dirF 0x1100800 7 0 ≤ 1000000 * s.spine.ticks + s.spine.cclk)
    exec .warnRelease s = .next (s.finish
      (if s.power.warn ∧ lasted ∧ !s.power.feed.warns ∧ !s.power.belowWarn ∧ high
        then { s with power := { s.power with warn := false } } else s))))

/-- Timers, comparators and feeds of the power manager touch nothing but power entry and what they raise: The effect of each
slot and feed command, before its raises are decided, leaves everything but power entry and the list of raises as it was: no
register, packet, port, counter or memory changes. Follows R358, R366. -/
def Obligations.PowerFrame : Prop :=
  ∀ (s : State) (k : Nat) (b : Bool),
    ∀ t ∈ [s.slotSeen k, s.slotLost k, s.slotDebounced k, s.slotAbsent k, s.slotPchgTimeout k, s.slotRampTimeout k, s.slotOvercurrent k,
           s.slotShort k, s.slotLimit k, s.slotUv, s.slotRetry k, s.slotRelease k, s.slotGood k, s.feedGood b, s.feedBad b,
           s.feedRampTimeout, s.feedBarEnd b, s.breakEnd, s.feedRevert, s.feedBelowWarn, s.warnRelease],
      t = { s with power := t.power, raises := t.raises }

/-- MTICK, SPINE_PPS, a lost reference, an expired holdover, time loads and unit groups: In OFF an MTICK does nothing.
Otherwise, while the core runs, the CCLK left of the 1,000,000 of the tick pass; the edge is counted; the running core measures
its reference, scrubs its tables and words (upsets that come late wait for the next check, and so do flipped bits of table
entries), counts buffer corrections, and ticks fabric mode, the data mover, commands sent and the checkers; then temperature,
feeds and slots are evaluated, the start's times count on, corrected memory errors are counted, and an uncorrectable one fails a
start of the boot ROM, or else raises 1,535 and answers its master with an error; last, the mirrors of a running core copy what
the edge leaves. A SPINE_PPS edge is lost no longer; with the external reference selected it makes the reference valid again,
performs a waiting load (its value plus EXT_DELAY), or, when local time is more than half a clock period off, sets the offset of
the next measurement to the nearest multiple of the period. The loss of the reference that is selected takes the servo from
ACQUIRE or LOCKED to HOLDOVER with the last rate held; the loss of SPINE_PPS also clears PPS_SEEN; a fabric reference is lost
after 8 MTICK without an answer or with its link down. A holdover as old as its limit raises source 1,474 once. A read of
SPN_TIME_LO gives NS[31:0] and latches NS[63:32] and FRAC in the requester's own latch set. A load now steps spine time to the
set value; a load at SPINE_PPS is kept with the external reference selected and a whole number of seconds, else it raises the
reserved-value source; with the time taken from the fabric either is refused and counted. A write of SPN_UNIT_GROUP_k changes
the fields whose old and new group have no pending binding, and counts each refused change. The order of MTICK's work, ties and
the rounding of θ, and the refusal of ACT = 0b01 in fabric time are the model's choices (log entries 5, 30 and 64). Follows R25,
R36, R37, R54, R55, R95, R138, R356, R360, R366, R416, R41. -/
def Obligations.TimeCommands : Prop :=
  (∀ (s : State) (x : TickIn),
    (let passed := if s.coreRuns then s.advance (1000000 - s.spine.cclk) else s
    let counted := { passed with spine := { passed.spine with
      ticks := passed.spine.ticks + 1, cclk := passed.spine.cclk - 1000000 } }
    let core := if counted.coreRuns then
        let m := counted.spineTick x.spineClk
        let early := m.scrubTables.each (x.upsets.filter (fun u => !u.late)) State.upset
        let e := (early.scrubWords.each (x.upsets.filter (·.late)) State.upset).each x.tables State.tableError
        ((e.countDev 5 x.bufferFixes).fabTick.dmvTick.sentTick).each x.lanes
          (fun s c => if s.checkerLocked c.lane.val then s.checkerCount c.lane.val c.bits c.errors else s)
      else counted
    let aux := (((core.thermTick x.temp.val).feedsTick x.feedA.val x.feedB.val x.vbus.val).slotsTick x.slots x.vbus.val).modBoot
      (fun b => { b with mticks := b.mticks + 1, wait := b.wait + 1 })
    let fixed : State := { aux with mgmt := { aux.mgmt with memFixes := aux.mgmt.memFixes + x.sramFixes } }
    let err := match x.sramError with
      | some m => if fixed.mgmt.boot.phase = BootPhase.rom then fixed.startFail 6 else (fixed.raiseDev 1535).localError m
      | none => fixed
    exec (.mtick x) s = .next (s.finish
      (if s.glb.mode = .off then s else if err.coreRuns then err.mirrorAll else err)))) ∧
  ((∀ s : State,
    (let seen : State := ({ s with spine := { s.spine with ppsLost := false, ppsSeen := true } }).acquire
    let d := nearest s.spine.t40 s.extDelay (1000000000 * 2 ^ 40)
    let steps := Int.fdiv (2 * d + Int.ofNat s.clkPeriod) (2 * Int.ofNat s.clkPeriod) * Int.ofNat s.clkPeriod
    let gone := fun (t : State) =>
      let lost : State := { t with spine := { t.spine with goodRun := 0, badRun := 0 } }
      if t.spine.servo = .acquire ∨ t.spine.servo = .locked then
        ({ lost with spine := { lost.spine with servo := .holdover, holdTicks := 0 } }).holdRate else lost
    let noClk : State := { s with spine := { s.spine with extClk := false } }
    let noPps : State := { s with spine := { s.spine with ppsLost := true, ppsSeen := false } }
    exec .spinePpsEdge s = .next (s.finish
      (if s.spine.ref ≠ .external then { s with spine := { s.spine with ppsLost := false } }
      else match s.spine.loadAtPps with
        | some v => ({ seen with spine := { seen.spine with loadAtPps := none } }).stepTime (v * 2 ^ 40 + s.extDelay)
        | none =>
          if Int.ofNat s.clkPeriod < 2 * Int.ofNat d.natAbs then { seen with spine := { seen.spine with ppsTheta := some steps } }
          else seen)) ∧
    exec (.referenceLost .clk) s = .next (s.finish (if s.spine.ref = .external then gone noClk else noClk)) ∧
    exec (.referenceLost .pps) s = .next (s.finish (if s.spine.ref = .external then gone noPps else noPps)) ∧
    exec (.referenceLost .fabric) s = .next (s.finish
      (match s.spine.ref with
      | .fabric p => if 8 ≤ s.spine.missed ∨ (s.bfl p).phase ≠ .active then gone s else s
      | _ => s)) ∧
    exec .holdoverExpired s = .next (s.finish
      (if s.coreRuns ∧ s.spine.servo = .holdover ∧ s.dirF 0x100028 15 0 ≠ 0 ∧ s.dirF 0x100028 15 0 ≤ s.spine.holdTicks ∧
          !s.spine.holdExpired then
        ({ s with spine := { s.spine with holdExpired := true } }).raiseDev 1474 else s)))) ∧
  (∀ (s : State) (path : Path),
    (let refused : State := { s with spine := { s.spine with refusedCount := (s.spine.refusedCount + 1) % 256 } }
    let fromFabric : Bool := (if s.glb.mode = .quiesced then s.glb.enteredFrom else s.glb.mode) == .member
    exec (.spnTimeLoRead path) s = .next (s.finish (s.readOut path 0x100000 (s.ns % 2 ^ 32)
      (s.setLatch path { s.latch path with nsHi := s.ns / 2 ^ 32 % 2 ^ 32, frac := s.spine.t40 / 2 ^ 24 % 2 ^ 16 }))) ∧
    exec (.timeLoadNow path) s = .next (s.finish (s.written path 0x100038 2
      (if fromFabric then refused else s.stepTime (s.timeSet * 2 ^ 40)))) ∧
    exec (.timeLoadAtPps path) s = .next (s.finish (s.written path 0x100038 1
      (if fromFabric then refused
      else if s.spine.ref = .external ∧ s.timeSet % 1000000000 = 0 then
        { s with spine := { s.spine with loadAtPps := some s.timeSet } }
      else s.raiseDev 1473 0 { raise0 with block := 1 }))) ∧
    (∀ (k : Fin 47) (w : Word), exec (.spnUnitGroupWrite path k w) s = .next (s.finish
      (s.written path (0x100200 + 4 * k.val) w.toNat (s.writeGroups k.val w)))))))

/-- The three time words a requester reads after SPN_TIME_LO are those of one instant, and the other requester keeps its own:
After the latch of one requester at a time below 2^64 ns, NS[63:32] and FRAC read from its latch set and NS[31:0] of that
instant spell the whole time, and the latch set of the other requester, spine time and every register word are unchanged.
Follows R36. -/
def Obligations.LatchedTimeIsCoherent : Prop :=
  ∀ (s : State) (p q : Path), s.ns < 2 ^ 64 →
    (let t := s.latchTime p
    (t.latch p).nsHi * 2 ^ 32 + s.ns % 2 ^ 32 = s.ns ∧ (t.latch p).frac = s.frac ∧
    (q ≠ p → t.latch q = s.latch q) ∧ t.spine.t40 = s.spine.t40 ∧ t.regs = s.regs)

/-- A binding: accepted, refused or withdrawn, and its steps from arm to complete: At its effect stage a QUIRE_BIND is refused
in ENDPAPER (0x25), with T no whole number of microseconds (0x30), with T nearer than 4,000 ns (0x31) or farther than 2^36 ns
(0x32), with a group that is already pending (0x33); with no group it completes at once as BOUND; else it waits as pending. A
withdrawal finds exactly one accepted request by its groups and T: before T - 1,000 ns both complete, the request as withdrawn
(0x03); else the withdrawal ends with 0x31, or 0x34 with no such request. For the bindings of instant T: pending ones are armed
at T - 1,000 ns; the gate closes 16 CCLK before E0 and samples the parity of the shadow words, which is a check of them;
requests with a bad shadow word are cancelled 1 CCLK before E0, with status 0x0D, and counted; at T the rest fire, the steps
before it being done first, a late one at the 16th CCLK after the step that made it late; the released binding drops the old
words of its units; copy-forward begins; at the end the active words of the units are checked as they are used, each shadow
quire of the units equals its active quire (a bad word is as bad there: the model's reading, log entry 54), queued writes are
applied, and the requests complete as BOUND with E0, the first one of the start being told as such. That LATE_COUNT counts at
the firing is the model's choice (log entry 65). Follows R47, R268, R48, R49, R50. -/
def Obligations.BindingCommands : Prop :=
  (∀ s : State,
    exec .quireBind s = .next (s.finish (s.effectStage isBind (fun t c =>
      let groups := qfld (cq c.q 3) 31 0
      let tns := (cq c.q 4).toNat
      if t.glb.mode = .endpaper then t.done c.origin 0x25
      else if tns % 1000 ≠ 0 ∨ qfld (cq c.q 5) 15 0 ≠ 0 then t.done c.origin 0x30
      else if tns * 2 ^ 40 < t.spine.t40 + 4000 * 2 ^ 40 then t.done c.origin 0x31
      else if t.spine.t40 + 2 ^ 36 * 2 ^ 40 < tns * 2 ^ 40 then t.done c.origin 0x32
      else if t.pendingGroups &&& groups ≠ 0 then t.done c.origin 0x33
      else if groups = 0 then t.done c.origin 0x01
      else { t with
        glb := { t.glb with bindAccepted := true }
        regs := { t.regs with binds := t.regs.binds ++ [⟨groups, tns, .pending, false, none, false, 0, c.origin⟩] } }))) ∧
    exec .quireBindWithdraw s = .next (s.finish (s.effectStage isWithdraw (fun t c =>
      let groups := qfld (cq c.q 3) 31 0
      let tns := (cq c.q 4).toNat
      match t.regs.binds.find? (fun b => b.groups == groups && b.t == tns && qfld (cq c.q 5) 15 0 == 0) with
      | none => t.done c.origin 0x34
      | some b =>
        if t.spine.t40 < (tns - 1000) * 2 ^ 40 ∧ b.stage = .pending then
          (({ t with regs := { t.regs with binds := t.regs.binds.filter (fun d => d != b) } }).done b.origin 0x03).done c.origin 0
        else t.done c.origin 0x31)))) ∧
  (∀ (s : State) (t : Nat),
    (let arms : Bool := s.regs.binds.any (fun b => b.t == t && b.stage == .pending)
    let toArm := s.advanceToNs (t - 1000)
    let gates : Bool := s.regs.binds.any (fun b => b.t == t && (b.stage == .pending || b.stage == .armed))
    let sampled := (s.advance (s.edgesTo (t * 2 ^ 40) - 16))
    let toGate := sampled.each
      (sampled.regs.binds.filter (fun b => b.t == t && (b.stage == .pending || b.stage == .armed))) (fun u b => u.sampleShadow b.groups)
    exec (.bindingArm t) s = .next (s.finish (if arms then
      toArm.setBinds (toArm.regs.binds.map (fun b => if b.t = t ∧ b.stage = .pending then { b with stage := .armed } else b)) else s)) ∧
    exec (.writeGateClose t) s = .next (s.finish (if gates then
      toGate.setBinds (toGate.regs.binds.map (fun b =>
        if b.t = t ∧ (b.stage = .pending ∨ b.stage = .armed) then toGate.gateOf b false else b)) else s)) ∧
    (let bad := s.regs.binds.filter (fun b => b.t == t && b.stage == .gated && b.badShadow)
    exec (.shadowParity t) s = .next (s.finish (if bad.isEmpty then s
      else
        let due := (s.regs.binds.filter (fun b => b.t == t && b.stage == .gated)).findSome? (·.due)
        let held := s.advance ((match due with | some n => n - s.cclkNow | none => s.edgesTo (t * 2 ^ 40)) - 1)
        let c := { held with
          spine := { held.spine with parityHold := (held.spine.parityHold + bad.length) % 256 }
          regs := { held.regs with binds := held.regs.binds.filter (fun b => !bad.contains b) } }
        c.applyQueue.each bad (fun s b => s.done b.origin 0x0D)))) ∧
    exec (.bindingFire t) s = .next (s.finish
      (if s.regs.binds.any (fun b => b.t == t && (b.stage == .pending || b.stage == .armed || b.stage == .gated)) then
        let late := (s.regs.binds.filter (fun b => b.t == t && b.stage == .gated)).findSome? (·.due)
        let ready := ((s.bindArm t).bindGate t).bindCancel t
        (match late with | some n => ready.advance (n - ready.cclkNow) | none => ready.advanceToNs t).bindFlip t
      else s)) ∧
    (let fired := s.regs.binds.filter (fun b => b.t == t && b.stage == .fired)
    let us := s.unitsOf (fired.foldl (fun n b => n ||| b.groups) 0)
    let released : State := if fired.isEmpty then s else { s with regs := { s.regs with
      old := s.regs.old.filter (fun x => match unitAt x.1 with | some u => !us.contains u | none => false)
      binds := s.regs.binds.map (fun b => if fired.contains b then { b with stage := .released } else b) } }
    exec (.oldQuireRelease t) s = .next (s.finish released) ∧
    exec (.copyForwardBegin t) s = .next (s.finish (released.setBinds (released.regs.binds.map (fun b =>
      if b.t = t ∧ b.stage = .released then { b with stage := .copying } else b))))) ∧
    (let copied := s.bindCopy t
    let go := copied.regs.binds.filter (fun b => b.t == t && b.stage == .copying)
    let us := copied.unitsOf (go.foldl (fun n b => n ||| b.groups) 0)
    let read := copied.checkActive (fun o => !(insideUnits us [o]).isEmpty)
    let opened := ({ read with regs := { read.regs with
      shadow := replaceUnits us read.regs.shadow read.regs.active
      badShadow := outsideUnits us read.regs.badShadow
      latShadow := outsideUnits us read.regs.latShadow ++ insideUnits us read.regs.badActive
      binds := read.regs.binds.filter (fun b => !go.contains b) } }).applyQueue
    let told := opened.each go (fun s b => s.done b.origin 0x01 b.e0)
    exec (.bindingComplete t) s = .next (s.finish (if go.isEmpty then copied
      else if told.glb.firstBound then told else ({ told with glb := { told.glb with firstBound := true } }).push .firstBound)))))

/-- At E0 every active word of the bound units takes its shadow value, and no other active word changes: When the gated bindings
of an instant flip, with quires that are listed canonically: every word of a unit of a bound group reads from the active quire
as its shadow word did, every other word reads as before, and neither the shadow quire nor the fields outside the quires change.
Follows R45, R48, R52. -/
def Obligations.BindingFlipsWholeUnits : Prop :=
  ∀ (s : State) (t off : Nat),
    s.regs.active.Pairwise (fun x y => x.1 < y.1) → s.regs.shadow.Pairwise (fun x y => x.1 < y.1) →
    (let go := s.regs.binds.filter (fun b => b.t == t && b.stage == .gated && !b.badShadow)
    let us := s.unitsOf (go.foldl (fun n b => n ||| b.groups) 0)
    go ≠ [] →
    (∀ u, unitAt off = some u → u ∈ us → (s.bindFlip t).act off = s.shad off) ∧
    ((∀ u, unitAt off = some u → u ∉ us) → (s.bindFlip t).act off = s.act off) ∧
    (s.bindFlip t).regs.shadow = s.regs.shadow ∧ (s.bindFlip t).regs.direct = s.regs.direct)

/-- A BAR0 write: malformed, out of reach, unnamed or taken; the three locks; the start load: A write that is not held up is
counted as malformed when its offset is no multiple of 4, dropped where the path does not reach the offset or R421 names no
register there, and else written to that register. A block's LOCK sets that block's lock bit. LNC_START.LOAD moves the shadow
words of the lane and port units, checked by it, into the active quire once, raises for each that is bad, sets the rates of the
lanes under test and tells what they send where it changes, provides the ports and begins calibration; after an accepted or
completed binding, a load, or in ENDPAPER it is refused and counted. Follows R10, R12, R28, R243, R420. -/
def Obligations.RegisterWrites : Prop :=
  ∀ (s : State) (path : Path),
    (∀ (off : Fin 67108864) (w : Word), exec (.registerWrite path off w) s = .next (s.finish
      (if s.mustWait path off.val true then s.waitFor (.write path off.val w.toNat)
      else if off.val % 4 ≠ 0 then s.countDev 0
      else if !s.reaches path off.val then s
      else match locate off.val with
        | none => s
        | some x => s.writePlace path x w.toNat))) ∧
    exec (.blockLock path .hvh) s = .next (s.finish (s.written path 0x5C0004 1 { s with regs := { s.regs with lockHvh := true } })) ∧
    exec (.blockLock path .pwr) s = .next (s.finish (s.written path 0x1100C04 1 { s with regs := { s.regs with lockPwr := true } })) ∧
    exec (.blockLock path .mgt) s = .next (s.finish (s.written path 0x120000C 1 { s with regs := { s.regs with lockMgt := true } })) ∧
    (let checked := s.checkShadow (fun o => !(outsideUnits startUnits [o]).contains o)
    let bad := checked.regs.badShadow.filter (fun o => !(outsideUnits startUnits [o]).contains o)
    let loaded : State := { checked with
      regs := { checked.regs with
        active := replaceUnits startUnits checked.regs.active checked.regs.shadow
        badActive := bad.foldl sadd (outsideUnits startUnits checked.regs.badActive)
        latActive := outsideUnits startUnits checked.regs.latActive }
      links := { checked.links with loaded := true } }
    exec (.startLoad path) s = .next (s.finish (s.written path 0x20F000 1
      (if s.glb.bindAccepted ∨ s.glb.firstBound ∨ s.links.loaded ∨ s.glb.mode = .endpaper then
        { s with links := { s.links with loadsRefused := (s.links.loadsRefused + 1) % 256 } }
      else ((((loaded.each bad State.raiseParity).each (List.range 16) (fun t k => s.stackTell (t.testRate k) k)).checkProvided
        true).calibrate).push .recheck))))

/-- A write of quire fields never touches the active quire; a reserved encoding keeps the old field and raises: Whatever is
written to whatever offset, staging it leaves the active quire and the fields outside the quires as they were; with the gate
closed it also leaves the shadow quire, and the write is queued behind those already there. When some field kept its value for a
reserved encoding, the reserved-value source of the block is raised, and else nothing is raised. That one write raises it once,
however many fields kept their value, is the model's choice (log entry 62). Follows R10, R14, R48, R49. -/
def Obligations.StagedWritesLeaveActive : Prop :=
  ∀ (s : State) (off w : Nat) (x : Place), locate off = some x →
    (let r := s.stage off w
    r.2.regs.active = s.regs.active ∧ r.2.regs.direct = s.regs.direct ∧
    (s.offClosed off = true → r.2.regs.shadow = s.regs.shadow ∧
      ∃ v, r.2.regs.gateQueue = s.regs.gateQueue ++ [⟨off, v⟩]) ∧
    (s.offClosed off = false → r.2.regs.gateQueue = s.regs.gateQueue) ∧
    (r.1 = 0 → r.2.raises = s.raises) ∧
    (r.1 ≠ 0 → r.2.raises = s.raises ++ [{ raise0 with src := 1473, block := off / 0x100000 }]))

/-- Ring doorbells and EN: where a ring runs, stops and drains: A submission doorbell of a ring that is not disabled sets P,
unless more entries than the ring's size would stand beyond C or H; a completion doorbell sets H, unless it lies beyond W. One
that is refused stops a running ring with cause 1 and the index; a draining or stopped ring it leaves as it is (the model's
choice, log entry 98). EN is written through CMR_Rrr_CTL: on a disabled ring the written word is kept and EN = 1 starts the ring
with its indices 0; on another ring only EN, IRQ and the vector change, and EN = 0 makes it drain. Follows R264, R265, R275,
R278. -/
def Obligations.RingDoorbells : Prop :=
  ∀ (s : State) (path : Path) (r : Fin 64),
    (let x := s.ring r.val
    let size := s.ringSize r.val
    let stopped := fun (idx : Nat) =>
      (s.modRing r.val (fun x => { x with phase := .stopped, fetch := none, errCause := 1, errIdx := idx })).ringIrq r.val
    (∀ idx : Fin 65536, exec (.sqDoorbell path r idx) s = .next (s.finish (s.written path (0xB00000 + 0x1000 * r.val) idx.val
      (if x.phase = .disabled then s
      else if size < (idx.val + 65536 - x.c) % 65536 ∨ size < (idx.val + 65536 - x.h) % 65536 then
        (if x.phase = .running then stopped idx.val else s)
      else s.modRing r.val (fun x => { x with p := idx.val }))))) ∧
    (∀ idx : Fin 65536, exec (.cqDoorbell path r idx) s = .next (s.finish (s.written path (0xB00004 + 0x1000 * r.val) idx.val
      (if x.phase = .disabled then s
      else if (x.w + 65536 - x.h) % 65536 < (idx.val + 65536 - x.h) % 65536 then
        (if x.phase = .running then stopped idx.val else s)
      else s.modRing r.val (fun x => { x with h := idx.val }))))) ∧
    (∀ ctl : BitVec 31, exec (.ringEnable path r ctl) s = .next (s.finish (s.written path (0xB40010 + 0x40 * r.val)
      (2 ^ 31 + ctl.toNat) (s.ringCtlWrite r.val (2 ^ 31 + ctl.toNat))))) ∧
    exec (.ringDisable path r) s = .next (s.finish (s.written path (0xB40010 + 0x40 * r.val)
      ((s.dir (0xB40010 + 0x40 * r.val)).toNat % 2 ^ 31)
      (s.ringCtlWrite r.val ((s.dir (0xB40010 + 0x40 * r.val)).toNat % 2 ^ 31)))))

/-- EN = 1 starts a disabled ring afresh; EN = 0 drains an enabled one; no other ring is touched: With rings listed canonically:
on a disabled ring a write with EN = 1 leaves it running with P, C, W and H 0, no error and no staged half; on a ring that is
enabled and not draining, a write with EN = 0 leaves it draining, or disabled when no command of it waits, with nothing staged
and no completion held; either way every other ring is as before. Follows R264, R265, R276, R278. -/
def Obligations.RingEnableAndDrain : Prop :=
  ∀ (s : State) (r : Fin 64) (w j : Nat), twf ring0 s.rings.rings = true → j ≠ r.val →
    (let t := s.ringCtlWrite r.val w
    t.ring j = s.ring j ∧
    (w < 2 ^ 32 → (s.ring r.val).phase = .disabled → bitOf w 31 = true →
      t.ring r.val = { ring0 with phase := .running, waits := (s.ring r.val).waits }) ∧
    (w < 2 ^ 31 → (s.ring r.val).phase ≠ .disabled → bitOf (s.dir (0xB40010 + 0x40 * r.val)).toNat 31 = true →
      ((t.ring r.val).phase = .draining ∨ ((t.ring r.val).phase = .disabled ∧ (s.ring r.val).waits = [])) ∧
      (t.ring r.val).held = [] ∧ (t.ring r.val).staged = none))

/-- A descriptor that has arrived is checked: it completes with an error, or waits for its effect stage: On a ring that may take
a descriptor and whose descriptor has arrived with its operand data, when no ring whose turn comes before has one ready: a
failed read of the descriptor stops the ring with cause 2, and the turn goes on to the next ring; otherwise C moves on, the
command is in wait, and it either completes with the status and result of the check stage or joins the checked commands, as the
next of its ring. Operand data that could not be read, or is short, is status 0x24. On another ring nothing happens. Follows
R265, R266, R267, R268, R275, R312. -/
def Obligations.DescriptorFetch : Prop :=
  ∀ (s : State) (r : Fin 64),
    (let x := s.ring r.val
    let done := fun (f : Fetch) => f.failed || (f.q.isSome && decide ((s.fetchSpan r.val f).2 ≤ f.got.length))
    exec (.descriptorFetched r) s = .next (s.finish
      (match x.fetch with
      | none => s
      | some f =>
        let served : State := { s with rings := { s.rings with turn := (r.val + 1) % 64 } }
        if !s.mayTake r.val || !done f || s.rings.rings.any (fun y => decide (y.1 < 64) &&
            decide ((y.1 + 64 - s.rings.turn) % 64 < (r.val + 64 - s.rings.turn) % 64) && s.descReady y.1) then s
        else match f.q with
          | none =>
            (served.modRing r.val (fun y => { y with phase := .stopped, fetch := none, errCause := 2, errIdx := x.c })).ringIrq r.val
          | some q =>
            let data := (List.range (f.got.length / 8)).map (fun k => BitVec.ofNat 64 (leNat ((f.got.drop (8 * k)).take 8)))
            let w : Waiting := ⟨x.c, cTag q, qfld (cq q 0) 16 16 == 1, cOp q, cHop q != 0, 0, 0, s.cclkNow⟩
            let t := served.modRing r.val (fun y => { y with c := (y.c + 1) % 65536, waits := y.waits ++ [w], fetch := none })
            match t.checkCmd (t.ringGrant r.val) false q data (!f.failed) with
            | some (st, res) => t.done (.ring r.val x.c (cTag q)) st res
            | none =>
              { t with rings := { t.rings with checked := t.rings.checked ++ [⟨.ring r.val x.c (cTag q), q, data⟩] } })))

/-- Ring commands at their effect stage: NOP, FENCE, staging, folio, route, gather, ledger and remote commands: NOP completes
with status 0; FENCE when it is the first in wait of its ring; QUIRE_STAGE stages its words in order and tells how many fields
kept their value, stands at a word that meets a closed gate with 64 writes queued, and ends when no gate of its queued words is
closed; FOLIO_READ and LEDGER_READ complete with MASTER_OFF (0x26) where their endpoint has Bus Master Enable 0, and else give
their data; LEDGER_CLEAR gives the status of the clear; a command for another device, which waits for no effect stage of
another, is sent where the device is ANCHORED and else ends with 0x70. FOLIO_WRITE with an ill-formed entry ends with 0x40, with
a migrating folio with 0x42; else the entries are written in order, the generation advances, and the command waits for its drain
or completion fence. ROUTE_WRITE with an entry that is not accepted ends with 0x40. GATHER_WRITE of a whole entry, or of its
second inline half with the same gathering staged, checks and writes it; a first half is staged; a half for another gathering
drops the staged one and ends with 0x21. Of a record that is not open the clear has status 0x61 and changes nothing. While a
level cause of a source that opened or merged into it is present it is refused with 0x60, and counted in the record and in the
ledger. Otherwise it closes the record, a contained slot of a PORT record comes back, and the status is 0. What else of a
gathering entry must be zero is the model's choice (log entry 68). Follows R96, R269, R273, R274, R329, R92, R99, R100, R102. -/
def Obligations.RingCommands : Prop :=
  (∀ s : State,
    (let off := fun (t : State) (c : Cmd) => match c.origin with | .ring r _ _ => !t.ringOn r | _ => false
    exec .nop s = .next (s.finish (s.effectStage (opIs 0x00) (fun t c => t.done c.origin 0))) ∧
    exec .fence s = .next (s.finish (s.effectStage (opIs 0x01) (fun t c =>
      match t.fenceDue c.origin.ringOf with | some _ => t.done c.origin 0 | none => t))) ∧
    exec .quireStage s = .next (s.finish (s.effectStage (opIs 0x10) (fun t c =>
      t.stagePairsGo c.origin (stagePairs c.q c.data) 0 []))) ∧
    (∀ (t : State) (o : Origin) (p : Nat × Nat) (ps : List (Nat × Nat)) (kept : Nat) (offs : List Nat),
      t.stagePairsGo o [] kept offs =
        (if offs.any t.offClosed then { t with rings := { t.rings with staging := some ⟨o, [], kept, offs⟩ } } else t.done o 0 kept) ∧
      t.stagePairsGo o (p :: ps) kept offs =
        if t.offClosed p.1 ∧ 64 ≤ t.regs.gateQueue.length then
          { t with rings := { t.rings with staging := some ⟨o, p :: ps, kept, offs⟩ } }
        else (t.stage p.1 p.2).2.stagePairsGo o ps (kept + (t.stage p.1 p.2).1)
          (if t.offClosed p.1 then offs ++ [p.1] else offs)) ∧
    exec .folioRead s = .next (s.finish (s.effectStage (opIs 0x21) (fun t c =>
      if off t c then t.done c.origin 0x26
      else if cInline c.q then
        t.done c.origin 0 ((t.folioRead (qfld (cq c.q 3) 18 0)).getD (qfld (cq c.q 3) 41 41) 0).toNat
      else t.cmdWrite c.origin (cq c.q 4).toNat
        ((List.range (qfld (cq c.q 3) 38 32)).flatMap (fun k => t.folioRead (qfld (cq c.q 3) 18 0 + k)))))) ∧
    exec .ledgerRead s = .next (s.finish (s.effectStage (opIs 0x41) (fun t c =>
      if off t c then t.done c.origin 0x26 else t.ledgerReadCmd c.origin c.q))) ∧
    exec .ledgerClear s = .next (s.finish (s.effectStage (opIs 0x42) (fun t c =>
      (t.ledgerClear (qfld (cq c.q 3) 7 0)).2.done c.origin (t.ledgerClear (qfld (cq c.q 3) 7 0)).1))) ∧
    exec .remoteCommand s = .next (s.finish
      (match s.rings.checked.find? (fun c => c.isRemote && s.mayWait c) with
      | none => s
      | some c =>
        let u := s.useWords [1, 0xB] none none
        let t : State := { u with rings := { u.rings with checked := u.rings.checked.erase c } }
        if t.fabric.st = .anchored then t.remoteSend c.origin c.q else t.done c.origin 0x70)) ∧
    (∀ seq : Fin 65536, exec (.remoteTimeout seq) s = .next (s.finish
      (match s.fabric.sentCmds.find? (fun c => c.seq == seq.val && decide (c.rto ≤ c.age)) with
      | none => s
      | some c => ({ s with fabric := { s.fabric with sentCmds := s.fabric.sentCmds.erase c } }).done (.ring c.ring c.idx 0) 0x71))))) ∧
  (∀ s : State,
    exec .folioWrite s = .next (s.finish (s.effectStage (opIs 0x20) (fun t c =>
      let i := qfld (cq c.q 3) 18 0
      let es := (folioData c.q c.data).zipIdx
      if !es.all (fun e => folioOk e.1) then t.done c.origin 0x40
      else if es.any (fun e => t.folioHeld (i + e.2)) then t.done c.origin 0x42
      else ((t.each es (fun s e => s.setFolio (i + e.2) e.1)).advanceGen).waitFence c.origin
        [if qfld (cq c.q 3) 40 40 = 1 then .completion else .drain]))) ∧
    exec .routeWrite s = .next (s.finish (s.effectStage (opIs 0x22) (fun t c =>
      if t.routeOk (cq c.q 4) then ((t.setRoute (qfld (cq c.q 3) 11 0) (cq c.q 4)).advanceGen).waitFence c.origin [.drain]
      else t.done c.origin 0x40))) ∧
    exec .gatherStageHalf s = .next (s.finish (s.effectStage isHalf (fun t c =>
      (t.modRing c.origin.ringOf (fun x => { x with staged := some ⟨qfld (cq c.q 3) 11 0, (c.q.drop 4).take 4⟩ })).done c.origin 0))) ∧
    exec .gatherWrite s = .next (s.finish (s.effectStage isGather (fun t c =>
      let g := qfld (cq c.q 3) 11 0
      let cleared := t.modRing c.origin.ringOf (fun x => { x with staged := none })
      if !cInline c.q then t.gatherWrite c.origin g c.data
      else match (t.ring c.origin.ringOf).staged with
        | some h => if h.gather = g then cleared.gatherWrite c.origin g (h.words ++ (c.q.drop 4).take 4) else cleared.done c.origin 0x21
        | none => t.done c.origin 0x21)))) ∧
  (∀ (s : State) (r : Nat),
    (let x := s.record r
    (x.isOpen = false → s.ledgerClear r = (0x61, s)) ∧
    (x.isOpen = true → x.srcs.any (s.activeFor x) = true →
      (s.ledgerClear r).1 = 0x60 ∧
      (s.ledgerClear r).2 = { s with ledger := { s.ledger with
        records := tput noRecord s.ledger.records r { x with refused := min 255 (x.refused + 1) }
        refused := (s.ledger.refused + 1) % 256 } }) ∧
    (x.isOpen = true → x.srcs.any (s.activeFor x) = false →
      (s.ledgerClear r).1 = 0 ∧
      (let closed : State := { s with ledger := { s.ledger with
        records := tput noRecord s.ledger.records r { x with isOpen := false } } }
      (s.ledgerClear r).2 = (if x.kind = .port then closed.slotUncontain x.inst else closed).push .recheck))))

/-- A table entry that is written reads back with its check byte, mends a failing entry, and leaves every other entry: With the
tables listed canonically: a folio entry of 120 bits written at an index reads back as its two words with the check byte the
device computes in bits 63:56 of the second, the index is no longer among the failing entries, and every other entry is as
before; a routing entry of 56 bits likewise. Follows R92, R95, R96, R105. -/
def Obligations.TableEntryStored : Prop :=
  ∀ (s : State) (i j : Nat), twf 0 s.path.folio = true → twf 0 s.path.route = true → j ≠ i →
    (∀ e : BitVec 128, e.toNat < 2 ^ 120 →
      (let t := s.setFolio i e
      t.folio i = e ∧ t.folio j = s.folio j ∧ i ∉ t.path.failFolio ∧
      t.folioRead i = [BitVec.ofNat 64 (e.toNat % 2 ^ 64),
        BitVec.ofNat 64 (e.toNat / 2 ^ 64 + checkByte 120 e.toNat % 256 * 2 ^ 56)])) ∧
    (∀ e : Quad, e.toNat < 2 ^ 56 →
      (let t := s.setRoute i e
      t.route i = e ∧ t.route j = s.route j ∧ i ∉ t.path.failRoute))

/-- The check byte of a table entry changes when any one bit of the entry does: For entries of 120 bits, as the folio table
holds them, and of 56 bits, as routing entries and gathering words: flipping any one bit of an entry gives another check byte,
so no single-bit error of the data goes unseen. Follows R425. -/
def Obligations.CheckByteCatchesSingleFlips : Prop :=
  (∀ (n k : Nat), n < 2 ^ 120 → k < 120 → checkByte 120 (n ^^^ 2 ^ k) ≠ checkByte 120 n) ∧
  (∀ (n k : Nat), n < 2 ^ 56 → k < 56 → checkByte 56 (n ^^^ 2 ^ k) ≠ checkByte 56 n)

/-- SNAPSHOT, FREEZE, THAW, CAPTURE_CTL, counter reads, capture records and mirror copies: A FREEZE, THAW or SNAPSHOT with T = 0
or T in the past is taken at once, one too far ahead ends with 0x32, a 65th with 0x33, a SNAPSHOT out of range with 0x21, and
else it waits for T; at T the CCLK edges until then pass, and on its way time takes each instant at its own edge. A SNAPSHOT is
held to the grants of a restricted ring. A capture start with ill-formed selection ends with 0x21, and else replaces the port's
capture; a stop ends matching at once and completes after the port's last queued record. A read of a LO word of a counter,
threshold value or bin gives its low 32 bits and latches bits [47:32] for its requester, a read of BITCNT_LO likewise of the
lane's bit count. The oldest queued capture record whose memory can be written is written with its phase and drops at its ring's
next index, or dropped where a stopping ring is full. With posted credits at an active analysis port the copy whose turn it is
leaves as a posted write in its session's window, counted. Follows R335, R337, R347, R348, R349, R262, R336, R340, R346. -/
def Obligations.ObservationCommands : Prop :=
  (∀ s : State,
    (let request := fun (t : State) (x : Instant) =>
      if (match x.act with | .snapshot f c _ _ => c == 0 || decide (8192 < f + c) | _ => false) then t.done x.origin 0x21
      else if t.spine.t40 + 2 ^ 36 * 2 ^ 40 < x.tns * 2 ^ 40 then t.done x.origin 0x32
      else if 64 ≤ t.obs.instants.length then t.done x.origin 0x33
      else if x.tns = 0 then t.takeInstant x false
      else if x.tns * 2 ^ 40 ≤ t.spine.t40 then t.takeInstant x true
      else { t with obs := { t.obs with instants := t.obs.instants ++ [x] } }
    let off := fun (t : State) (c : Cmd) => match c.origin with | .ring r _ _ => !t.ringOn r | _ => false
    exec .freeze s = .next (s.finish (s.effectStage isFreeze (fun t c =>
      if off t c then t.done c.origin 0x26 else request t ⟨.freeze, (cq c.q 3).toNat, c.origin⟩))) ∧
    exec .thaw s = .next (s.finish (s.effectStage isThaw (fun t c =>
      if off t c then t.done c.origin 0x26 else request t ⟨.thaw, (cq c.q 3).toNat, c.origin⟩))) ∧
    exec .snapshot s = .next (s.finish (s.effectStage isSnapshot (fun t c =>
      let first := qfld (cq c.q 5) 44 32
      let n := qfld (cq c.q 5) 61 48
      let x : Instant := ⟨.snapshot first n (t.cmdMem c.origin) (if cInline c.q then none else some (cq c.q 4).toNat),
        (cq c.q 3).toNat, c.origin⟩
      if off t c then t.done c.origin 0x26
      else match t.cmdGrant c.origin with
        | none => request t x
        | some h =>
          let g := t.guardRange h (cq c.q 4).toNat (64 + 8 * n)
          if !t.countersGranted h first n then t.restrictedFault c.origin h
          else if cInline c.q then request t x
          else if g.1 then g.2.done c.origin 0x23 else request g.2 x))) ∧
    (∀ tns : Nat, exec (.pmcInstant tns) s = .next (s.finish
      (if s.obs.instants.any (fun x => x.tns == tns) then s.advanceToNs tns else s))) ∧
    (∀ (t : State) (n : Nat), t.advance n =
      (let stops := (t.obs.instants.map (fun x => t.edgesTo (x.tns * 2 ^ 40))).filter (fun k => decide (k ≤ n))
      let u := t.each (stops.foldr insUp []) (fun u k => (u.pass (t.cclkNow + k - u.cclkNow)).takeDue false)
      u.pass (t.cclkNow + n - u.cclkNow))) ∧
    exec .captureStart s = .next (s.finish (s.effectStage isCapStart (fun t c =>
      let p := qfld (cq c.q 3) 5 0
      let old := t.cap p
      if !capOk (cq c.q 4) (cq c.q 5) (cq c.q 6) (cq c.q 7) then t.done c.origin 0x21
      else (((t.modObs (fun x => { x with queue := fixOld p old old.w x.queue })).modCap p (fun _ =>
        ⟨true, t.cmdMem c.origin, (cq c.q 4).toNat, cq c.q 5, cq c.q 6, cq c.q 7, 0, 0, 0, old.drops⟩)).setDir (0xF00004 + 0x10 * p) 0).done
          c.origin 0))) ∧
    exec .captureStop s = .next (s.finish (s.effectStage isCapStop (fun t c =>
      let p := qfld (cq c.q 3) 5 0
      ((t.modCap p (fun y => { y with running := false })).modObs (fun x =>
        { x with stops := x.stops ++ [⟨p, c.origin⟩] })).stopsCheck))))) ∧
  (∀ (s : State) (path : Path),
    (∀ x : PmcPlace, exec (.pmcCntLoRead path x) s = .next (s.finish (s.readOut path x.off (s.pmcAt x.off % 2 ^ 32)
      (s.setLatch path { s.latch path with pmcHi := s.pmcAt x.off / 2 ^ 32 })))) ∧
    (∀ l : Fin 256, exec (.bitcntLoRead path l) s = .next (s.finish
      (s.readOut path (0x210018 + 0x40 * l.val) ((s.lane l.val).bitCnt % 2 ^ 32)
        (s.setLatch path { s.latch path with bitcntHi := (s.lane l.val).bitCnt / 2 ^ 32 })))) ∧
    exec .captureRecordWrite s = .next (s.finish
      (match s.obs.queue.find? (fun r => s.memOn (s.recordTo r).1) with
      | none => s
      | some r =>
        let ringPlace := s.recordTo r
        let c := s.cap r.port
        let taken := s.modObs (fun o => { o with queue := o.queue.erase r })
        let full := r.old.isNone && qfld c.q5 6 6 == 0 &&
          modSub 65536 c.w (taken.dirF (0xF00004 + 0x10 * r.port) 15 0) == ringPlace.2.2.2
        let wrote := taken.memWrite ringPlace.1 (ringPlace.2.1 + 64 * (ringPlace.2.2.1 % ringPlace.2.2.2))
          (wordBytes (setW2 r.words (ringPlace.2.2.1 / ringPlace.2.2.2 % 2 == 0) (if r.old.isNone then c.drops else 0)))
        (if full then taken.capDrop r.port
        else if r.old.isNone then wrote.modCap r.port (fun c => { c with w := (c.w + 1) % 65536, drops := 0 })
        else wrote).stopsCheck)) ∧
    (∀ (p : Fin 64) (cred : Bool), exec (.mirrorCopySend p cred) s = .next (s.finish
      (if !cred ∨ !s.portActive p.val then s
      else match s.mirrorTurn p.val with
        | none => s
        | some a =>
          match (s.session a).queue.find? (fun c => c.out == p.val) with
          | none => s
          | some c =>
            let win := s.actF (offObs a) 9 5
            let wb := (s.act (offObs a + 0x1C)).toNat / 512 * 512 + 2 ^ 32 * (s.act (offObs a + 0x20)).toNat
            let bytes := wordBytes c.words ++ c.payload
            let windowAt := wb / (512 * 2 ^ win) * (512 * 2 ^ win) + 512 * ((s.session a).k % 2 ^ win)
            let sent := (s.modSession a (fun x =>
              { x with queue := x.queue.erase c, k := x.k + 1, sent := (x.sent + 1) % 2 ^ 32 })).modObs
                (fun o => { o with turn := tput 3 o.turn p.val a })
            ((sent.countPort p.val 1).countPort p.val 3 bytes.length).out
              (.tx p.val { tlp0 with op := .memWrite, addr := BitVec.ofNat 64 windowAt, len := bytes.length, payload := bytes }
                none 0 none 0)))))

/-- MIGRATE_START and MIGRATE_ABORT at their effect stage: A MIGRATE_START that R165 refuses ends with its status: 0x25 outside
STANDALONE, MEMBER and ANCHOR, 0x50 for a context in use, 0x42, 0x51 and 0x52 for a folio or destination that will not do, 0x53
for a gathering that will not; the entry it looks up is checked by that. Accepted in FOLIO mode it marks the entry, advances the
generation and begins COPY with the entry kept, both bitmaps clear, pass 1 and the completion fence to come; in RESYNC mode it
begins at FIRST + MARK. MIGRATE_ABORT ends a migration in COPY or FINAL as ABORTED, and has status 0x54 in any other state.
Follows R165, R166, R170, R176, R179. -/
def Obligations.MigrationCommands : Prop :=
  ∀ s : State,
    exec .migrateStart s = .next (s.finish (s.effectStage (opIs 0x30) (fun u cmd =>
      let q3 := cq cmd.q 3
      let c := qfld q3 5 0
      let i := qfld q3 50 32
      let g := qfld (cq cmd.q 6) 11 0
      let m := qfld (cq cmd.q 6) 17 16
      let dst := targetOf (BitVec.ofNat 128 ((cq cmd.q 5).toNat * 2 ^ 64 + (cq cmd.q 4).toNat))
      if !(u.glb.mode == .standalone || u.glb.mode == .member || u.glb.mode == .anchor) then u.done cmd.origin 0x25
      else if qfld q3 8 8 = 0 then
        (let t := u.checkFolio i
        let e := t.folio i
        if (t.ctx c).phase ≠ .idle then t.done cmd.origin 0x50
        else if t.folioHeld i ∨ t.mig.ctxs.any (fun x => x.2.phase != .idle && x.2.folio == i) then t.done cmd.origin 0x42
        else if t.path.failFolio.contains i ∨ efld e 23 20 = 0 ∨ 3 < efld e 23 20 then t.done cmd.origin 0x51
        else if t.badTarget (cq cmd.q 4) (cq cmd.q 5) (targetOf e) dst then t.done cmd.origin 0x52
        else
          let v := (t.setFolio i (setMigrating e true)).advanceGen
          (v.modCtx c (fun y => { migCtx0 with
            phase := .copy, folio := i, entry := e, marked := true, src := targetOf e, dst := dst, rate := qfld q3 23 16, pass := 1,
            ctl := v.act 0x901000, fenceGen := v.path.gen, origin := cmd.origin, last := y.last })).push .fenceCheck)
      else
        let t := u.checkGather g
        if (t.ctx c).phase ≠ .idle then t.done cmd.origin 0x50
        else if t.gBad g ∨ (t.gEntry g).typ ≠ 1 ∨ 3 ≤ m ∨ (t.gEntry g).mState m ≠ 3
            ∨ t.mig.ctxs.any (fun x => x.2.phase != .idle && x.2.resync && x.2.gather == g) then t.done cmd.origin 0x53
        else (t.modCtx c (fun y => { migCtx0 with
          phase := .copy, resync := true, gather := g, member := m, rate := qfld q3 23 16, origin := cmd.origin, last := y.last
          })).resyncFolio c))) ∧
    exec .migrateAbort s = .next (s.finish (s.effectStage (opIs 0x31) (fun t cmd =>
      let c := qfld (cq cmd.q 3) 5 0
      if (t.ctx c).phase = .copy ∨ (t.ctx c).phase = .final then (t.migStop c .aborted).done cmd.origin 0
      else t.done cmd.origin 0x54)))

/-- The passes of a migration, its hold and flip; a heat epoch boundary and the end of a heat report: A pass of COPY whose
granules are all copied and confirmed goes to FINAL when DIRTY is at most FINAL_MAX, else to the next pass while PASS is below
MAX_PASSES, else ends NO_CONVERGE. A copying context with a granule to do, below the limits on reads and bookmarks, reads its
lowest one. In FINAL, confirmed, the flip goes through; the hold timer counts an abandoned step and begins the next pass with
the granules not confirmed added, or ends HOLD_EXPIRED after the last try. A context at its settle begins to copy once every
write of the previous parity has settled and every settle read has come back. In any other state nothing happens. While the core
runs with an epoch open the CCLK edges until its boundary pass, and at the boundary counting moves to a fresh bank: with a
report still being written the epoch goes on as EXTENDED and is counted missed; a report that may not be written is counted as a
fault; else its header goes out first, to the hierarchy and the buffer it keeps to its end. A report whose every stretch has
gone out ends: Q0 is written again with VALID = 1, and the closed bank is cleared. That GRANULES counts as the reads are issued,
and that the next pass keeps the values of MIG_CTL, are the model's choices (log entries 93 and 94). Follows R170, R171, R172,
R173, R174, R175, R177, R181, R184. -/
def Obligations.MigrationEvents : Prop :=
  (∀ (s : State) (k : Fin 64),
    (let c := k.val
    let x := s.ctx c
    let lim := fun (hi lo : Nat) => bitsOf x.ctl.toNat hi lo
    exec (.copyPassComplete k) s = .next (s.finish
      (if x.phase = .copy ∧ x.step = .copying then
        let r := s.confirmed c
        if !r.1 then r.2
        else if x.dirtyCount ≤ lim 11 0 then
          ((r.2.modCtx c (fun y => { y with ctl := r.2.act 0x901000, finalAt := r.2.cclkNow })).nextPass c .final 0).modCtx c
            (fun y => { y with pass := x.pass })
        else if x.pass < lim 31 24 then r.2.nextPass c .copy 0
        else r.2.migStop c .noConverge
      else s)) ∧
    exec (.granuleCopy k) s = .next (s.finish
      (let s1 := s.useWords [9] none none
      let x := s1.ctx c
      if (x.phase = .copy ∨ x.phase = .final) ∧ x.step = .copying ∧ x.todo ≠ 0
          ∧ s1.copyReads + s1.granuleReads x.src ≤ s1.actF 0x901004 27 16 ∧ s1.bmShared + s1.granuleReads x.src ≤ 47104 then
        let g := lowestBit x.todo
        let a := x.src.dpa * 2 ^ 28 + 4096 * g
        let t := s1.modCtx c (fun y =>
          { y with todo := y.todo - 2 ^ g, todoCount := y.todoCount - 1, unconfirmed := y.unconfirmed ||| 2 ^ g,
                   unconfirmedCount := y.unconfirmedCount + 1, granules := wrapInc 32 y.granules })
        if t.tgtMem x.src then
          t.each (List.range 64) (fun u j => u.engineSend
            (u.engineReq { tlp0 with op := .cMemRd, addr := BitVec.ofNat 64 (a + 64 * j), len := 64 }) u.internalFid x.src.tgt
            (a + 64 * j) (.migRead c g))
        else t.engineSend (t.engineReq { tlp0 with op := .memRead, addr := BitVec.ofNat 64 a, len := 4096 }) t.internalFid
          x.src.tgt a (.migRead c g)
      else s1)) ∧
    (let t := s.migCheckSettle c
    exec (.settleComplete k) s = .next (s.finish
      (if ((t.ctx c).phase = .copy ∨ (t.ctx c).phase = .final) ∧ (t.ctx c).step = .settle ∧ (t.ctx c).settleIssued
          ∧ !t.unsettled c (!(t.ctx c).parity) ∧ (t.ctx c).settleTodo.isEmpty ∧ !t.anyPurpose (fun p => p == .migSettle c) then
        t.modCtx c (fun y => { y with step := .copying }) else t))) ∧
    exec (.flipEdge k) s = .next (s.finish
      (if x.phase = .final ∧ x.step = .copying then (if !(s.confirmed c).1 then (s.confirmed c).2 else s.flip c) else s)) ∧
    exec (.holdExpired k) s = .next (s.finish
      (let s1 := s.modCtx c (fun y => { y with abandons := y.abandons + 1 })
      if x.phase ≠ .final then s
      else if lim 15 12 ≤ x.abandons + 1 then s1.migStop c .holdExpired
      else
        let t := (s1.holdMeasure c).modCtx c (fun y => { y with ctl := (s1.holdMeasure c).act 0x901000 })
        ((t.migRelease c).nextPass c .copy (x.todo ||| x.unconfirmed)).retryHeld)))) ∧
  (∀ s : State,
    (let t := s.advanceToNs s.mig.heat.boundary
    exec .heatEpochBoundary s = .next (s.finish
      (if !(s.coreRuns && s.mig.heat.isOpen) then s
      else if !(t.mig.heat.isOpen && decide (t.mig.heat.boundary ≤ t.ns)) then t
      else if t.mig.heat.writing then t.modHeat (fun x =>
        { x with missed := wrapInc 8 x.missed, cur := { x.cur with extended := true }, boundary := t.nextBoundary })
      else
        let hh := t.actF 0x901010 25 20
        let seq := wrapInc 32 t.mig.heat.seq
        let bank := { t.mig.heat.cur with fin := t.ns, seq := seq }
        let u := t.modHeat (fun x => { x with seq := seq, cur := t.freshBank, isOpen := true, boundary := t.nextBoundary })
        if u.mepOn hh then
          let v := u.modHeat (fun x =>
            { x with writing := true, closed := bank, hier := hh, base := u.heatBase seq, left := heatParts.drop 1 })
          (v.mepWrite hh (u.heatBase seq) (heatBytes bank (0, 64))).2
        else u.modHeat (fun x => { x with fault := wrapInc 8 x.fault }))) ∧
    exec .heatReportComplete s = .next (s.finish
      (if s.mig.heat.writing ∧ s.mig.heat.left = [] then
        (s.mepWrite s.mig.heat.hier s.mig.heat.base (leBytes 8 (heatQ0 s.mig.heat.closed true))).2.modHeat
          (fun x => { x with writing := false, closed := bank0 })
      else s))))

/-- A flip, an abandoned hold, a pass and an abort write the folio entry of their own context alone; a flip makes it the
destination: With folio entries listed canonically, no migration step changes an entry other than that of its context. At a
confirmed flip in FOLIO mode, with a destination in range, that entry has the target fields of the destination, MIGRATING 0, and
permissions, PREFETCH and SW_TAG of the source entry that the context kept, and the generation is one higher. Follows R166,
R175, R176. -/
def Obligations.MigrationWritesItsEntryAlone : Prop :=
  ∀ (s : State) (c j : Nat) (o : Origin), twf 0 s.path.folio = true →
    (let x := s.ctx c
    (j ≠ x.folio → (s.flip c).folio j = s.folio j ∧ (s.holdExpire c).folio j = s.folio j
      ∧ (s.passComplete c).folio j = s.folio j ∧ (s.migAbort o c).folio j = s.folio j) ∧
    (x.phase = .final → x.step = .copying → x.resync = false → (s.confirmed c).1 = true →
      x.dst.kind < 16 → x.dst.port < 64 → x.dst.ld < 16 → x.dst.fid < 4096 → x.dst.dpa < 2 ^ 36 →
      (let e := (s.flip c).folio x.folio
      targetOf e = x.dst ∧ folioMigrating e = false ∧ efld e 15 0 = efld x.entry 15 0 ∧ efld e 27 25 = efld x.entry 27 25
        ∧ (s.flip c).path.gen = s.path.gen + 1)))

/-- A host writes one bit of a configuration word: resets, Retrain, Link Disable, DPC, Bus Master Enable, FLR, VF Enable: Each
of these rows is a one-byte configuration write that changes one bit (or writes 1 to a status bit) of a word of a function,
where the host can reach that function: the stored word becomes the merge of R66 and R67 and the effects of the bit follow. A
configuration request on a host, device or analysis port is received as a packet. DPC_TRIGGER of reason 3 is the software
trigger bit; of another reason it contains a presented vDSB that is not contained yet, when its Trigger Enable lets that reason
through. Follows R65, R66, R72, R73, R74, R75, R76, R255, R299, R302. -/
def Obligations.HostConfigurationRows : Prop :=
  ∀ (s : State) (h : Fin 48),
    (let put := fun (f d v be : Nat) => if s.cfgReach h.val f then
        let new := cfgMerge (fnKind f) d (s.cfgW h.val f d) v be
        (s.setCfgW h.val f d new).cfgEffects h.val f d (s.cfgW h.val f d) new (v &&& beMask be) else s
    let bit := fun (f d k : Nat) (on : Bool) => put f d (setBits (s.cfgW h.val f d) k k (b2n on)) (2 ^ (k / 8))
    let moved := fun (f d k : Nat) (on : Bool) => if s.moverReach f then
        s.dmvCfgWrite f d (setBits (s.dmvW f d ^^^ dmvCfgReset d) k k (b2n on)) (2 ^ (k / 8)) else s
    (∀ (p : Fin 64) (t : Tlp), exec (.configRequest p t) s = .next (s.finish
      (if (s.role p.val == .host || s.role p.val == .device || s.role p.val == .analysis) ∧ t.op.config then
        s.arrive { port := p.val, tlp := t, srcFid := 0, dstFid := none, ttl := 0, tc := t.tc.val, ld := none } else s))) ∧
    (∀ (f : Fin 66) (on : Bool), exec (.secondaryBusReset h f on) s = .next (s.finish (bit f.val 15 22 on))) ∧
    (∀ v : Fin 64, exec (.retrainLink h v) s = .next (s.finish (bit (2 + v.val) 0x20 5 true))) ∧
    (∀ (v : Fin 64) (on : Bool), exec (.linkDisable h v on) s = .next (s.finish (bit (2 + v.val) 0x20 4 on))) ∧
    (∀ (v : Fin 64) (reason : Fin 4), exec (.dpcTrigger h v reason) s = .next (s.finish
      (if reason.val = 3 then bit (2 + v.val) 0x57 22 true
      else
        let en := bitsOf (s.cfgW h.val (2 + v.val) 0x57) 17 16
        if (s.hier h.val).active && s.vdsbShown h.val v.val && !s.dpcStatus h.val v.val && (en == 2 || (en == 1 && reason.val != 1)) then
          s.dpcTrigger h.val v.val reason.val else s))) ∧
    (∀ v : Fin 64, exec (.dpcTriggerStatusClear h v) s = .next (s.finish (put (2 + v.val) 0x58 1 1))) ∧
    (let master := fun (x : MasterFn) (on : Bool) => match x with
        | .host g f => if s.cfgReach g.val f.val then
            s.cfgWrite g.val f.val 1 (setBits (s.cfgW g.val f.val 1) 2 2 (b2n on)) 1 else s
        | .mover f => moved f.val 1 2 on
    ∀ x : MasterFn, exec (.busMasterEnableClear x) s = .next (s.finish (master x false)) ∧
      exec (.busMasterEnableSet x) s = .next (s.finish (master x true))) ∧
    (∀ f : Fin 2048, exec (.initiateFunctionLevelReset f) s = .next (s.finish (moved f.val 0x1E 15 true))) ∧
    exec .vfEnableClear s = .next (s.finish (moved 0 0x5A 0 false)))

/-- A configuration write changes exactly the writable bits in its bytes and clears the RW1C bits written as 1: Of every word
but the power management control word, each bit after a write is: the bit written where it is writable and in a byte whose
enable is set, the old bit otherwise; and 0 where it is a write-one-to-clear bit, in such a byte, and written as 1. In the power
management control word the states D1 and D2 are never taken: the power state written is D0, D3hot, or the old one. Follows R66,
R67. -/
def Obligations.ConfigWriteMask : Prop :=
  ∀ (k : FnKind) (d old val be i : Nat), i < 32 →
    (let byteOn := bitOf be (i / 8)
    (d ≠ 0x11 → bitOf (cfgMerge k d old val be) i =
      ((if bitOf (cfgWritable k d) i && byteOn then bitOf val i else bitOf old i)
        && !(bitOf (cfgRw1c k d) i && byteOn && bitOf val i))) ∧
    (old % 4 = 0 ∨ old % 4 = 3 → cfgMerge k 0x11 old val be % 4 = 0 ∨ cfgMerge k 0x11 old val be % 4 = 3))

/-- PERST, hot reset, the end of reinitialisation, and the squash or drain of a data mover function: PERST asserted on a host
port resets each hierarchy on it and turns the port OFF; deasserted it ends that cause of IN_RESET. A hot reset on an active
host port resets its hierarchies until the link is active again. A reset that begins starts the reinitialisation of the headers
and resets the hierarchy. Reinitialisation ends once IN_RESET has ended on an active port. A squash of a function in reset
removes its packets, held requests, waiting BAR accesses and the purpose of its bookmarks; once removed, its rings and registers
reset and it is enabled again, or DISABLED, with nothing kept of a virtual function, if its end was asked for. A drained
function becomes DISABLED; a drain as old as DRAIN_TO is squashed. Follows R73, R75, R253, R300, R301. -/
def Obligations.HostResetsAndSquash : Prop :=
  ∀ s : State,
    (∀ (h : Nat) (full : Bool) (f : HierState → HierState),
      s.beginReset h full f = (s.modHier h (fun x => { f x with reinit := true })).hierReset h full) ∧
    (∀ p : Fin 64,
      (let low := s.modPort p.val (fun x => { x with perst := true })
      exec (.perstAssert p) s = .next (s.finish
        (if low.role p.val ≠ .host then low
        else
          let t := low.each (low.hiersOn p.val) (fun u h => u.beginReset h true (fun x => { x with rstPerst := true }))
          if (t.port p.val).sup = .off then t else t.portOff p.val)) ∧
      (let high := s.modPort p.val (fun x => { x with perst := false })
      exec (.perstDeassert p) s = .next (s.finish
        ((high.each (high.hiersAt p.val) (fun u h => u.modHier h (fun x => { x with rstPerst := false }))).push .recheck))) ∧
      exec (.hotResetReceived p) s = .next (s.finish
        (if s.portActive p.val && s.role p.val == .host then
          s.each (s.hiersOn p.val) (fun u h => u.beginReset h true (fun x => { x with rstLink := true }))
        else s)))) ∧
    (∀ h : Fin 48, exec (.hierarchyRrsEnd h) s = .next (s.finish
      (if (s.hier h.val).reinit && !(s.hier h.val).inReset && s.portActive (s.hier h.val).onPort then
        s.modHier h.val (fun x => { x with reinit := false }) else s))) ∧
    (∀ f : Fin 2048,
      (let x := s.dfn f.val
      let mine := fun (y : Packet) => match y.dmv with | some (g, _, _) => g == f.val | none => false
      exec (.squashQueueCleared f) s = .next (s.finish
        (if x.phase ≠ .resetting then s
        else
          let ids := (s.path.packets.filter (fun y => mine y.2)).map (·.1)
          let t : State := { s with
            path := { s.path with
             heldOut := s.path.heldOut.filter (fun y => !mine y.pkt),
             bookmarks := s.path.bookmarks.map (fun (b : Nat × Bookmark) =>
              match b.2.purpose with | .dmv g _ _ => if g = f.val then (b.1, { b.2 with discard := true }) else b | _ => b) }
            mgmt := { s.mgmt with waiting := s.mgmt.waiting.filter (fun y => match y with | .dmv g _ _ _ _ _ => g != f.val | _ => true) } }
          (t.each ids State.dropPacket).modFn f.val (fun y => { y with cleared := true }))) ∧
      exec (.squashComplete f) s = .next (s.finish
        (if x.phase ≠ .resetting ∨ !x.cleared then s
        else
          let c := ((s.dmvFlrCfg f.val).masterChange s).modDmv (fun d => { d with squashed := wrapInc 8 d.squashed })
          let t := if x.ends ∧ f.val ≠ 0 then c.modDmv (fun d => { d with cfg := d.cfg.filter (fun w => w.1 / 1024 != f.val) }) else c
          let y : DmvFn := if x.ends then dmvFn0 else
            { dmvFn0 with phase := .enabled, hier := x.hier, allocFail := x.allocFail, ringsRes := x.ringsRes, vecsRes := x.vecsRes,
                          vecLimit := x.vecLimit }
          ((t.modFn f.val (fun _ => y)).dmvCheck false).push .recheck)) ∧
      exec (.drainComplete f) s = .next (s.finish
        (if x.phase = .draining ∧ x.drained then
          (((s.modFn f.val (fun _ => dmvFn0)).modDmv (fun d => { d with drained := wrapInc 8 d.drained })).dmvCheck false).push .recheck
        else s)) ∧
      exec (.drainTimeout f) s = .next (s.finish
        (if x.phase = .draining ∧ s.actF 0xC00000 23 16 ≤ x.drainAge then s.dmvSquash f.val true else s))))

/-- Packets received: which port takes which packet, what is answered at once, and where the others go: A packet row acts where
its port has the role that carries it and the packet is of its kind. A packet on a port that is not active is lost; else it is
counted, numbered and goes by mode and role, its destination looked up unless it is the device's own internal ID: responses,
configuration requests and accesses to BAR0 of the management function to the transaction engine in every mode; of the rest a
refusal in QUIESCED or for a contained hierarchy, and else to the transaction engine too. A packet whose payload differs from
its Length goes on as one with a bad ECRC. A nullified packet is counted; if its header came, those egress ports that were
sending it already nullify theirs, and it is observed as a bad packet that queues nothing. Follows R31, R67, R80, R84, R87,
R104, R106, R127, R227, R327, R340, R424. -/
def Obligations.PacketArrivals : Prop :=
  ∀ (s : State) (p : Fin 64) (t : Tlp),
    (let q := p.val
    let at' := fun (u : Tlp) => s.arrive { port := q, tlp := u, srcFid := 0, dstFid := none, ttl := 0, tc := u.tc.val, ld := none }
    let plain : Bool := match t.op with | .memWrite | .memRead | .atomic | .npWrite => true | _ => false
    let tlpPort : Bool := s.role q == .host || s.role q == .device || s.role q == .analysis
    exec (.hostMemoryRequest p t) s = .next (s.finish
      (if plain ∧ (s.role q = .host ∨ s.role q = .analysis) ∧ !t.locked then at' t else s)) ∧
    exec (.cxlMemRequest p t) s = .next (s.finish (if s.role q = .host ∧ t.op.memRequest then at' t else s)) ∧
    (∀ (rid : BitVec 16) (tag : Fin 16384), exec (.ioRequest p rid tag) s = .next (s.finish
      (if tlpPort then at' { tlp0 with op := .io, len := 4, reqId := rid, tag := tag.val } else s))) ∧
    exec (.messageReceived p t) s = .next (s.finish (if tlpPort ∧ t.op = .msg ∧ t.route ≠ .unlock then at' t else s)) ∧
    exec (.devicePortRequest p t) s = .next (s.finish
      (if plain ∧ (s.role q = .device ∨ s.role q = .analysis) then at' t else s)) ∧
    exec (.bisnpReceived p t) s = .next (s.finish (if s.role q = .device ∧ t.op = .biSnp then at' t else s)) ∧
    exec (.completionReceived p t) s = .next (s.finish (if tlpPort ∧ t.op.response then at' t else s)) ∧
    exec (.lockedRead p t) s = .next (s.finish
      (if tlpPort ∧ t.op = .memRead then at' { t with locked := true } else s)) ∧
    exec (.unlock p) s = .next (s.finish (if tlpPort then at' unlockMsg else s)) ∧
    (∀ part : Option VoidRx, exec (.nullifiedPacketReceived p part) s = .next (s.finish
      (if !s.portActive q then s
      else
        let u := s.countPort q 11
        match part with
        | none => u
        | some v =>
          let x : Rx := if u.role q = .fabric then
              { port := q, tlp := v.tlp, srcFid := v.src.val, dstFid := v.dst.map Fin.val, ttl := v.ttl.val, tc := v.tc.val,
                ld := v.ld.map Fin.val }
            else { port := q, tlp := v.tlp, srcFid := 0, dstFid := none, ttl := 0, tc := v.tlp.tc.val, ld := none }
          (u.each (u.cutThrough x) (fun w y => match v.sent.find? (fun z => z.1.val == y.1) with
            | some z => w.nullify y.1 y.2.1 y.2.2 z.2
            | none => w)).observedBy { x with tlp := { x.tlp with ecrc := .bad } } id))) ∧
    (∀ (src dst : Fin 4096) (ttl : Fin 16) (tc : Fin 8) (ld : Option (Fin 16)),
      (let x : Rx :=
        { port := q, tlp := t, srcFid := src.val, dstFid := some dst.val, ttl := ttl.val, tc := tc.val, ld := ld.map (fun y => y.val) }
      let r := s.bflCount q t.op.bufClass tc.val t.payload.length
      exec (.fabricPacketReceived p src dst ttl tc ld t) s = .next (s.finish
        (if s.portActive q && s.role q == .fabric then (if r.1 then r.2.arrive x else r.2) else s)))) ∧
    (∀ x : Rx, x.port = q →
      s.arrive x = if !s.portActive q then s
        else
          let m := s.noteRx q x.tlp
          let n : State := { m with path := { m.path with arrivals := m.path.arrivals + 1 } }
          let found : Tlp := if x.tlp.lengthBad then { x.tlp with ecrc := if x.tlp.ecrc = .none then .badLength else .bad } else x.tlp
          let y : Rx := { x with tlp := found, arrival := n.path.arrivals, took := fcOf x.tlp }
          let r := match n.role q, y.dstFid with
            | .fabric, some d => if n.internalFid = some d then n else n.checkRoute d
            | _, _ => n
          let u := r.useWords [3, 5, 6, 7, 8, 0xD] (some q) (r.hierOn q)
          if u.glb.mode = .endpaper then u.endpaperRx y
          else if u.glb.mode = .test ∧ u.role q ≠ .analysis then
            (if y.tlp.op.response then u.countPort q 12 else u.observedBy y (fun v => v.refuse (.port q) y.srcFid y.tlp))
          else match u.role q with
            | .host => (match u.hierOn q with
              | none => u.bareRx y
              | some h =>
                let v := if y.tlp.op = .memRead ∧ y.tlp.len ≠ 0 then u.noteRead h y.tlp.addr.toNat y.tlp.len else u
                if y.tlp.op.response || y.tlp.op.config || (v.privAccess h y.tlp).isSome then v.receive y
                else if v.glb.mode = .quiesced then v.quiescedRefuse y
                else if v.contained .hierarchy h then v.containedRefuse h y
                else v.receiveParts y)
            | .device =>
              if y.tlp.op.response then u.receive y
              else if y.tlp.op.config then u.refuse (.port q) 0 y.tlp
              else if u.glb.mode = .quiesced then u.quiescedRefuse y
              else u.receiveParts y
            | .fabric => u.fabricRx y
            | .analysis =>
              if y.tlp.op.response then u.countPort q 12
              else u.observedBy y (fun v => (v.countPort q 28).refuse (.port q) 0 y.tlp)
            | .none => u))

/-- A packet on a port that is not in its active state changes nothing: In a state where nothing goes on by itself, each of the
packet rows on a port that is not active leaves the whole state as it was. Follows R22, R104, R253. -/
def Obligations.InactivePortReceivesNothing : Prop :=
  ∀ (s : State) (p : Fin 64) (t : Tlp) (i : Instr), s.Still → s.portActive p.val = false →
    (i = .hostMemoryRequest p t ∨ i = .cxlMemRequest p t ∨ i = .messageReceived p t ∨ i = .devicePortRequest p t
      ∨ i = .bisnpReceived p t ∨ i = .completionReceived p t ∨ i = .lockedRead p t ∨ i = .unlock p
      ∨ (∃ part, i = .nullifiedPacketReceived p part) ∨ i = .configRequest p t ∨ (∃ rid tag, i = .ioRequest p rid tag)
      ∨ (∃ src dst ttl tc ld, i = .fabricPacketReceived p src dst ttl tc ld t)) →
    exec i s = .next s

/-- Timers of bookmarks, locks and prefetched data: A bookmark's expiry raises the completion-timeout source of its ingress,
counts it for its hierarchy and answers as on expiry; a quarantine that ends frees the bookmark; the merge timer answers a
gathered write or zero-length read that still waits, the failover timer the current member of a mirrored read. A lock's limit
unlocks its port, raises and counts it. Prefetched data past its life is discarded and counted in lines. Of a bookmark that is
not in use, or of one in quarantine, nothing expires. Follows R77, R78, R80, R81, R151, R152. -/
def Obligations.BookmarkTimers : Prop :=
  ∀ s : State,
    (∀ b : Fin 65536,
      (let k := b.val
      exec (.completionTimeout b) s = .next (s.finish (match s.bm k with
        | some y => if y.quarantined then s else (s.timeoutSource y).push (.bmResult k none 0 .expired)
        | none => s)) ∧
      exec (.quarantineEnd b) s = .next (s.finish (match s.bm k with
        | some y => if y.quarantined then s.bmFree k else s
        | none => s)) ∧
      exec (.mergeTimerExpired b) s = .next (s.finish (match s.bm k with
        | some y => if y.merge.any (·.pending) ∧ !y.quarantined ∧ (y.tlp.op.isWrite ∨ y.tlp.len = 0) then
            s.push (.bmResult k none 0 .expired) else s
        | none => s)) ∧
      exec (.failoverTimerExpired b) s = .next (s.finish (match s.bm k with
        | some y =>
          if y.quarantined ∨ !y.timed ∨ y.tlp.len = 0 ∨ y.tlp.op.isWrite then s
          else match y.member with | some m => s.push (.bmResult k (some m) 0 .expired) | none => s
        | none => s)))) ∧
    (∀ p : Fin 64, exec (.lockExpired p) s = .next (s.finish (match (s.swPort p.val).lock with
      | some h => ((s.unlockPort p.val).raiseHier h 2).countHier h 9
      | none => s))) ∧
    (∀ (h : Fin 48) (addr : BitVec 64), exec (.prefetchLifeExpired h addr) s = .next (s.finish
      (let f := fun (x : Prefetch) => x.hier == h.val && x.addr == addr.toNat
      let gone := s.path.prefetch.filter f
      if gone.isEmpty then s
      else ({ s with path := { s.path with prefetch := s.path.prefetch.filter (fun x => !f x) } } : State).each gone
        (fun u x => u.countHier x.hier 5 (linesOf x.addr x.len)))))

/-- Egress, link down, the end of a flush, a route hold, and the bookmarks of a flushed port: EGRESS_SEND on an active port
sends the arbiter's choice whole, late, with a bad header cell or with an underrun; with no choice, on an inactive port, or on a
fabric port that carries no data packets (in TEST, and in QUIESCED but for cause 3, the model's choice, log entry 90), nothing
happens. A link that leaves UP or HELD goes to DETECT, with surprise down where its data link layer was active. At the end of a
flush a held link begins its data link layer. A port's unanswered bookmarks are answered as on expiry. A route hold lets the
CCLK edges until its first release pass. Follows R31, R121, R123, R124, R131, R156, R208, R253. -/
def Obligations.EgressAndLinkDown : Prop :=
  ∀ s : State,
    (∀ p : Fin 64,
      (let q := p.val
      (∀ (starved : List OrdType) (choice : Nat) (fate : SendFate), exec (.egressSend p starved choice fate) s = .next (s.finish
        (if !s.portActive q ∨ (s.role q = .fabric ∧
            (s.glb.mode = .test ∨ (s.glb.mode = .quiesced ∧ s.glb.quiesceCause ≠ 3))) then s
        else
          let u := s.useWords [3, 4, 7] (some q) none
          match u.arbitrate q (fun e => if s.role q = .fabric then s.bflAccepts q e else !starved.contains e.typ) with
          | none => u
          | some (e, y) =>
            match tfind u.path.packets e.pkt with
            | none => u
            | some x =>
              match fate with
              | .whole => (u.modSwPort q (fun _ => y)).sendWhole q x e choice
              | .late got kind => (u.modSwPort q (fun _ => y)).sendLate q x e got kind choice
              | .header => u.sendHeaderBad e
              | .underrun => u.sendUnderrun q x e))) ∧
      exec (.routeHoldRelease p) s = .next (s.finish (match (s.queue q).filterMap (·.release) with
        | [] => s
        | t :: l => s.advance (l.foldl min t - s.cclkNow))) ∧
      exec (.linkDown p) s = .next (s.finish
        (if (s.port q).sup = .up ∨ (s.port q).sup = .held then
          (let raised := s.raisePort q 5 { raise0 with cause := .surpriseDown }
          if !(s.port q).dllActive then s else if raised.role q = .device then raised.linkLog q .surpriseDown else raised).portDetect q
         else s)) ∧
      exec (.flushComplete p) s = .next (s.finish
        (if !s.flushing q then s
        else
          let t := s.modSwPort q (fun x => { x with flushing := false })
          if (t.port q).sup = .held then t.beginDll q
          else if (t.bfl q).phase = .held then (t.takeReserves q).bflStart q
          else t)) ∧
      exec (.portBookmarksAnswered p) s = .next (s.finish (s.each s.path.bookmarks (fun u x =>
        if x.2.quarantined then u
        else u.each (portTags q x.2) (fun v t => v.push (.bmResult x.1 (if x.2.gather.isSome then t.member else none) t.line .synthesised))))))) ∧
    (∀ (q : Nat) (y : Bookmark), portTags q y =
      (let l := y.tags.filter (fun t => t.port == q && !t.done)
      if y.gather.isSome && y.tlp.op != .memWrite then
        (l.filterMap (·.member)).eraseDups.filterMap (fun m => l.find? (fun t => t.member == some m))
      else l.take 1))

/-- The fences of table commands and migrations: clear, expired, and a freed generation slot: Waiting commands whose fence of
the kind named is clear complete with status 0, and migrations whose fence is clear go on. A waiting command or a migration in
FENCE, of which DEC_FENCE_CTL.LIMIT has passed and whose fence has not cleared, ends FENCE_EXPIRED and raises source 1,478;
before the limit nothing happens, and a fence that is clear is left to complete. A freed slot lets the waiting table command
run. Follows R99, R100, R101, R102, R170. -/
def Obligations.FencesAndSlots : Prop :=
  ∀ s : State,
    exec .drainFenceClear s = .next (s.finish
      ((s.fencesClear (fun f => !f.kinds.any (fun k => match k with | .completion => true | _ => false))).migFences)) ∧
    exec .completionFenceClear s = .next (s.finish
      ((s.fencesClear (fun f => f.kinds.any (fun k => match k with | .completion | .gather _ => true | _ => false))).migFences)) ∧
    (∀ k : Nat, exec (.fenceExpired (.command k)) s = .next (s.finish (match s.path.fences[k]? with
      | some f =>
        if s.spine.ticks < f.since + s.dirF 0x631004 7 0 then s
        else if s.fenceClear f then s.push .fenceCheck
        else ((({ s with path := { s.path with fences := s.path.fences.eraseIdx k } } : State).done f.origin 4 f.result)).raiseDev 1478
      | none => s))) ∧
    (∀ c : Fin 64, exec (.fenceExpired (.context c)) s = .next (s.finish
      (let x := s.ctx c.val
      if x.phase ≠ .fence ∨ s.spine.ticks < x.fenceSince + s.dirF 0x631004 7 0 then s
      else if s.completionClear x.fenceGen then s.push .fenceCheck
      else (s.migFinish c.val .fenceExpired).raiseDev 1478))) ∧
    exec .generationSlotFreed s = .next (s.finish
      (if s.rings.slotWait then s.runCmd Cmd.advances else s))

/-- The arbiter sends the oldest head that is ready and may pass every older head of its class and share group: Whatever the
arbiter chooses at a port is a head of a class and share group that has credit and is not held, and it goes before older heads
only as R118 and R119 let it: within posted, non-posted and completion, within Req, RwD and BIRsp, and within NDR, DRS and BISnp
a later packet passes an older one only where the tables say "when blocked" and the older one is blocked; heads of different
ones of these three groups are independent. No older head of that class and share group could have gone. Follows R119. -/
def Obligations.EgressKeepsOrder : Prop :=
  ∀ (s : State) (p : Nat) (cred : QEntry → Bool) (e : QEntry) (y : SwPort), s.arbitrate p cred = some (e, y) →
    (let same := fun (a b : OrdType) => [[OrdType.p, .np, .cpl], [.req, .rwd, .birsp], [.ndr, .drs, .bisnp]].any
      (fun l => l.contains a && l.contains b)
    let whenBlocked := fun (later older : OrdType) => [(OrdType.p, OrdType.np), (.cpl, .np), (.birsp, .req), (.birsp, .rwd),
      (.ndr, .bisnp), (.drs, .bisnp)].contains (later, older)
    let may := fun (older : List HeadState) (h : HeadState) => h.ready = true ∧
      ∀ o ∈ older, same h.entry.typ o.entry.typ = true → whenBlocked h.entry.typ o.entry.typ = true ∧ o.blocked = true
    e ∈ s.queue p ∧ cred e = true ∧
    ∃ older h later, s.headStates p cred e.tc e.group = older ++ h :: later ∧ h.entry = e ∧ may older h ∧
      ∀ older' h' later', older = older' ++ h' :: later' → ¬ may older' h')

/-- Fabric management packets, lapses, the settled election and reports: A packet of a type acts on an active Brodoth link of a
device whose fabric runs; another version, an impossible hop count or another destination drops and counts it, hops to come
forward it. HELLO updates its port's view, REPORT and LEAVE go up the tree or into the discovery ring, REPORT_ACK and
REPORT_BUSY end or repeat the report that is out, CMD is taken or refused, CMD_RSP ends a command of the anchor. A lapsed
advertisement or anchor sequence makes the election look again. A MEMBER whose own candidacy has been best for SETTLE becomes
ANCHOR. A due REPORT of a JOINED device goes upstream; one without an answer doubles W and is scheduled again. What REPORT_SEQ
counts is the model's choice (log entry 102). Follows R190, R192, R194, R197, R198, R201, R203, R204, R206. -/
def Obligations.FabricManagement : Prop :=
  ∀ s : State,
    (∀ (p : Fin 64) (f : Fmp),
      (let q := p.val
      let rx := fun (typ : Nat) (e : State) => Host.Outcome.next (s.finish (if f.typ.val = typ ∧ (s.bfl q).phase = .active then
        e else s))
      let u := s.useWords [4, 0xA] (some q) none
      let heard := fun (e : State) => if !u.fabricRuns then u else if f.version ≠ 1 then u.fmpDrop else e
      let routed := fun (e : State) =>
        if f.hopPtr.val = 0 ∨ f.hopCount.val < f.hopPtr.val ∨ 8 < f.hopCount.val then u.fmpDrop
        else
          let g := { f with ret := setPath f.ret (f.hopPtr.val - 1) q }
          if g.hopPtr.val < g.hopCount.val then u.fmpForward g
          else if g.dest ≠ u.serial then u.fmpDrop else e
      exec (.hello p f) s = rx 1 (heard (u.helloReceive q f.source (helloOf f.body))) ∧
      exec (.report p f) s = rx 2 (heard (u.upTree q f)) ∧
      exec (.leave p f) s = rx 7 (heard (u.upTree q f)) ∧
      exec (.reportAck p f) s = rx 3 (heard (routed (u.reportAck f.seq.val))) ∧
      exec (.reportBusy p f) s = rx 4 (heard (routed (u.reportBusy f.seq.val))) ∧
      exec (.cmd p f) s = rx 5 (heard (routed (u.cmdReceive q { f with ret := setPath f.ret (f.hopPtr.val - 1) q }))) ∧
      exec (.cmdRsp p f) s = rx 6 (heard (routed (u.rspReceive { f with ret := setPath f.ret (f.hopPtr.val - 1) q }))))) ∧
    (∀ (p : Fin 64) (anchor : Bool),
      (let x := tget fabPort0 s.fabric.ports p.val
      exec (.advertisementLapse p anchor) s = .next (s.finish
        (if anchor then
          (match x.hello with
          | some (_, h) =>
            (s.modFab (fun y => { y with beats := y.beats.map (fun b =>
              if b.serial = h.serial ∧ b.nonce = h.nonce.val ∧ s.tDead ≤ b.age then { b with lapsed := true } else b) })).push .elect
          | none => s)
        else if x.hello.isSome ∧ s.tDead ≤ x.age then (s.modFabPort p.val (fun z => { z with lapsed := true })).push .elect
        else s)))) ∧
    (let own : Bool := match s.fabric.best with | some c => c.port.isNone | none => false
    exec .electionSettled s = .next (s.finish
      (if s.fabric.st ≠ .electing ∨ s.glb.mode ≠ .member ∨ !own ∨ s.fabric.settle < s.tSettle then s
      else
        let r := (s.changeMode .anchor 0 0xFFFF).drawBelow 65536
        let t := (r.2.modFab (fun x => { x with st := .anchored, nonce := r.1, bestSeq := 1, sinceBeat := 0 })).setBest
        (t.each t.fabPorts (fun u p =>
          if (tget fabPort0 u.fabric.ports p).backoff = 0 ∧ !(tget fabPort0 u.fabric.ports p).sentNow then u.sendHello p else u.modFabPort p (fun x => { x with due := true }))).scheduleReport))) ∧
    exec .reportSend s = .next (s.finish (match s.fabric.report.due, s.fabric.report.out, s.fabric.upstream with
      | some 0, none, some p =>
        if s.fabric.st ≠ .joined then s
        else
          let t := s.modReport (fun r =>
            { r with due := none, out := some (s.fabric.nextSeq, 0), sent := wrapInc 16 r.sent, last := s.reportFields })
          let u := t.modFab (fun x => { x with nextSeq := wrapInc 16 x.nextSeq })
          u.fmpSend p (u.reportFmp s.fabric.nextSeq)
      | _, _, _ => s)) ∧
    exec .reportTimeout s = .next (s.finish (match s.fabric.report.out with
      | some (_, age) =>
        if s.fabric.report.w ≤ age then
          (s.modReport (fun r => { r with out := none, w := min (2 * max r.w 1) 256 })).scheduleReport else s
      | none => s))

/-- Flits received on a Brodoth link: sequence check, acknowledgement, credits, replay, link reset: A flit that is not bad makes
a link in DONE active; on an active link its link slot acts, and a sequenced flit with the number expected is accepted slot by
slot, an older one counted as a duplicate, a later one answered with a NAK; an unsequenced flit beyond what was expected calls
for a NAK; a bad flit is counted and calls for one; a LINK flit with a reserved CTYPE is discarded and counted. Acknowledgements
remove flits, a NAK and the replay timer start a replay, or a link reset at REPLAY_MAX; a NAK that a running replay has not come
to lets it go on; credit updates and XOFF maps act; a NAK still pending is due again. LINK_RESET received on a running link, and
BFL_Pnn_CMD.RESET, reset it. Follows R214, R216, R218, R219, R221, R222, R230, R231, R232, R235, R236, R239. -/
def Obligations.BrodothFlits : Prop :=
  ∀ (s : State) (p : Fin 64),
    (let q := p.val
    let active := fun (e : State) => if (s.bfl q).phase = .active then e else s
    let woken := s.bflWake q
    let sequenced := fun (sq : Nat) (l : LinkSlot) (e : State → State) =>
      if (woken.bfl q).phase ≠ .active then woken
      else
        let t := woken.onSlot q l
        let d := modSub 4096 sq (t.bfl q).next
        if d = 0 then
          e ((t.modBfl q (fun b => { b with next := (b.next + 1) % 4096, nakPending := false, nakDue := false })).countPort q 18)
        else if 2048 ≤ d then t.modBfl q (fun b => { b with duplicates := wrapInc 8 b.duplicates })
        else t.callNak q
    let unsequenced := fun (u : State) (sq : Nat) (l : LinkSlot) =>
      let t := u.onSlot q l
      if modSub 4096 sq (t.bfl q).next ≤ 2047 then t.callNak q else t
    let replay := fun (u : State) =>
      if (u.bfl q).replay.isEmpty then u
      else if (u.bfl q).starts = bitsOf (u.bfl q).ctl.toNat 27 24 then (u.raisePort q 9).push (.bflReset q)
      else u.modBfl q (fun b => { b with replayAt := some 0, starts := (u.bfl q).starts + 1, replays := wrapInc 8 b.replays })
    (∀ (sq : Fin 4096) (mark : Nat) (slots : List FlitSlot) (l : LinkSlot), exec (.dataFlit p sq mark slots l) s = .next (s.finish
      (sequenced sq.val l (State.bflSlots q (slots.zipIdx.map (fun x => (x.1, bitOf mark x.2))))))) ∧
    (∀ (sq : Fin 4096) (mark : Nat) (ws : List Quad) (l : LinkSlot), exec (.mgmtFlit p sq mark ws l) s = .next (s.finish
      (sequenced sq.val l (fun t => t.each (List.range (ws.length / 2)) (fun u k =>
        u.mgmtSlot q ((ws.drop (2 * k)).take 2) (bitOf mark k)))))) ∧
    (∀ (sq : Fin 4096) (l : LinkSlot),
      exec (.idleFlit p sq l) s = .next (s.finish
        (if (woken.bfl q).phase ≠ .active then woken else unsequenced woken sq.val l)) ∧
      (let t := if (s.bfl q).phase = .active then unsequenced s sq.val l else s
      exec (.badFlit p (some (sq, l))) s = .next (s.finish
        (if (t.bfl q).phase = .down then t else t.modBfl q (fun b => { b with discarded := wrapInc 8 b.discarded }))) ∧
      exec (.linkReset p sq l) s = .next (s.finish (if (t.bfl q).phase = .down then t else t.bflReset q)))) ∧
    exec (.badFlit p none) s = .next (s.finish
      (if s.role q = .fabric then (s.modBfl q (fun b => { b with crcErr := wrapInc 8 b.crcErr })).callNak q else s)) ∧
    (∀ a : Fin 4096,
      exec (.ack p a) s = .next (s.finish (active (s.bflAck q a.val))) ∧
      exec (.nak p a) s = .next (s.finish (active
        (if modSub 4096 a.val (s.bfl q).acked ≤ (s.bfl q).replay.length then
          (if (s.bfl q).replayAt.all (fun j => decide (modSub 4096 a.val (s.bfl q).acked < j)) then replay (s.bflAck q a.val)
           else s.bflAck q a.val) else s)))) ∧
    (∀ u : CreditUpd, exec (.creditUpdate p u) s = .next (s.finish (active (s.bflUpdate q u)))) ∧
    (∀ m : BitVec 49,
      exec (.xoffMap p m) s = .next (s.finish (active (s.modBfl q (fun b => { b with fbTx := true, xoffIn := m.toNat }))))) ∧
    exec (.nakTimerExpired p) s = .next (s.finish
      (if (s.bfl q).nakPending then s.modBfl q (fun b => { b with nakDue := true }) else s)) ∧
    exec (.replayTimerExpired p) s = .next (s.finish (active (replay s))) ∧
    (∀ path : Path, exec (.bflPortReset path p) s = .next (s.finish (s.written path (0x400004 + 0x100 * q) 1
      (if s.role q = .fabric then s.push (.bflReset q) else s)))))

/-- Brodoth initialisation messages, its timer, and the time exchange: A LINK flit on an active link first acts by its link slot
and its SEQ. In ID, CREDIT and DONE a message of another version is discarded, counted and raised. INIT_ID takes ID to CREDIT;
INIT_CREDIT and INIT_DONE take ID and CREDIT to DONE with the partner's advertisement; INIT_DONE takes DONE to ACTIVE; in ACTIVE
any of them resets the link. The init timer raises source 1,488 and resets. A TIME_REQ is answered with its times, in ID, CREDIT
and DONE as the link becomes ACTIVE. A TIME_RSP counts only for the latest request and within 8 us: it gives the round trip and
the four times. Follows R38, R214, R216, R223, R224, R234, R237, R238. -/
def Obligations.BrodothInitialisation : Prop :=
  ∀ (s : State) (p : Fin 64) (sq : Fin 4096) (l : LinkSlot),
    (let q := p.val
    let ph := (s.bfl q).phase
    let t := if ph = .active then
        (let u := s.onSlot q l
        if modSub 4096 sq.val (u.bfl q).next ≤ 2047 then u.callNak q else u) else s
    let now := (t.bfl q).phase
    let init := fun (kind : Nat) (m : InitMsg) =>
      if now = .active then t.push (.bflReset q)
      else if now ≠ .id ∧ now ≠ .credit ∧ now ≠ .done then t
      else if m.version.val ≠ 1 then (t.modBfl q (fun b => { b with discarded := wrapInc 8 b.discarded })).raisePort q 8
      else if kind = 1 then (if now = .id then ((t.bflPartner q m).modBfl q (fun b => { b with phase := .credit })).sendInit q else t)
      else if now ≠ .done then t.bflDone q m
      else if kind = 3 then t.bflActivate q else t
    (∀ m : InitMsg, exec (.initId p sq l m) s = .next (s.finish (init 1 m)) ∧
      exec (.initCredit p sq l m) s = .next (s.finish (init 2 m)) ∧ exec (.initDone p sq l m) s = .next (s.finish (init 3 m))) ∧
    exec (.initTimeout p) s = .next (s.finish
      (if ph = .id ∨ ph = .credit ∨ ph = .done then (s.raiseDev 1488 0 { raise0 with port := some q }).push (.bflReset q) else s)) ∧
    (∀ (i : Fin 256) (delay : Nat), exec (.timeReq p sq l i delay) s = .next (s.finish
      (if now = .down then t
      else if now = .active ∨ now = .held then
        t.sendLink q (.timeRsp i.val t.hops t.spine.servo.code (t.spine.t40 / 2 ^ 24) ((t.spine.t40 + delay * t.spine.inc) / 2 ^ 24))
      else t.modBfl q (fun b => { b with timeDue := b.timeDue ++ [(i.val, t.spine.t40, delay)] })))) ∧
    (∀ (i hs : Fin 256) (t2 t3 : BitVec 80), exec (.timeRsp p sq l i hs t2 t3) s = .next (s.finish (match (t.bfl q).req with
      | none => t
      | some t1 =>
        let t4 := t.spine.t40 / 2 ^ 24
        if i.val = (t.bfl q).reqId ∧ t4 ≤ t1 + 8000 * 65536 ∧ now = .active then
          let rt : Int := (Int.ofNat t4 - Int.ofNat t1) - (Int.ofNat t3.toNat - Int.ofNat t2.toNat)
          (t.modBfl q (fun b => { b with req := none, rtt := min ((rt.toNat + 65535) / 65536) 0xFFF })).push
            (.timeRsp q t1 t2.toNat t3.toNat t4 (bitsOf hs.val 3 0))
        else t))))

/-- An acknowledgement removes exactly the flits up to its number; at most 2,047 flits are ever outstanding: With ports listed
canonically and at most 2,047 flits outstanding, an acknowledgement that is newer than the one held, and not beyond the last
flit sent, becomes the acknowledgement held; exactly the flits after it stay, in order. Any other acknowledgement changes
nothing. Whether it changes something or not, at the next flit boundary no more than 2,047 are outstanding. Follows R216, R229,
R232, R233. -/
def Obligations.AcknowledgementMovesTheWindow : Prop :=
  ∀ (s : State) (p a : Nat), twf bfl0 s.fabric.links = true → (s.bfl p).replay.length ≤ 2047 → a < 4096 →
    (let b := s.bfl p
    let k := modSub 4096 a b.acked
    let t := s.bflAck p a
    if 1 ≤ k ∧ k ≤ b.replay.length then
      (t.bfl p).acked = a ∧ (t.bfl p).replay = b.replay.drop k
    else t = s) ∧
    (∀ t, (s.bflAck p a).boundary p = some t → (t.bfl p).replay.length ≤ 2047)

/-- Reference clocks, calibration, and the supervisor of a port: detect, train, settle, fail, recover, L0p, L1, link errors: A
reference clock that stops or runs again, and the end of a calibration, are noted while the lanes are on. DETECT with a receiver
goes to TRAIN under the settings in force, its lanes at the lowest rate, and the port makes its offer. Training that settles
acceptably leaves the link it negotiated, UP or HELD by a flush; else, and at the train timer, it is a failed training; a return
to Detect is none. Recovery ends with the rate and width the settings allow, at most 32 GT/s with the 68-byte flit. Retrain ends
the cap and begins Recovery, except on a fabric port. L0p and L1 requests are taken where the settings let them, a change of
width counted. A correctable error is counted, raised and logged, a replay rollover begins Recovery; on a fabric port receiver
errors alone are met. An uncorrectable one on an UP link is raised and logged. Follows R245, R247, R248, R250, R252, R253, R254,
R255, R256, R257, R317. -/
def Obligations.StacksAndTraining : Prop :=
  ∀ s : State,
    (∀ k : Fin 16,
      exec (.refclkLost k) s = .next (s.finish (if s.coreRuns ∧ (s.stack k.val).refclkOk then
        ((s.modStack k.val (fun x => { x with refclkOk := false })).raiseStack k.val 1).push .recheck else s)) ∧
      exec (.refclkRestored k) s = .next (s.finish (if s.coreRuns ∧ !(s.stack k.val).refclkOk then
        (s.modStack k.val (fun x => { x with refclkOk := true })).push .recheck else s)) ∧
      exec (.calibrationDone k) s = .next (s.finish
        (if s.coreRuns ∧ !(s.stack k.val).calDone ∧ ((s.stack k.val).calibrating ∨ (s.glb.mode = .endpaper ∧ k.val = 0)) then
          (s.modStack k.val (fun x => { x with calDone := true, calibrating := false })).push .recheck else s))) ∧
    (∀ p : Fin 64,
      (let q := p.val
      let x := s.port q
      let settled := fun (r : TrainResult) =>
        if s.acceptable q r then
          let m := s.modPort q (s.settled q r)
          let t := m.portRate q (m.port q).rate
          let u := if (t.port q).cacheOffered then t.raisePort q 2 else t
          if u.flushing q then
            let w := u.modPort q (fun y => { y with sup := .held })
            if w.role q = .fabric then w.modBfl q (fun b => { b with phase := .held }) else w
          else (u.modPort q (fun y => { y with sup := .up, dllActive := !y.brodoth, fails := 0 })).push (.linkUp q)
        else (if s.role q = .fabric ∧ !r.brodoth then s.raisePort q 3 else s).trainFailed q
      (let eq := if s.glb.mode = .endpaper then 0 else s.act (offPlkCtl q + 4)
      exec (.receiverDetected p) s = .next (s.finish
        (if x.sup = .detect then
          let t := (s.modPort q (fun y => { y with sup := .train, trainCtl := s.plkCtl q, trainEq := eq })).portRate q 0
          t.out (.offer q (t.trainOffer q)) else s))) ∧
      (∀ r : TrainResult, exec (.linkTrained p r) s = .next (s.finish (if x.sup ≠ .train then s else settled r))) ∧
      (∀ o : Option TrainResult, exec (.trainTimeout p o) s = .next (s.finish
        (if x.sup ≠ .train then s
        else match o with
          | none => s.trainFailed q
          | some r => if s.acceptable q r then s else settled r))) ∧
      exec (.ltssmReturnsToDetect p) s = .next (s.finish
        (if x.sup = .train then s.modPort q (fun y => { y.unlinked with sup := .detect }) else s)) ∧
      (∀ (rate : Fin 16) (width : Fin 32), exec (.recoveryComplete p rate width) s = .next (s.finish
        (if x.sup ≠ .up then s
        else
          let t := s.modPort q (fun y => { y with recovery := wrapInc 8 y.recovery, recovering := false })
          if t.role q = .fabric then t
          else
            let full := match (t.port q).prov with | some u => t.subWidth u | none => 0
            let top := if (t.port q).flit68 then min (s.topRate q) 4 else s.topRate q
            let r := min rate.val top
            (t.modPort q (fun y =>
              let w := if width.val = 0 then y.width else min width.val full
              let most := if fld y.trainCtl 28 26 = 5 ∧ fld y.trainCtl 25 25 = 0 then 4 else fld y.trainCtl 28 26
              { y with rate := r, width := w, actWidth := w, belowTarget := decide (r < most), flit := y.flit || r == 5 })).portRate q r))) ∧
      (∀ path : Path, exec (.portRetrain path p) s = .next (s.finish (s.written path (0x300008 + 0x100 * q) 1
        (if s.role q = .fabric then s else (s.modPort q (fun y => { y with cap := none })).startRecovery q)))) ∧
      (∀ width : Fin 32, exec (.l0pRequest p width) s = .next (s.finish
        (if x.sup = .up ∧ x.flit ∧ bitOf x.trainCtl.toNat 21 ∧ (s.role q = .host ∨ s.role q = .device)
            ∧ (width.val = 1 ∨ width.val = 2 ∨ width.val = 4 ∨ width.val = 8 ∨ width.val = 16) ∧ width.val ≤ x.width then
          let t := s.modPort q (fun y => { y with actWidth := width.val })
          if width.val = x.actWidth then t else t.countPort q 23
        else s))) ∧
      exec (.aspmL1Entry p) s = .next (s.finish
        (if x.sup = .up ∧ s.role q = .device ∧ bitOf x.trainCtl.toNat 20 then
          s.modPort q (fun y => { y with inL1 := (s.queue q).isEmpty }) else s)) ∧
      (∀ c : LinkCause,
        exec (.correctableLinkError p c) s = .next (s.finish
          (if (x.sup = .up ∨ x.sup = .held ∨ x.sup = .train) ∧ (s.role q ≠ .fabric ∨ c = .receiverError) then
            let t := s.modPort q (fun y =>
              { y with rxErr := if c = .receiverError then wrapInc 8 y.rxErr else y.rxErr,
                       replays := if c = .replayTimeout ∨ c = .replayRollover then wrapInc 8 y.replays else y.replays })
            let u := if c = .replayRollover then t.startRecovery q else t
            (u.raisePort q 4 { raise0 with cause := c }).linkLog q c
          else s)) ∧
        exec (.uncorrectableLinkError p c) s = .next (s.finish
          (if x.sup = .up ∧ s.role q ≠ .fabric then (s.raisePort q 6 { raise0 with cause := c }).linkLog q c else s)))))

/-- Lane margining, generators and checkers: A write of a lane's MARGIN_CMD leaves its word, then TYPE 0 ends what runs; else
the command is BUSY while the capability holds the sampler, runs on a lane whose port is UP with its steps within the limit, and
is ABORTED else. A measurement that runs ends passed or failed by its limit, one of the capability tells the capability its
errors. TCMD.CLEAR clears the counts of the lane; TCMD.INJECT inverts a bit of a running generator, which near-end loopback
compares. A checker that works locks, and one that is locked loses its lock after what it compared is counted. Follows R258,
R259, R260, R261, R262. -/
def Obligations.LaneTests : Prop :=
  ∀ (s : State) (path : Path) (n : Fin 256),
    (let l := n.val
    let off := 0x210000 + 0x40 * l
    let margin := fun (v : Nat) =>
      let t := match locate (off + 0x20) with | some x => s.writeDirect x v | none => s
      let w := t.dir (off + 0x20)
      let aborted := t.modLane l (fun x => { x with margin := .aborted, marginSteps := 0 })
      s.written path (off + 0x20) v
        (if fld w 31 30 = 0 then t.modLane l (fun x => { x with margin := .idle, marginSteps := 0 })
        else if (t.lane l).capHolds then t.modLane l (fun x => { x with margin := .busy })
        else match t.lanePort l with
          | some p =>
            let most := if fld w 31 30 = 1 then 32 else if (t.port p).rate = 5 then 32 else 64
            if (t.port p).sup = .up then t.modLane l (fun x =>
              { x with margin := .running, marginErrors := 0, marginSteps := min (fld w 28 22) most })
            else aborted
          | none => aborted)
    (∀ w : BitVec 30,
      exec (.marginStop path n w) s = .next (s.finish (margin w.toNat)) ∧
      exec (.marginTiming path n w) s = .next (s.finish (margin (2 ^ 30 + w.toNat))) ∧
      exec (.marginVoltage path n w) s = .next (s.finish (margin (2 ^ 31 + w.toNat)))) ∧
    (∀ errors : Nat, exec (.marginDone n errors) s = .next (s.finish
      (if (s.lane l).capHolds then s.capErrors l errors
      else if (s.lane l).margin = .running then (let m : MarginState := if satBits 16 errors ≤ s.dirF (off + 0x20) 7 0 then .passed else .failed
        s.modLane l (fun x => { x with marginErrors := satBits 16 errors, margin := m })) else s))) ∧
    exec (.inject path n) s = .next (s.finish (s.written path (off + 0xC) 1
      (if s.testOwned l ∧ s.dirF off 7 7 = 1 ∧ !s.badCfg l then
        (if fld (s.testWord l) 5 4 = 1 then (s.out (.inverted l)).checkerCount l 1 1 else s.out (.inverted l)) else s))) ∧
    exec (.clear path n) s = .next (s.finish (s.written path (off + 0xC) 2
      (s.modLane l (fun x => { x with errCnt := 0, bitCnt := 0, lockLoss := 0 })))) ∧
    exec (.checkerLock n) s = .next (s.finish
      (if s.checkerOn l ∧ !s.badCfg l then s.modLane l (fun x => { x with locked := true }) else s)) ∧
    (∀ bits errors : Nat, exec (.checkerLockLoss n bits errors) s = .next (s.finish
      (if s.checkerLocked l then
        (s.checkerCount l bits errors).modLane l (fun x => { x with locked := false, lockLoss := wrapInc 8 x.lockLoss }) else s))))

/-- The data mover: doorbells, ring enables, MSI-X masks, a descriptor starts, NOP, and one request of the scheduler: While a
function's page answers: a doorbell moves P or H of a ring that is neither disabled nor NO_RESOURCE (at P = C a fetch ahead is
dropped), or, where it lies beyond what the ring holds, stops a running one with cause 1; EN of a ring's CTL is written with the
other fields as they stand; a vector control word takes its mask bit, which backs and releases the entry or gives its vector
back. A fetched descriptor starts within the limits, completed at once where its check fails. NOP completes the first NOP in
progress. The scheduler's next request is issued by the row of its opcode, and by no other. Follows R265, R283, R288, R290,
R291, R292, R296, R305. -/
def Obligations.MoverCommands : Prop :=
  ∀ s : State,
    (∀ (fn : Fin 2048) (n : Fin 64),
      (let f := fn.val
      let k := n.val
      let r := s.dring f k
      let page := fun (e : State) => if s.pageOn f then e else s
      (∀ idx : Fin 65536,
        exec (.dmvSqDoorbell fn n idx) s = .next (s.finish (page
          (if r.phase = .disabled ∨ r.phase = .noResource then s
          else if r.size < (idx.val + 65536 - r.c) % 65536 ∨ r.size < (idx.val + 65536 - r.h) % 65536 then
            (if r.phase = .running then s.dmvStop f k 1 idx.val else s)
          else (if idx.val = r.c then s.dropFetch f k else s).modDring f k (fun x => { x with p := idx.val })))) ∧
        exec (.dmvCqDoorbell fn n idx) s = .next (s.finish (page
          (if r.phase = .disabled ∨ r.phase = .noResource then s
          else if (r.w + 65536 - r.h) % 65536 < (idx.val + 65536 - r.h) % 65536 then
            (if r.phase = .running then s.dmvStop f k 1 idx.val else s)
          else s.modDring f k (fun x => { x with h := idx.val }))))) ∧
      exec (.dmvRingEnable fn n) s = .next (s.finish (page (s.dmvRingCtl f k (setBits r.ctl.toNat 31 31 1)))) ∧
      exec (.dmvRingDisable fn n) s = .next (s.finish (page (s.dmvRingCtl f k (setBits r.ctl.toNat 31 31 0)))) ∧
      (∀ (entry : Fin 256) (masked : Bool), exec (.msixMaskWrite fn entry masked) s = .next (s.finish (page
        (let e := entry.val
        if e < (s.dfn f).vecLimit then
          let t := s.modFn f (fun x => { x with msix := tput (msixReset (4 * e + 3)) x.msix (4 * e + 3) (BitVec.ofNat 32 (b2n masked)) })
          if masked then t.modFn f (fun x => { x with backed := sdel x.backed e })
          else (t.backEntry f e).dmvMsixRelease f
        else s)))) ∧
      (let u := s.useWords [0xC] none none
      let y := u.dring f k
      exec (.descriptorStart fn n) s = .next (s.finish (match y.fetched with
        | none => u
        | some ws =>
          if u.dmvLive f ∧ (u.dfn f).phase = .enabled ∧ u.glb.mode ≠ .quiesced ∧ y.phase = .running ∧ !y.masterOff
              ∧ y.c ≠ y.p ∧ u.dmvInProgress < 32 ∧ y.descs.length < 4 ∧ (!bitOf ((ws.getD 0 0).toNat) 9 ∨ y.descs.isEmpty) then
            let d := descStart y.c ws u.cclkNow
            let d := match descCheck ws with | some st => { d with finished := some (st, 0) } | none => d
            u.modDring f k (fun x => { x with c := wrapInc 16 x.c, fetched := none, descs := x.descs ++ [d] })
          else u))))) ∧
    exec .dmvNop s = .next (s.finish (match s.dmv.fns.findSome? (fun x =>
        if s.dmvLive x.1 then
          x.2.rings.findSome? (fun y => if y.2.masterOff then none
            else (y.2.descs.find? (fun d => d.op == 0 && d.finished.isNone)).map (fun d => (x.1, y.1, d.idx)))
        else none) with
      | some (f, k, i) => s.modDesc f k i (fun d => { d with finished := some (0, 0) })
      | none => s)) ∧
    (let issue := fun (op : Nat) => match s.dmvPick with
      | (some (f, k, d), t) => if d.op = op then t.descIssue f k d else s
      | (none, _) => s
    exec .copy s = .next (s.finish (issue 1)) ∧ exec .fill s = .next (s.finish (issue 2)) ∧
    exec .compare s = .next (s.finish (issue 3)) ∧ exec .digest s = .next (s.finish (issue 4)) ∧
    exec .copyDigest s = .next (s.finish (issue 5)))
end

