-- ==== Sys2Proof/Laws/Access.lean ====
section
/-!
SUPPORT. What a register access and a command's effect stage can do, said once.
-/
namespace Sys2Proof.Machine

/-- A row's BAR0 write is the write of its register, when it is not held up and the path reaches it. -/
theorem writeVia_written (s : State) (path : Path) (off w : Nat) (x : Place) (h4 : off % 4 = 0) (hx : locate off = some x) :
    s.writeVia path off w = s.written path off w (s.writePlace path x w) := by
  unfold State.writeVia State.written State.regWrite
  rw [hx]
  simp only [h4]
  by_cases h : s.reaches path off <;> simp [h]

/-- A ring command's row is the effect stage of its kind. -/
theorem runCmd_effectStage (s : State) (k : Cmd → Bool) (e : State → Cmd → State)
    (h : ∀ t c, k c = true → t.cmdEffect c = e t c) : s.runCmd k = s.effectStage k e := by
  unfold State.runCmd State.effectStage
  cases s.nextCmd with
  | none => rfl
  | some c =>
    simp only
    by_cases hk : k c = true
    · unfold State.takeCmd; rw [h _ c hk]
    · simp [hk]

/-- A kind of an opcode takes commands of this device with that opcode alone. -/
theorem opIs_iff (op : Nat) (c : Cmd) : opIs op c = true ↔ c.isRemote = false ∧ cOp c.q = op := by
  simp [opIs]

/-- A packet on a port that is not active is lost. -/
theorem arrive_inactive (s : State) (x : Rx) (h : s.portActive x.port = false) : s.arrive x = s := by
  unfold State.arrive; simp [h]

/-- A malformed offset is counted and writes nothing (R12). -/
theorem regWrite_malformed (s : State) (path : Path) (off w : Nat) (h : off % 4 ≠ 0) : s.regWrite path off w = s.countDev 0 := by
  unfold State.regWrite; rw [if_pos h]

/-! ### Registers of the lanes -/

set_option maxRecDepth 20000 in
/-- Where LNC_Lnnn_MARGIN_CMD lies: it has no strobe field. -/
theorem locate_marginCmd : ∀ k : Fin 256, (locate (0x210020 + 0x40 * k.val)).map
    (fun x => (x.row.name, x.i, x.row.fields.any (fun f => f.acc == .wos))) = some (.lncMarginCmd, k.val, false) := by decide

set_option maxRecDepth 20000 in
/-- Where LNC_Lnnn_TCMD lies: neither strobe is a reserved encoding. -/
theorem locate_tcmd : ∀ k : Fin 256, (locate (0x21000C + 0x40 * k.val)).map
    (fun x => (x.row.name, x.i, badStrobes x 1, badStrobes x 2)) = some (.lncTcmd, k.val, 0, 0) := by decide

end Sys2Proof.Machine
end

