-- ==== Sys2Proof/Laws/Table.lean ====
section
/-!
SUPPORT. Laws of sparse tables: a write is read back, leaves every other key, and keeps the canonical form.
-/
namespace Sys2Proof.Machine

theorem tfind_mem {α : Type} (t : Tbl α) (k : Nat) (v : α) (h : tfind t k = some v) : (k, v) ∈ t := by
  induction t with
  | nil => simp [tfind] at h
  | cons a t ih =>
    simp only [tfind] at h
    split at h
    · subst_vars; cases h; exact List.mem_cons_self
    · split at h
      · cases h
      · exact List.mem_cons_of_mem _ (ih h)

theorem tfind_tins_same {α : Type} (t : Tbl α) (k : Nat) (v : α) : tfind (tins t k v) k = some v := by
  induction t with
  | nil => simp [tins, tfind]
  | cons a t ih =>
    simp only [tins]
    split
    · simp [tfind]
    · split
      · simp [tfind]
      · simp only [tfind]
        rw [if_neg (by omega), if_neg (by omega), ih]

theorem tfind_tins_other {α : Type} (t : Tbl α) (k j : Nat) (v : α) (h : j ≠ k) : tfind (tins t k v) j = tfind t j := by
  induction t with
  | nil => simp only [tins, tfind]; rw [if_neg h]; split <;> rfl
  | cons a t ih =>
    simp only [tins]
    split
    · simp only [tfind]; rw [if_neg h]
      split
      · rw [if_neg (by omega), if_pos (by omega)]
      · rfl
    · split
      · subst_vars; simp only [tfind, if_neg h]
      · simp only [tfind, ih]

/-- Keys above a bound are found only above it. -/
theorem tfind_low {α : Type} [DecidableEq α] (d : α) (t : Tbl α) (lo k : Nat) (hw : twfFrom d (some lo) t = true) (h : k ≤ lo) :
    tfind t k = none := by
  cases t with
  | nil => rfl
  | cons a t =>
    simp only [twfFrom, Bool.and_eq_true, decide_eq_true_eq] at hw
    simp only [tfind]
    rw [if_neg (by omega), if_pos (by omega)]

theorem twfFrom_weaken {α : Type} [DecidableEq α] (d : α) (t : Tbl α) (lo lo' : Nat) (h : lo' ≤ lo)
    (hw : twfFrom d (some lo) t = true) : twfFrom d (some lo') t = true := by
  cases t with
  | nil => rfl
  | cons a t =>
    simp only [twfFrom, Bool.and_eq_true, decide_eq_true_eq] at hw ⊢
    exact ⟨⟨by omega, hw.1.2⟩, hw.2⟩

theorem tfind_tdel_same {α : Type} [DecidableEq α] (d : α) (t : Tbl α) (k : Nat) :
    ∀ lo, twfFrom d lo t = true → tfind (tdel t k) k = none := by
  induction t with
  | nil => intros; rfl
  | cons a t ih =>
    intro lo hw
    simp only [twfFrom, Bool.and_eq_true] at hw
    simp only [tdel]
    split
    · simp only [tfind]; rw [if_neg (by omega), if_pos (by assumption)]
    · split
      · subst_vars; exact tfind_low d t _ _ hw.2 (Nat.le_refl _)
      · simp only [tfind]; rw [if_neg (by omega), if_neg (by omega), ih _ hw.2]

theorem tfind_tdel_other {α : Type} [DecidableEq α] (d : α) (t : Tbl α) (k j : Nat) (h : j ≠ k) :
    ∀ lo, twfFrom d lo t = true → tfind (tdel t k) j = tfind t j := by
  induction t with
  | nil => intros; rfl
  | cons a t ih =>
    intro lo hw
    simp only [twfFrom, Bool.and_eq_true] at hw
    simp only [tdel]
    split
    · rfl
    · split
      · subst_vars
        simp only [tfind]; rw [if_neg h]
        split
        · exact tfind_low d t _ _ hw.2 (by omega)
        · rfl
      · simp only [tfind, ih _ hw.2]

/-- A write is read back. -/
theorem tget_tput_same {α : Type} [DecidableEq α] (d : α) (t : Tbl α) (k : Nat) (v : α) (hw : twf d t = true) :
    tget d (tput d t k v) k = v := by
  unfold tput tget
  split
  · rw [tfind_tdel_same d t k none hw]; subst_vars; rfl
  · rw [tfind_tins_same]; rfl

/-- A write leaves every other key. -/
theorem tget_tput_other {α : Type} [DecidableEq α] (d : α) (t : Tbl α) (k j : Nat) (v : α) (hw : twf d t = true) (h : j ≠ k) :
    tget d (tput d t k v) j = tget d t j := by
  unfold tput tget
  split
  · rw [tfind_tdel_other d t k j h none hw]
  · rw [tfind_tins_other t k j v h]

theorem tget_tmod_same {α : Type} [DecidableEq α] (d : α) (t : Tbl α) (k : Nat) (f : α → α) (hw : twf d t = true) :
    tget d (tmod d t k f) k = f (tget d t k) := tget_tput_same d t k _ hw

theorem tget_tmod_other {α : Type} [DecidableEq α] (d : α) (t : Tbl α) (k j : Nat) (f : α → α) (hw : twf d t = true) (h : j ≠ k) :
    tget d (tmod d t k f) j = tget d t j := tget_tput_other d t k j _ hw h

theorem twfFrom_tins {α : Type} [DecidableEq α] (d : α) (t : Tbl α) (k : Nat) (v : α) (hv : v ≠ d) :
    ∀ lo, (∀ l, lo = some l → l < k) → twfFrom d lo t = true → twfFrom d lo (tins t k v) = true := by
  induction t with
  | nil =>
    intro lo hlo _
    cases lo with
    | none => simp [tins, twfFrom, hv]
    | some l => simp [tins, twfFrom, hv, hlo l rfl]
  | cons a t ih =>
    intro lo hlo hw
    simp only [twfFrom, Bool.and_eq_true] at hw
    simp only [tins]
    split
    · simp only [twfFrom, Bool.and_eq_true]
      refine ⟨⟨?_, by simpa using hv⟩, ⟨by simpa using ‹_›, hw.1.2⟩, hw.2⟩
      cases lo with
      | none => rfl
      | some l => simpa using hlo l rfl
    · split
      · subst_vars; simp only [twfFrom, Bool.and_eq_true]
        exact ⟨⟨hw.1.1, by simpa using hv⟩, hw.2⟩
      · simp only [twfFrom, Bool.and_eq_true]
        exact ⟨hw.1, ih _ (by intro l e; cases e; omega) hw.2⟩

theorem twfFrom_tdel {α : Type} [DecidableEq α] (d : α) (t : Tbl α) (k : Nat) :
    ∀ lo, twfFrom d lo t = true → twfFrom d lo (tdel t k) = true := by
  induction t with
  | nil => intro lo h; exact h
  | cons a t ih =>
    intro lo hw
    have hw' := hw
    simp only [twfFrom, Bool.and_eq_true] at hw
    simp only [tdel]
    split
    · exact hw'
    · split
      · cases lo with
        | none =>
          cases t with
          | nil => rfl
          | cons b t =>
            have := hw.2
            simp only [twfFrom, Bool.and_eq_true] at this ⊢
            exact ⟨⟨trivial, this.1.2⟩, this.2⟩
        | some l =>
          have hl : l < a.1 := by simpa using hw.1.1
          exact twfFrom_weaken d t a.1 l (by omega) hw.2
      · simp only [twfFrom, Bool.and_eq_true]
        exact ⟨hw.1, ih _ hw.2⟩

/-- A write keeps the canonical form. -/
theorem twf_tput {α : Type} [DecidableEq α] (d : α) (t : Tbl α) (k : Nat) (v : α) (hw : twf d t = true) :
    twf d (tput d t k v) = true := by
  unfold tput
  split
  · exact twfFrom_tdel d t k none hw
  · exact twfFrom_tins d t k v (by assumption) none (by simp) hw

theorem twf_tmod {α : Type} [DecidableEq α] (d : α) (t : Tbl α) (k : Nat) (f : α → α) (hw : twf d t = true) :
    twf d (tmod d t k f) = true := twf_tput d t k _ hw

theorem twf_tputs {α : Type} [DecidableEq α] (d : α) (ps : List (Nat × α)) : ∀ t : Tbl α, twf d t = true → twf d (tputs d t ps) = true := by
  induction ps with
  | nil => intro t h; exact h
  | cons p ps ih => intro t h; exact ih _ (twf_tput d t p.1 p.2 h)

/-- Listed values differ from the default, and keys lie above the bound. -/
theorem twfFrom_mem {α : Type} [DecidableEq α] (d : α) (t : Tbl α) :
    ∀ lo, twfFrom d lo t = true → ∀ x ∈ t, x.2 ≠ d ∧ ∀ l, lo = some l → l < x.1 := by
  induction t with
  | nil => simp
  | cons a t ih =>
    intro lo h x hx
    simp only [twfFrom, Bool.and_eq_true, decide_eq_true_eq] at h
    have hlo : ∀ l, lo = some l → l < a.1 := by
      intro l hl; subst hl; simpa using h.1.1
    rcases List.mem_cons.1 hx with rfl | hx
    · exact ⟨h.1.2, hlo⟩
    · obtain ⟨b, c⟩ := ih _ h.2 x hx
      exact ⟨b, fun l hl => Nat.lt_trans (hlo l hl) (c a.1 rfl)⟩

/-- In a canonical table every listed pair is found. -/
theorem tfind_of_mem {α : Type} [DecidableEq α] (d : α) (t : Tbl α) :
    ∀ lo, twfFrom d lo t = true → ∀ x ∈ t, tfind t x.1 = some x.2 := by
  induction t with
  | nil => simp
  | cons a t ih =>
    intro lo h x hx
    simp only [twfFrom, Bool.and_eq_true] at h
    rcases List.mem_cons.1 hx with rfl | hx
    · simp [tfind]
    · have := (twfFrom_mem d t _ h.2 x hx).2 a.1 rfl
      simp only [tfind]
      rw [if_neg (by omega), if_neg (by omega), ih _ h.2 x hx]

/-- Taking pairs away keeps the canonical form. -/
theorem twfFrom_filter {α : Type} [DecidableEq α] (d : α) (f : Nat × α → Bool) (t : Tbl α) :
    ∀ lo, twfFrom d lo t = true → twfFrom d lo (t.filter f) = true := by
  induction t with
  | nil => intro lo h; exact h
  | cons a t ih =>
    intro lo hw
    have hw' := hw
    simp only [twfFrom, Bool.and_eq_true] at hw
    by_cases hf : f a = true
    · rw [List.filter_cons_of_pos hf]
      simp only [twfFrom, Bool.and_eq_true]
      exact ⟨hw.1, ih _ hw.2⟩
    · rw [List.filter_cons_of_neg hf]
      apply ih
      cases lo with
      | none =>
        cases t with
        | nil => rfl
        | cons b t =>
          have := hw.2
          simp only [twfFrom, Bool.and_eq_true] at this ⊢
          exact ⟨⟨trivial, this.1.2⟩, this.2⟩
      | some l =>
        have hl : l < a.1 := by simpa using hw.1.1
        exact twfFrom_weaken d t a.1 l (by omega) hw.2

theorem twf_filter {α : Type} [DecidableEq α] (d : α) (f : Nat × α → Bool) (t : Tbl α) (h : twf d t = true) :
    twf d (t.filter f) = true := twfFrom_filter d f t none h

/-- Every pair of a changed table comes from a pair of the old one. -/
theorem tmap_mem {α : Type} [DecidableEq α] (d : α) (f : Nat → α → α) (t : Tbl α) :
    ∀ x ∈ tmap d f t, ∃ y ∈ t, x = (y.1, f y.1 y.2) := by
  induction t with
  | nil => simp [tmap]
  | cons a t ih =>
    intro x hx
    simp only [tmap] at hx
    split at hx
    · obtain ⟨y, hy, rfl⟩ := ih x hx; exact ⟨y, by simp [hy], rfl⟩
    · rcases List.mem_cons.1 hx with rfl | hx
      · exact ⟨a, by simp, rfl⟩
      · obtain ⟨y, hy, rfl⟩ := ih x hx; exact ⟨y, by simp [hy], rfl⟩

/-- A map that changes no listed value changes no canonical table. -/
theorem tmap_id {α : Type} [DecidableEq α] (d : α) (f : Nat → α → α) (t : Tbl α) (h1 : ∀ x ∈ t, x.2 ≠ d)
    (h2 : ∀ x ∈ t, f x.1 x.2 = x.2) : tmap d f t = t := by
  induction t with
  | nil => rfl
  | cons a t ih =>
    simp only [tmap]
    rw [h2 a (by simp), if_neg (h1 a (by simp)), ih (fun x hx => h1 x (by simp [hx])) (fun x hx => h2 x (by simp [hx]))]

end Sys2Proof.Machine
end

