-- ==== Sys2Proof/Laws/Finish.lean ====
section
/-!
SUPPORT. How every command ends: its effect, then the consequences of it, then contained ports held OFF.
-/
namespace Sys2Proof.Machine

/-- What a fold keeps when each step keeps it. -/
theorem each_pres {α β : Type} (f : State → α → State) (g : State → β) (h : ∀ s a, g (f s a) = g s) (l : List α) :
    ∀ s : State, g (s.each l f) = g s := by
  induction l with
  | nil => intro s; rfl
  | cons a l ih => intro s; show g ((f s a).each l f) = _; rw [ih, h]

/-- A property that each step keeps holds after a fold. -/
theorem each_inv {α : Type} (f : State → α → State) (P : State → Prop) (h : ∀ s a, P s → P (f s a)) (l : List α) :
    ∀ s : State, P s → P (s.each l f) := by
  induction l with
  | nil => intro s hs; exact hs
  | cons a l ih => intro s hs; exact ih _ (h s a hs)

@[simp] theorem each_nil {α : Type} (s : State) (f : State → α → State) : s.each [] f = s := rfl
@[simp] theorem each_cons {α : Type} (s : State) (a : α) (l : List α) (f : State → α → State) :
    s.each (a :: l) f = (f s a).each l f := rfl

@[simp] theorem finish_actions (s0 s : State) : (s0.finish s).actions = [] := rfl
@[simp] theorem finish_raises (s0 s : State) : (s0.finish s).raises = [] := rfl
@[simp] theorem finish_pending (s0 s : State) : (s0.finish s).pending = s0.pending := rfl

/-- Every command answers the finish of an effect. -/
theorem exec_finish (c : Instr) (s : State) : ∃ e, exec c s = .next (s.finish e) := by
  cases c <;> exact ⟨_, rfl⟩

/-- A contained port is OFF once it is held OFF. -/
theorem enforce_off (s : State) (p : Nat) (hp : s.contained .port p = true) : (s.enforce.port p).sup = .off := by
  simp only [State.port, tget, State.enforce]
  cases h : tfind (tmap port0 _ s.links.ports) p with
  | none => rfl
  | some v =>
    obtain ⟨y, hy, he⟩ := tmap_mem _ _ _ _ (tfind_mem _ _ _ h)
    simp only [Option.getD_some]
    have h1 : p = y.1 := congrArg Prod.fst he
    have h2 : v = _ := congrArg Prod.snd he
    subst h1
    simp only at h2
    rw [h2]
    by_cases hs : y.2.sup = .off
    · simp [hs]
    · simp [hp, hs, PortLink.unlinked]

end Sys2Proof.Machine
end

