-- ==== Sys2Proof/Laws/Memory.lean ====
section
/-!
SUPPORT. Every operation on an addressed memory of the management complex keeps its canonical form: the flash and its erases and
programs, the words of a local memory, the copy of an image to code SRAM, the wipe, the discovery ring in the scratchpad.
-/
namespace Sys2Proof.Machine

/-- A fold of writes keeps the canonical form. -/
theorem wf_foldl {β : Type} (d : Byte) (l : List β) (f : Tbl Byte → β → Tbl Byte)
    (hf : ∀ t b, Memory.wf d t = true → Memory.wf d (f t b) = true) :
    ∀ t : Tbl Byte, Memory.wf d t = true → Memory.wf d (l.foldl f t) = true := by
  induction l with
  | nil => intro t h; exact h
  | cons b l ih => intro t h; exact ih _ (hf t b h)

theorem wf_putMemWord (d : Byte) (t : Tbl Byte) (a w : Nat) (h : Memory.wf d t = true) : Memory.wf d (putMemWord d t a w) = true :=
  wf_foldl d _ _ (fun t _ ht => twf_tput d t _ _ ht) t h

theorem wf_flashPut (m : Mgmt) (a : Nat) (l : List Byte) (h : Memory.wf 0 m.flash = true) : Memory.wf 0 (m.flashPut a l).flash = true :=
  twf_tputs 0 _ _ h

theorem wf_erase (m : List Host.Cell) (f : Host.Cell → Bool) (d : Byte) (h : Memory.wf d m = true) : Memory.wf d (m.filter f) = true :=
  twf_filter d f m h

/-- The copy of an image to code SRAM (R382) is canonical. -/
theorem wf_imageCopy (l : List Host.Cell) (base : Nat) :
    Memory.wf 255 (l.foldl (fun t x => tput 255 t (x.1 - base) (255 - x.2)) []) = true :=
  wf_foldl 255 l _ (fun t _ ht => twf_tput 255 t _ _ ht) [] rfl

theorem wf_spadWrite (s : State) (a : Nat) (bytes : List Byte) (h : Memory.wf 0 s.mgmt.spad = true) :
    Memory.wf 0 (s.spadWrite a bytes).mgmt.spad = true :=
  wf_foldl 0 _ _ (fun t b ht => by
    show Memory.wf 0 (if _ then _ else _) = true
    split
    · exact twf_tput 0 t _ _ ht
    · exact ht) _ h

/-- A write to the scratchpad leaves flash and code SRAM. -/
@[simp] theorem spadWrite_flash (s : State) (a : Nat) (bytes : List Byte) : (s.spadWrite a bytes).mgmt.flash = s.mgmt.flash := rfl
@[simp] theorem spadWrite_sram (s : State) (a : Nat) (bytes : List Byte) : (s.spadWrite a bytes).mgmt.sram = s.mgmt.sram := rfl

/-- Programming flash leaves the local memories. -/
@[simp] theorem flashPut_sram (m : Mgmt) (a : Nat) (l : List Byte) : (m.flashPut a l).sram = m.sram := rfl
@[simp] theorem flashPut_spad (m : Mgmt) (a : Nat) (l : List Byte) : (m.flashPut a l).spad = m.spad := rfl

/-- The memories of the device right after reset are canonical: nothing is listed. -/
theorem reset_memoriesWf : State.reset.memoriesWf = true := by decide

end Sys2Proof.Machine
end

