-- ==== Sys2Proof/Laws/Places.lean ====
section
/-!
SUPPORT. Where the registers of the counters and of the lanes' bit counts lie, and what a read of one 32-bit field gives.
-/
namespace Sys2Proof.Machine

/-- The first row of a list that holds an offset answers. -/
theorem rowHit_first (r : RegRow) (rs : List RegRow) (off : Nat) (x : Place) (h : rowHit r off = some x) :
    findRow (r :: rs) off = some x := by
  unfold findRow; rw [h]

/-- A row that does not hold an offset is passed over. -/
theorem rowHit_next (r : RegRow) (rs : List RegRow) (off : Nat) (h : rowHit r off = none) :
    findRow (r :: rs) off = findRow rs off := by
  conv => lhs; unfold findRow
  rw [h]

/-- A row with one suffix holds each of its places. -/
theorem rowHit_one (r : RegRow) (off i : Nat) (h1 : r.n1 ≠ 1) (h2 : r.n2 = 1) (hi : i < r.n1) (ho : off = r.base + i * r.s1) (hs : 0 < r.s1) :
    rowHit r off = some ⟨r, i, 0, off⟩ := by
  unfold rowHit
  have hd : off - r.base = i * r.s1 := by omega
  rw [if_neg (by omega)]
  simp only [h1, h2, if_false, if_true, hd, Nat.mul_div_cancel _ hs]
  rw [if_pos (by simp [hi])]

/-- A row with one suffix holds nothing below it, between its words, or beyond it. -/
theorem rowHit_none (r : RegRow) (off : Nat) (h : off < r.base ∨ (off - r.base) % r.s1 ≠ 0 ∨ r.n1 * r.s1 ≤ off - r.base)
    (h2 : r.n2 = 1) (h1 : r.n1 ≠ 1) (hs : 0 < r.s1) : rowHit r off = none := by
  unfold rowHit
  by_cases hb : off < r.base
  · rw [if_pos hb]
  · rw [if_neg hb]
    simp only [h1, h2, if_false, if_true]
    rw [if_neg]
    rintro ⟨a, -, c⟩
    simp at c
    have := Nat.div_add_mod (off - r.base) r.s1
    rw [Nat.mul_comm] at this
    rcases h with h | h | h
    · exact hb h
    · omega
    · have := (Nat.div_lt_iff_lt_mul hs).1 a; omega

/-- PMC_CNT_nnnn_LO (R346). -/
theorem locate_counter (n : Fin 8192) : ∃ x, locate (0x1000000 + 8 * n.val) = some x ∧ x.row.name = .pmcCntLo ∧ x.off = 0x1000000 + 8 * n.val
    ∧ x.row.fields.map (fun f => (f.hi, f.lo, f.held, f.acc)) = [(31, 0, true, .ro)] := by
  unfold locate
  rw [show (0x1000000 + 8 * n.val) / 0x100000 = 0x10 by omega]
  exact ⟨_, rowHit_first _ _ _ _ (rowHit_one _ _ n.val (by decide) rfl n.isLt (by show _ = 0x1000000 + n.val * 8; omega) (by decide)), rfl, rfl, rfl⟩

/-- PMC_THR_ttt_VAL_LO (R346). -/
theorem locate_threshold (n : Fin 512) : ∃ x, locate (0x1020004 + 0x10 * n.val) = some x ∧ x.row.name = .pmcThrValLo ∧ x.off = 0x1020004 + 0x10 * n.val
    ∧ x.row.fields.map (fun f => (f.hi, f.lo, f.held, f.acc)) = [(31, 0, true, .ro)] := by
  unfold locate
  rw [show (0x1020004 + 0x10 * n.val) / 0x100000 = 0x10 by omega]
  show ∃ x, findRow regsPmc _ = _ ∧ _
  unfold regsPmc
  rw [rowHit_next, rowHit_next, rowHit_next, rowHit_next, rowHit_next]
  · exact ⟨_, rowHit_first _ _ _ _ (rowHit_one _ _ n.val (by decide) rfl n.isLt (by show _ = 0x1020004 + n.val * 16; omega) (by decide)), rfl, rfl, rfl⟩
  all_goals refine rowHit_none _ _ ?_ rfl (by decide) (by decide)
  all_goals simp only; omega

/-- A row without a suffix holds one word. -/
theorem rowHit_none_one (r : RegRow) (off : Nat) (h1 : r.n1 = 1) (h2 : r.n2 = 1) (h : off ≠ r.base) : rowHit r off = none := by
  unfold rowHit
  split
  · rfl
  · simp only [h1, h2]
    rw [if_neg]
    rintro ⟨-, -, c⟩
    omega

/-- A row with two suffixes holds each of its places. -/
theorem rowHit_two (r : RegRow) (off i j : Nat) (h1 : r.n1 ≠ 1) (h2 : r.n2 ≠ 1) (hi : i < r.n1) (hj : j < r.n2)
    (ho : off = r.base + (i * r.s1 + j * r.s2)) (hw : j * r.s2 < r.s1) (hs : 0 < r.s2) : rowHit r off = some ⟨r, i, j, off⟩ := by
  unfold rowHit
  have hd : off - r.base = j * r.s2 + r.s1 * i := by rw [Nat.mul_comm r.s1]; omega
  have hq : (j * r.s2 + r.s1 * i) / r.s1 = i := by
    rw [Nat.add_mul_div_left _ _ (by omega), Nat.div_eq_of_lt hw, Nat.zero_add]
  have hm : j * r.s2 + r.s1 * i - i * r.s1 = j * r.s2 := by rw [Nat.mul_comm r.s1]; omega
  rw [if_neg (by omega)]
  simp only [h1, h2, if_false, hd, hq, hm, Nat.mul_div_cancel _ hs]
  rw [if_pos (by simp [hi, hj])]

/-- PMC_HIST_hh_BIN_bb_LO (R346). -/
theorem locate_bin (h : Fin 256) (b : Fin 32) : ∃ x, locate (0x1040000 + 0x100 * h.val + 8 * b.val) = some x
    ∧ x.row.name = .pmcHistBinLo ∧ x.off = 0x1040000 + 0x100 * h.val + 8 * b.val
    ∧ x.row.fields.map (fun f => (f.hi, f.lo, f.held, f.acc)) = [(31, 0, true, .ro)] := by
  unfold locate
  rw [show (0x1040000 + 0x100 * h.val + 8 * b.val) / 0x100000 = 0x10 by omega]
  show ∃ x, findRow regsPmc _ = _ ∧ _
  unfold regsPmc
  rw [rowHit_next, rowHit_next, rowHit_next, rowHit_next, rowHit_next, rowHit_next, rowHit_next, rowHit_next, rowHit_next]
  · exact ⟨_, rowHit_first _ _ _ _ (rowHit_two _ _ h.val b.val (by decide) (by decide) h.isLt b.isLt
      (by show _ = 0x1040000 + (h.val * 0x100 + b.val * 8); omega) (by show b.val * 8 < 0x100; omega) (by decide)), rfl, rfl, rfl⟩
  all_goals refine rowHit_none _ _ ?_ rfl (by decide) (by decide)
  all_goals simp only; omega

/-- LNC_Lnnn_BITCNT_LO (R262). -/
theorem locate_bitcnt (l : Fin 256) : ∃ x, locate (0x210018 + 0x40 * l.val) = some x ∧ x.row.name = .lncBitcntLo ∧ x.i = l.val
    ∧ x.row.fields.map (fun f => (f.hi, f.lo, f.held, f.acc)) = [(31, 0, true, .ro)] := by
  unfold locate
  rw [show (0x210018 + 0x40 * l.val) / 0x100000 = 2 by omega]
  show ∃ x, findRow regsLnc _ = _ ∧ _
  unfold regsLnc
  rw [rowHit_next, rowHit_next, rowHit_next, rowHit_next, rowHit_next, rowHit_next, rowHit_next, rowHit_next, rowHit_next, rowHit_next,
    rowHit_next]
  · exact ⟨_, rowHit_first _ _ _ _ (rowHit_one _ _ l.val (by decide) rfl l.isLt (by show _ = 0x210018 + l.val * 0x40; omega)
      (by decide)), rfl, rfl, rfl⟩
  all_goals first
    | exact rowHit_none _ _ (by simp only; omega) rfl (by decide) (by decide)
    | exact rowHit_none_one _ _ rfl rfl (by simp only; omega)

/-- A register of one read-only field of 32 bits reads as the low 32 bits of its live value (R10). -/
theorem readPlace_whole (s : State) (path : Path) (x : Place)
    (h : x.row.fields.map (fun f => (f.hi, f.lo, f.held, f.acc)) = [(31, 0, true, .ro)]) :
    s.readPlace path x = s.liveWord path x % 2 ^ 32 := by
  unfold State.readPlace
  obtain ⟨f, hf, he⟩ : ∃ f, x.row.fields = [f] ∧ (f.hi, f.lo, f.held, f.acc) = (31, 0, true, .ro) := by
    rcases hx : x.row.fields with _ | ⟨f, _ | ⟨g, l⟩⟩
    · rw [hx] at h; simp at h
    · rw [hx] at h; exact ⟨f, rfl, by simpa using h⟩
    · rw [hx] at h; simp at h
  obtain ⟨h1, h2, h3, h4⟩ : f.hi = 31 ∧ f.lo = 0 ∧ f.held = true ∧ f.acc = .ro := by simpa using he
  rw [hf]
  simp only [List.foldl, h1, h2, h3, h4, State.codeWord, if_true, place, bitsOf, Nat.shiftRight_zero, Nat.shiftLeft_zero, Nat.mod_mod, Nat.zero_add]

/-- A read that a row makes of such a register: its low 32 bits go out, and the read has its effect on the latches (R12, R36). -/
theorem readVia_whole (s : State) (path : Path) (off : Nat) (x : Place) (h4 : off % 4 = 0) (hx : locate off = some x)
    (h : x.row.fields.map (fun f => (f.hi, f.lo, f.held, f.acc)) = [(31, 0, true, .ro)]) :
    s.readVia path off = s.readOut path off (s.liveWord path x % 2 ^ 32) (s.readLatch path x) := by
  unfold State.readVia State.readOut
  split
  · rfl
  · unfold State.regRead
    rw [if_neg (by omega)]
    by_cases hr : s.reaches path off = true
    · rw [if_neg (by simp [hr]), if_pos hr, hx]
      simp only [readPlace_whole s path x h]
    · rw [if_pos (by simp [hr]), if_neg hr]

/-! ### Command registers with a suffix: their place, their suffix, and no strobe refused -/

set_option maxRecDepth 20000 in
/-- CMR_Rrr_SQ_DB. -/
theorem locate_sqDb : ∀ k : Fin 64, (locate (0xB00000 + 0x1000 * k.val)).map
    (fun x => (x.row.name, x.i, x.row.fields.all (fun f => f.bad.isEmpty))) = some (.cmrSqDb, k.val, true) := by decide

set_option maxRecDepth 20000 in
/-- CMR_Rrr_CQ_DB. -/
theorem locate_cqDb : ∀ k : Fin 64, (locate (0xB00004 + 0x1000 * k.val)).map
    (fun x => (x.row.name, x.i, x.row.fields.all (fun f => f.bad.isEmpty))) = some (.cmrCqDb, k.val, true) := by decide

set_option maxRecDepth 20000 in
/-- CMR_Rrr_CTL. -/
theorem locate_ringCtl : ∀ k : Fin 64, (locate (0xB40010 + 0x40 * k.val)).map
    (fun x => (x.row.name, x.i, x.row.fields.any (fun f => f.acc == .wos))) = some (.cmrCtl, k.val, false) := by decide

set_option maxRecDepth 20000 in
/-- PLK_Pnn_CMD. -/
theorem locate_plkCmd : ∀ k : Fin 64, (locate (0x300008 + 0x100 * k.val)).map
    (fun x => (x.row.name, x.i, badStrobes x 1)) = some (.plkCmd, k.val, 0) := by decide

set_option maxRecDepth 20000 in
/-- BFL_Pnn_CMD. -/
theorem locate_bflCmd : ∀ k : Fin 64, (locate (0x400004 + 0x100 * k.val)).map
    (fun x => (x.row.name, x.i, badStrobes x 1)) = some (.bflCmd, k.val, 0) := by decide

set_option maxRecDepth 20000 in
/-- SPN_UNIT_GROUP_kk. -/
theorem locate_unitGroup : ∀ k : Fin 47, (locate (0x100200 + 4 * k.val)).map
    (fun x => (x.row.name, x.i, x.row.fields.any (fun f => f.acc == .wos))) = some (.spnUnitGroup, k.val, false) := by decide

set_option maxRecDepth 20000 in
/-- PWR_SLOTss_CTL. -/
theorem locate_slotCtl : ∀ k : Fin 16, (locate (0x1100000 + 0x40 * k.val)).map
    (fun x => (x.row.name, x.i, [0, 2 ^ 30, 2 ^ 31, 2 ^ 31 + 2 ^ 30].all (fun w => badStrobes x w == 0)))
      = some (.pwrSlotCtl, k.val, true) := by decide

end Sys2Proof.Machine
end

