-- ==== Sys2Proof/Laws/State.lean ====
section
/-!
SUPPORT. Each field of the state after each of the updates from which operations are made: the one that changes, and the
others, which stay.
-/
namespace Sys2Proof.Machine

/-! ### modMgt -/

@[simp] theorem modMgt_glb (s : State) (f : Mgmt → Mgmt) : (s.modMgt f).glb = s.glb := rfl
@[simp] theorem modMgt_spine (s : State) (f : Mgmt → Mgmt) : (s.modMgt f).spine = s.spine := rfl
@[simp] theorem modMgt_regs (s : State) (f : Mgmt → Mgmt) : (s.modMgt f).regs = s.regs := rfl
@[simp] theorem modMgt_ledger (s : State) (f : Mgmt → Mgmt) : (s.modMgt f).ledger = s.ledger := rfl
@[simp] theorem modMgt_path (s : State) (f : Mgmt → Mgmt) : (s.modMgt f).path = s.path := rfl
@[simp] theorem modMgt_mig (s : State) (f : Mgmt → Mgmt) : (s.modMgt f).mig = s.mig := rfl
@[simp] theorem modMgt_links (s : State) (f : Mgmt → Mgmt) : (s.modMgt f).links = s.links := rfl
@[simp] theorem modMgt_agd (s : State) (f : Mgmt → Mgmt) : (s.modMgt f).agd = s.agd := rfl
@[simp] theorem modMgt_hiers (s : State) (f : Mgmt → Mgmt) : (s.modMgt f).hiers = s.hiers := rfl
@[simp] theorem modMgt_dmv (s : State) (f : Mgmt → Mgmt) : (s.modMgt f).dmv = s.dmv := rfl
@[simp] theorem modMgt_fabric (s : State) (f : Mgmt → Mgmt) : (s.modMgt f).fabric = s.fabric := rfl
@[simp] theorem modMgt_rings (s : State) (f : Mgmt → Mgmt) : (s.modMgt f).rings = s.rings := rfl
@[simp] theorem modMgt_obs (s : State) (f : Mgmt → Mgmt) : (s.modMgt f).obs = s.obs := rfl
@[simp] theorem modMgt_power (s : State) (f : Mgmt → Mgmt) : (s.modMgt f).power = s.power := rfl
@[simp] theorem modMgt_mgmt (s : State) (f : Mgmt → Mgmt) : (s.modMgt f).mgmt = f s.mgmt := rfl
@[simp] theorem modMgt_counts (s : State) (f : Mgmt → Mgmt) : (s.modMgt f).counts = s.counts := rfl
@[simp] theorem modMgt_raises (s : State) (f : Mgmt → Mgmt) : (s.modMgt f).raises = s.raises := rfl
@[simp] theorem modMgt_actions (s : State) (f : Mgmt → Mgmt) : (s.modMgt f).actions = s.actions := rfl
@[simp] theorem modMgt_outbox (s : State) (f : Mgmt → Mgmt) : (s.modMgt f).outbox = s.outbox := rfl
@[simp] theorem modMgt_pending (s : State) (f : Mgmt → Mgmt) : (s.modMgt f).pending = s.pending := rfl
@[simp] theorem modMgt_freeCtr (s : State) (f : Mgmt → Mgmt) : (s.modMgt f).freeCtr = s.freeCtr := rfl

/-! ### modFab -/

@[simp] theorem modFab_glb (s : State) (f : Fabric → Fabric) : (s.modFab f).glb = s.glb := rfl
@[simp] theorem modFab_spine (s : State) (f : Fabric → Fabric) : (s.modFab f).spine = s.spine := rfl
@[simp] theorem modFab_regs (s : State) (f : Fabric → Fabric) : (s.modFab f).regs = s.regs := rfl
@[simp] theorem modFab_ledger (s : State) (f : Fabric → Fabric) : (s.modFab f).ledger = s.ledger := rfl
@[simp] theorem modFab_path (s : State) (f : Fabric → Fabric) : (s.modFab f).path = s.path := rfl
@[simp] theorem modFab_mig (s : State) (f : Fabric → Fabric) : (s.modFab f).mig = s.mig := rfl
@[simp] theorem modFab_links (s : State) (f : Fabric → Fabric) : (s.modFab f).links = s.links := rfl
@[simp] theorem modFab_agd (s : State) (f : Fabric → Fabric) : (s.modFab f).agd = s.agd := rfl
@[simp] theorem modFab_hiers (s : State) (f : Fabric → Fabric) : (s.modFab f).hiers = s.hiers := rfl
@[simp] theorem modFab_dmv (s : State) (f : Fabric → Fabric) : (s.modFab f).dmv = s.dmv := rfl
@[simp] theorem modFab_fabric (s : State) (f : Fabric → Fabric) : (s.modFab f).fabric = f s.fabric := rfl
@[simp] theorem modFab_rings (s : State) (f : Fabric → Fabric) : (s.modFab f).rings = s.rings := rfl
@[simp] theorem modFab_obs (s : State) (f : Fabric → Fabric) : (s.modFab f).obs = s.obs := rfl
@[simp] theorem modFab_power (s : State) (f : Fabric → Fabric) : (s.modFab f).power = s.power := rfl
@[simp] theorem modFab_mgmt (s : State) (f : Fabric → Fabric) : (s.modFab f).mgmt = s.mgmt := rfl
@[simp] theorem modFab_counts (s : State) (f : Fabric → Fabric) : (s.modFab f).counts = s.counts := rfl
@[simp] theorem modFab_raises (s : State) (f : Fabric → Fabric) : (s.modFab f).raises = s.raises := rfl
@[simp] theorem modFab_actions (s : State) (f : Fabric → Fabric) : (s.modFab f).actions = s.actions := rfl
@[simp] theorem modFab_outbox (s : State) (f : Fabric → Fabric) : (s.modFab f).outbox = s.outbox := rfl
@[simp] theorem modFab_pending (s : State) (f : Fabric → Fabric) : (s.modFab f).pending = s.pending := rfl
@[simp] theorem modFab_freeCtr (s : State) (f : Fabric → Fabric) : (s.modFab f).freeCtr = s.freeCtr := rfl

/-! ### modDmv -/

@[simp] theorem modDmv_glb (s : State) (f : Dmv → Dmv) : (s.modDmv f).glb = s.glb := rfl
@[simp] theorem modDmv_spine (s : State) (f : Dmv → Dmv) : (s.modDmv f).spine = s.spine := rfl
@[simp] theorem modDmv_regs (s : State) (f : Dmv → Dmv) : (s.modDmv f).regs = s.regs := rfl
@[simp] theorem modDmv_ledger (s : State) (f : Dmv → Dmv) : (s.modDmv f).ledger = s.ledger := rfl
@[simp] theorem modDmv_path (s : State) (f : Dmv → Dmv) : (s.modDmv f).path = s.path := rfl
@[simp] theorem modDmv_mig (s : State) (f : Dmv → Dmv) : (s.modDmv f).mig = s.mig := rfl
@[simp] theorem modDmv_links (s : State) (f : Dmv → Dmv) : (s.modDmv f).links = s.links := rfl
@[simp] theorem modDmv_agd (s : State) (f : Dmv → Dmv) : (s.modDmv f).agd = s.agd := rfl
@[simp] theorem modDmv_hiers (s : State) (f : Dmv → Dmv) : (s.modDmv f).hiers = s.hiers := rfl
@[simp] theorem modDmv_dmv (s : State) (f : Dmv → Dmv) : (s.modDmv f).dmv = f s.dmv := rfl
@[simp] theorem modDmv_fabric (s : State) (f : Dmv → Dmv) : (s.modDmv f).fabric = s.fabric := rfl
@[simp] theorem modDmv_rings (s : State) (f : Dmv → Dmv) : (s.modDmv f).rings = s.rings := rfl
@[simp] theorem modDmv_obs (s : State) (f : Dmv → Dmv) : (s.modDmv f).obs = s.obs := rfl
@[simp] theorem modDmv_power (s : State) (f : Dmv → Dmv) : (s.modDmv f).power = s.power := rfl
@[simp] theorem modDmv_mgmt (s : State) (f : Dmv → Dmv) : (s.modDmv f).mgmt = s.mgmt := rfl
@[simp] theorem modDmv_counts (s : State) (f : Dmv → Dmv) : (s.modDmv f).counts = s.counts := rfl
@[simp] theorem modDmv_raises (s : State) (f : Dmv → Dmv) : (s.modDmv f).raises = s.raises := rfl
@[simp] theorem modDmv_actions (s : State) (f : Dmv → Dmv) : (s.modDmv f).actions = s.actions := rfl
@[simp] theorem modDmv_outbox (s : State) (f : Dmv → Dmv) : (s.modDmv f).outbox = s.outbox := rfl
@[simp] theorem modDmv_pending (s : State) (f : Dmv → Dmv) : (s.modDmv f).pending = s.pending := rfl
@[simp] theorem modDmv_freeCtr (s : State) (f : Dmv → Dmv) : (s.modDmv f).freeCtr = s.freeCtr := rfl

/-! ### modObs -/

@[simp] theorem modObs_glb (s : State) (f : Obs → Obs) : (s.modObs f).glb = s.glb := rfl
@[simp] theorem modObs_spine (s : State) (f : Obs → Obs) : (s.modObs f).spine = s.spine := rfl
@[simp] theorem modObs_regs (s : State) (f : Obs → Obs) : (s.modObs f).regs = s.regs := rfl
@[simp] theorem modObs_ledger (s : State) (f : Obs → Obs) : (s.modObs f).ledger = s.ledger := rfl
@[simp] theorem modObs_path (s : State) (f : Obs → Obs) : (s.modObs f).path = s.path := rfl
@[simp] theorem modObs_mig (s : State) (f : Obs → Obs) : (s.modObs f).mig = s.mig := rfl
@[simp] theorem modObs_links (s : State) (f : Obs → Obs) : (s.modObs f).links = s.links := rfl
@[simp] theorem modObs_agd (s : State) (f : Obs → Obs) : (s.modObs f).agd = s.agd := rfl
@[simp] theorem modObs_hiers (s : State) (f : Obs → Obs) : (s.modObs f).hiers = s.hiers := rfl
@[simp] theorem modObs_dmv (s : State) (f : Obs → Obs) : (s.modObs f).dmv = s.dmv := rfl
@[simp] theorem modObs_fabric (s : State) (f : Obs → Obs) : (s.modObs f).fabric = s.fabric := rfl
@[simp] theorem modObs_rings (s : State) (f : Obs → Obs) : (s.modObs f).rings = s.rings := rfl
@[simp] theorem modObs_obs (s : State) (f : Obs → Obs) : (s.modObs f).obs = f s.obs := rfl
@[simp] theorem modObs_power (s : State) (f : Obs → Obs) : (s.modObs f).power = s.power := rfl
@[simp] theorem modObs_mgmt (s : State) (f : Obs → Obs) : (s.modObs f).mgmt = s.mgmt := rfl
@[simp] theorem modObs_counts (s : State) (f : Obs → Obs) : (s.modObs f).counts = s.counts := rfl
@[simp] theorem modObs_raises (s : State) (f : Obs → Obs) : (s.modObs f).raises = s.raises := rfl
@[simp] theorem modObs_actions (s : State) (f : Obs → Obs) : (s.modObs f).actions = s.actions := rfl
@[simp] theorem modObs_outbox (s : State) (f : Obs → Obs) : (s.modObs f).outbox = s.outbox := rfl
@[simp] theorem modObs_pending (s : State) (f : Obs → Obs) : (s.modObs f).pending = s.pending := rfl
@[simp] theorem modObs_freeCtr (s : State) (f : Obs → Obs) : (s.modObs f).freeCtr = s.freeCtr := rfl

/-! ### modPow -/

@[simp] theorem modPow_glb (s : State) (f : Power → Power) : (s.modPow f).glb = s.glb := rfl
@[simp] theorem modPow_spine (s : State) (f : Power → Power) : (s.modPow f).spine = s.spine := rfl
@[simp] theorem modPow_regs (s : State) (f : Power → Power) : (s.modPow f).regs = s.regs := rfl
@[simp] theorem modPow_ledger (s : State) (f : Power → Power) : (s.modPow f).ledger = s.ledger := rfl
@[simp] theorem modPow_path (s : State) (f : Power → Power) : (s.modPow f).path = s.path := rfl
@[simp] theorem modPow_mig (s : State) (f : Power → Power) : (s.modPow f).mig = s.mig := rfl
@[simp] theorem modPow_links (s : State) (f : Power → Power) : (s.modPow f).links = s.links := rfl
@[simp] theorem modPow_agd (s : State) (f : Power → Power) : (s.modPow f).agd = s.agd := rfl
@[simp] theorem modPow_hiers (s : State) (f : Power → Power) : (s.modPow f).hiers = s.hiers := rfl
@[simp] theorem modPow_dmv (s : State) (f : Power → Power) : (s.modPow f).dmv = s.dmv := rfl
@[simp] theorem modPow_fabric (s : State) (f : Power → Power) : (s.modPow f).fabric = s.fabric := rfl
@[simp] theorem modPow_rings (s : State) (f : Power → Power) : (s.modPow f).rings = s.rings := rfl
@[simp] theorem modPow_obs (s : State) (f : Power → Power) : (s.modPow f).obs = s.obs := rfl
@[simp] theorem modPow_power (s : State) (f : Power → Power) : (s.modPow f).power = f s.power := rfl
@[simp] theorem modPow_mgmt (s : State) (f : Power → Power) : (s.modPow f).mgmt = s.mgmt := rfl
@[simp] theorem modPow_counts (s : State) (f : Power → Power) : (s.modPow f).counts = s.counts := rfl
@[simp] theorem modPow_raises (s : State) (f : Power → Power) : (s.modPow f).raises = s.raises := rfl
@[simp] theorem modPow_actions (s : State) (f : Power → Power) : (s.modPow f).actions = s.actions := rfl
@[simp] theorem modPow_outbox (s : State) (f : Power → Power) : (s.modPow f).outbox = s.outbox := rfl
@[simp] theorem modPow_pending (s : State) (f : Power → Power) : (s.modPow f).pending = s.pending := rfl
@[simp] theorem modPow_freeCtr (s : State) (f : Power → Power) : (s.modPow f).freeCtr = s.freeCtr := rfl

/-! ### modRings -/

@[simp] theorem modRings_glb (s : State) (f : Rings → Rings) : (s.modRings f).glb = s.glb := rfl
@[simp] theorem modRings_spine (s : State) (f : Rings → Rings) : (s.modRings f).spine = s.spine := rfl
@[simp] theorem modRings_regs (s : State) (f : Rings → Rings) : (s.modRings f).regs = s.regs := rfl
@[simp] theorem modRings_ledger (s : State) (f : Rings → Rings) : (s.modRings f).ledger = s.ledger := rfl
@[simp] theorem modRings_path (s : State) (f : Rings → Rings) : (s.modRings f).path = s.path := rfl
@[simp] theorem modRings_mig (s : State) (f : Rings → Rings) : (s.modRings f).mig = s.mig := rfl
@[simp] theorem modRings_links (s : State) (f : Rings → Rings) : (s.modRings f).links = s.links := rfl
@[simp] theorem modRings_agd (s : State) (f : Rings → Rings) : (s.modRings f).agd = s.agd := rfl
@[simp] theorem modRings_hiers (s : State) (f : Rings → Rings) : (s.modRings f).hiers = s.hiers := rfl
@[simp] theorem modRings_dmv (s : State) (f : Rings → Rings) : (s.modRings f).dmv = s.dmv := rfl
@[simp] theorem modRings_fabric (s : State) (f : Rings → Rings) : (s.modRings f).fabric = s.fabric := rfl
@[simp] theorem modRings_rings (s : State) (f : Rings → Rings) : (s.modRings f).rings = f s.rings := rfl
@[simp] theorem modRings_obs (s : State) (f : Rings → Rings) : (s.modRings f).obs = s.obs := rfl
@[simp] theorem modRings_power (s : State) (f : Rings → Rings) : (s.modRings f).power = s.power := rfl
@[simp] theorem modRings_mgmt (s : State) (f : Rings → Rings) : (s.modRings f).mgmt = s.mgmt := rfl
@[simp] theorem modRings_counts (s : State) (f : Rings → Rings) : (s.modRings f).counts = s.counts := rfl
@[simp] theorem modRings_raises (s : State) (f : Rings → Rings) : (s.modRings f).raises = s.raises := rfl
@[simp] theorem modRings_actions (s : State) (f : Rings → Rings) : (s.modRings f).actions = s.actions := rfl
@[simp] theorem modRings_outbox (s : State) (f : Rings → Rings) : (s.modRings f).outbox = s.outbox := rfl
@[simp] theorem modRings_pending (s : State) (f : Rings → Rings) : (s.modRings f).pending = s.pending := rfl
@[simp] theorem modRings_freeCtr (s : State) (f : Rings → Rings) : (s.modRings f).freeCtr = s.freeCtr := rfl

/-! ### modHeat -/

@[simp] theorem modHeat_glb (s : State) (f : Heat → Heat) : (s.modHeat f).glb = s.glb := rfl
@[simp] theorem modHeat_spine (s : State) (f : Heat → Heat) : (s.modHeat f).spine = s.spine := rfl
@[simp] theorem modHeat_regs (s : State) (f : Heat → Heat) : (s.modHeat f).regs = s.regs := rfl
@[simp] theorem modHeat_ledger (s : State) (f : Heat → Heat) : (s.modHeat f).ledger = s.ledger := rfl
@[simp] theorem modHeat_path (s : State) (f : Heat → Heat) : (s.modHeat f).path = s.path := rfl
@[simp] theorem modHeat_links (s : State) (f : Heat → Heat) : (s.modHeat f).links = s.links := rfl
@[simp] theorem modHeat_agd (s : State) (f : Heat → Heat) : (s.modHeat f).agd = s.agd := rfl
@[simp] theorem modHeat_hiers (s : State) (f : Heat → Heat) : (s.modHeat f).hiers = s.hiers := rfl
@[simp] theorem modHeat_dmv (s : State) (f : Heat → Heat) : (s.modHeat f).dmv = s.dmv := rfl
@[simp] theorem modHeat_fabric (s : State) (f : Heat → Heat) : (s.modHeat f).fabric = s.fabric := rfl
@[simp] theorem modHeat_rings (s : State) (f : Heat → Heat) : (s.modHeat f).rings = s.rings := rfl
@[simp] theorem modHeat_obs (s : State) (f : Heat → Heat) : (s.modHeat f).obs = s.obs := rfl
@[simp] theorem modHeat_power (s : State) (f : Heat → Heat) : (s.modHeat f).power = s.power := rfl
@[simp] theorem modHeat_mgmt (s : State) (f : Heat → Heat) : (s.modHeat f).mgmt = s.mgmt := rfl
@[simp] theorem modHeat_counts (s : State) (f : Heat → Heat) : (s.modHeat f).counts = s.counts := rfl
@[simp] theorem modHeat_raises (s : State) (f : Heat → Heat) : (s.modHeat f).raises = s.raises := rfl
@[simp] theorem modHeat_actions (s : State) (f : Heat → Heat) : (s.modHeat f).actions = s.actions := rfl
@[simp] theorem modHeat_outbox (s : State) (f : Heat → Heat) : (s.modHeat f).outbox = s.outbox := rfl
@[simp] theorem modHeat_pending (s : State) (f : Heat → Heat) : (s.modHeat f).pending = s.pending := rfl
@[simp] theorem modHeat_freeCtr (s : State) (f : Heat → Heat) : (s.modHeat f).freeCtr = s.freeCtr := rfl

/-! ### modHier -/

@[simp] theorem modHier_glb (s : State) (h : Nat) (f : HierState → HierState) : (s.modHier h f).glb = s.glb := rfl
@[simp] theorem modHier_spine (s : State) (h : Nat) (f : HierState → HierState) : (s.modHier h f).spine = s.spine := rfl
@[simp] theorem modHier_regs (s : State) (h : Nat) (f : HierState → HierState) : (s.modHier h f).regs = s.regs := rfl
@[simp] theorem modHier_ledger (s : State) (h : Nat) (f : HierState → HierState) : (s.modHier h f).ledger = s.ledger := rfl
@[simp] theorem modHier_path (s : State) (h : Nat) (f : HierState → HierState) : (s.modHier h f).path = s.path := rfl
@[simp] theorem modHier_mig (s : State) (h : Nat) (f : HierState → HierState) : (s.modHier h f).mig = s.mig := rfl
@[simp] theorem modHier_links (s : State) (h : Nat) (f : HierState → HierState) : (s.modHier h f).links = s.links := rfl
@[simp] theorem modHier_agd (s : State) (h : Nat) (f : HierState → HierState) : (s.modHier h f).agd = s.agd := rfl
@[simp] theorem modHier_hiers (s : State) (h : Nat) (f : HierState → HierState) : (s.modHier h f).hiers = tmod hier0 s.hiers h f := rfl
@[simp] theorem modHier_dmv (s : State) (h : Nat) (f : HierState → HierState) : (s.modHier h f).dmv = s.dmv := rfl
@[simp] theorem modHier_fabric (s : State) (h : Nat) (f : HierState → HierState) : (s.modHier h f).fabric = s.fabric := rfl
@[simp] theorem modHier_rings (s : State) (h : Nat) (f : HierState → HierState) : (s.modHier h f).rings = s.rings := rfl
@[simp] theorem modHier_obs (s : State) (h : Nat) (f : HierState → HierState) : (s.modHier h f).obs = s.obs := rfl
@[simp] theorem modHier_power (s : State) (h : Nat) (f : HierState → HierState) : (s.modHier h f).power = s.power := rfl
@[simp] theorem modHier_mgmt (s : State) (h : Nat) (f : HierState → HierState) : (s.modHier h f).mgmt = s.mgmt := rfl
@[simp] theorem modHier_counts (s : State) (h : Nat) (f : HierState → HierState) : (s.modHier h f).counts = s.counts := rfl
@[simp] theorem modHier_raises (s : State) (h : Nat) (f : HierState → HierState) : (s.modHier h f).raises = s.raises := rfl
@[simp] theorem modHier_actions (s : State) (h : Nat) (f : HierState → HierState) : (s.modHier h f).actions = s.actions := rfl
@[simp] theorem modHier_outbox (s : State) (h : Nat) (f : HierState → HierState) : (s.modHier h f).outbox = s.outbox := rfl
@[simp] theorem modHier_pending (s : State) (h : Nat) (f : HierState → HierState) : (s.modHier h f).pending = s.pending := rfl
@[simp] theorem modHier_freeCtr (s : State) (h : Nat) (f : HierState → HierState) : (s.modHier h f).freeCtr = s.freeCtr := rfl

/-! ### modPort -/

@[simp] theorem modPort_glb (s : State) (p : Nat) (f : PortLink → PortLink) : (s.modPort p f).glb = s.glb := rfl
@[simp] theorem modPort_spine (s : State) (p : Nat) (f : PortLink → PortLink) : (s.modPort p f).spine = s.spine := rfl
@[simp] theorem modPort_regs (s : State) (p : Nat) (f : PortLink → PortLink) : (s.modPort p f).regs = s.regs := rfl
@[simp] theorem modPort_ledger (s : State) (p : Nat) (f : PortLink → PortLink) : (s.modPort p f).ledger = s.ledger := rfl
@[simp] theorem modPort_path (s : State) (p : Nat) (f : PortLink → PortLink) : (s.modPort p f).path = s.path := rfl
@[simp] theorem modPort_mig (s : State) (p : Nat) (f : PortLink → PortLink) : (s.modPort p f).mig = s.mig := rfl
@[simp] theorem modPort_agd (s : State) (p : Nat) (f : PortLink → PortLink) : (s.modPort p f).agd = s.agd := rfl
@[simp] theorem modPort_hiers (s : State) (p : Nat) (f : PortLink → PortLink) : (s.modPort p f).hiers = s.hiers := rfl
@[simp] theorem modPort_dmv (s : State) (p : Nat) (f : PortLink → PortLink) : (s.modPort p f).dmv = s.dmv := rfl
@[simp] theorem modPort_fabric (s : State) (p : Nat) (f : PortLink → PortLink) : (s.modPort p f).fabric = s.fabric := rfl
@[simp] theorem modPort_rings (s : State) (p : Nat) (f : PortLink → PortLink) : (s.modPort p f).rings = s.rings := rfl
@[simp] theorem modPort_obs (s : State) (p : Nat) (f : PortLink → PortLink) : (s.modPort p f).obs = s.obs := rfl
@[simp] theorem modPort_power (s : State) (p : Nat) (f : PortLink → PortLink) : (s.modPort p f).power = s.power := rfl
@[simp] theorem modPort_mgmt (s : State) (p : Nat) (f : PortLink → PortLink) : (s.modPort p f).mgmt = s.mgmt := rfl
@[simp] theorem modPort_counts (s : State) (p : Nat) (f : PortLink → PortLink) : (s.modPort p f).counts = s.counts := rfl
@[simp] theorem modPort_raises (s : State) (p : Nat) (f : PortLink → PortLink) : (s.modPort p f).raises = s.raises := rfl
@[simp] theorem modPort_actions (s : State) (p : Nat) (f : PortLink → PortLink) : (s.modPort p f).actions = s.actions := rfl
@[simp] theorem modPort_outbox (s : State) (p : Nat) (f : PortLink → PortLink) : (s.modPort p f).outbox = s.outbox := rfl
@[simp] theorem modPort_pending (s : State) (p : Nat) (f : PortLink → PortLink) : (s.modPort p f).pending = s.pending := rfl
@[simp] theorem modPort_freeCtr (s : State) (p : Nat) (f : PortLink → PortLink) : (s.modPort p f).freeCtr = s.freeCtr := rfl

/-! ### modLane -/

@[simp] theorem modLane_glb (s : State) (l : Nat) (f : LaneState → LaneState) : (s.modLane l f).glb = s.glb := rfl
@[simp] theorem modLane_spine (s : State) (l : Nat) (f : LaneState → LaneState) : (s.modLane l f).spine = s.spine := rfl
@[simp] theorem modLane_regs (s : State) (l : Nat) (f : LaneState → LaneState) : (s.modLane l f).regs = s.regs := rfl
@[simp] theorem modLane_ledger (s : State) (l : Nat) (f : LaneState → LaneState) : (s.modLane l f).ledger = s.ledger := rfl
@[simp] theorem modLane_path (s : State) (l : Nat) (f : LaneState → LaneState) : (s.modLane l f).path = s.path := rfl
@[simp] theorem modLane_mig (s : State) (l : Nat) (f : LaneState → LaneState) : (s.modLane l f).mig = s.mig := rfl
@[simp] theorem modLane_agd (s : State) (l : Nat) (f : LaneState → LaneState) : (s.modLane l f).agd = s.agd := rfl
@[simp] theorem modLane_hiers (s : State) (l : Nat) (f : LaneState → LaneState) : (s.modLane l f).hiers = s.hiers := rfl
@[simp] theorem modLane_dmv (s : State) (l : Nat) (f : LaneState → LaneState) : (s.modLane l f).dmv = s.dmv := rfl
@[simp] theorem modLane_fabric (s : State) (l : Nat) (f : LaneState → LaneState) : (s.modLane l f).fabric = s.fabric := rfl
@[simp] theorem modLane_rings (s : State) (l : Nat) (f : LaneState → LaneState) : (s.modLane l f).rings = s.rings := rfl
@[simp] theorem modLane_obs (s : State) (l : Nat) (f : LaneState → LaneState) : (s.modLane l f).obs = s.obs := rfl
@[simp] theorem modLane_power (s : State) (l : Nat) (f : LaneState → LaneState) : (s.modLane l f).power = s.power := rfl
@[simp] theorem modLane_mgmt (s : State) (l : Nat) (f : LaneState → LaneState) : (s.modLane l f).mgmt = s.mgmt := rfl
@[simp] theorem modLane_counts (s : State) (l : Nat) (f : LaneState → LaneState) : (s.modLane l f).counts = s.counts := rfl
@[simp] theorem modLane_raises (s : State) (l : Nat) (f : LaneState → LaneState) : (s.modLane l f).raises = s.raises := rfl
@[simp] theorem modLane_actions (s : State) (l : Nat) (f : LaneState → LaneState) : (s.modLane l f).actions = s.actions := rfl
@[simp] theorem modLane_outbox (s : State) (l : Nat) (f : LaneState → LaneState) : (s.modLane l f).outbox = s.outbox := rfl
@[simp] theorem modLane_pending (s : State) (l : Nat) (f : LaneState → LaneState) : (s.modLane l f).pending = s.pending := rfl
@[simp] theorem modLane_freeCtr (s : State) (l : Nat) (f : LaneState → LaneState) : (s.modLane l f).freeCtr = s.freeCtr := rfl

/-! ### modBfl -/

@[simp] theorem modBfl_glb (s : State) (p : Nat) (f : BflPort → BflPort) : (s.modBfl p f).glb = s.glb := rfl
@[simp] theorem modBfl_spine (s : State) (p : Nat) (f : BflPort → BflPort) : (s.modBfl p f).spine = s.spine := rfl
@[simp] theorem modBfl_regs (s : State) (p : Nat) (f : BflPort → BflPort) : (s.modBfl p f).regs = s.regs := rfl
@[simp] theorem modBfl_ledger (s : State) (p : Nat) (f : BflPort → BflPort) : (s.modBfl p f).ledger = s.ledger := rfl
@[simp] theorem modBfl_path (s : State) (p : Nat) (f : BflPort → BflPort) : (s.modBfl p f).path = s.path := rfl
@[simp] theorem modBfl_mig (s : State) (p : Nat) (f : BflPort → BflPort) : (s.modBfl p f).mig = s.mig := rfl
@[simp] theorem modBfl_links (s : State) (p : Nat) (f : BflPort → BflPort) : (s.modBfl p f).links = s.links := rfl
@[simp] theorem modBfl_agd (s : State) (p : Nat) (f : BflPort → BflPort) : (s.modBfl p f).agd = s.agd := rfl
@[simp] theorem modBfl_hiers (s : State) (p : Nat) (f : BflPort → BflPort) : (s.modBfl p f).hiers = s.hiers := rfl
@[simp] theorem modBfl_dmv (s : State) (p : Nat) (f : BflPort → BflPort) : (s.modBfl p f).dmv = s.dmv := rfl
@[simp] theorem modBfl_rings (s : State) (p : Nat) (f : BflPort → BflPort) : (s.modBfl p f).rings = s.rings := rfl
@[simp] theorem modBfl_obs (s : State) (p : Nat) (f : BflPort → BflPort) : (s.modBfl p f).obs = s.obs := rfl
@[simp] theorem modBfl_power (s : State) (p : Nat) (f : BflPort → BflPort) : (s.modBfl p f).power = s.power := rfl
@[simp] theorem modBfl_mgmt (s : State) (p : Nat) (f : BflPort → BflPort) : (s.modBfl p f).mgmt = s.mgmt := rfl
@[simp] theorem modBfl_counts (s : State) (p : Nat) (f : BflPort → BflPort) : (s.modBfl p f).counts = s.counts := rfl
@[simp] theorem modBfl_raises (s : State) (p : Nat) (f : BflPort → BflPort) : (s.modBfl p f).raises = s.raises := rfl
@[simp] theorem modBfl_actions (s : State) (p : Nat) (f : BflPort → BflPort) : (s.modBfl p f).actions = s.actions := rfl
@[simp] theorem modBfl_outbox (s : State) (p : Nat) (f : BflPort → BflPort) : (s.modBfl p f).outbox = s.outbox := rfl
@[simp] theorem modBfl_pending (s : State) (p : Nat) (f : BflPort → BflPort) : (s.modBfl p f).pending = s.pending := rfl
@[simp] theorem modBfl_freeCtr (s : State) (p : Nat) (f : BflPort → BflPort) : (s.modBfl p f).freeCtr = s.freeCtr := rfl

/-! ### modSwPort -/

@[simp] theorem modSwPort_glb (s : State) (p : Nat) (f : SwPort → SwPort) : (s.modSwPort p f).glb = s.glb := rfl
@[simp] theorem modSwPort_spine (s : State) (p : Nat) (f : SwPort → SwPort) : (s.modSwPort p f).spine = s.spine := rfl
@[simp] theorem modSwPort_regs (s : State) (p : Nat) (f : SwPort → SwPort) : (s.modSwPort p f).regs = s.regs := rfl
@[simp] theorem modSwPort_ledger (s : State) (p : Nat) (f : SwPort → SwPort) : (s.modSwPort p f).ledger = s.ledger := rfl
@[simp] theorem modSwPort_mig (s : State) (p : Nat) (f : SwPort → SwPort) : (s.modSwPort p f).mig = s.mig := rfl
@[simp] theorem modSwPort_links (s : State) (p : Nat) (f : SwPort → SwPort) : (s.modSwPort p f).links = s.links := rfl
@[simp] theorem modSwPort_agd (s : State) (p : Nat) (f : SwPort → SwPort) : (s.modSwPort p f).agd = s.agd := rfl
@[simp] theorem modSwPort_hiers (s : State) (p : Nat) (f : SwPort → SwPort) : (s.modSwPort p f).hiers = s.hiers := rfl
@[simp] theorem modSwPort_dmv (s : State) (p : Nat) (f : SwPort → SwPort) : (s.modSwPort p f).dmv = s.dmv := rfl
@[simp] theorem modSwPort_fabric (s : State) (p : Nat) (f : SwPort → SwPort) : (s.modSwPort p f).fabric = s.fabric := rfl
@[simp] theorem modSwPort_rings (s : State) (p : Nat) (f : SwPort → SwPort) : (s.modSwPort p f).rings = s.rings := rfl
@[simp] theorem modSwPort_obs (s : State) (p : Nat) (f : SwPort → SwPort) : (s.modSwPort p f).obs = s.obs := rfl
@[simp] theorem modSwPort_power (s : State) (p : Nat) (f : SwPort → SwPort) : (s.modSwPort p f).power = s.power := rfl
@[simp] theorem modSwPort_mgmt (s : State) (p : Nat) (f : SwPort → SwPort) : (s.modSwPort p f).mgmt = s.mgmt := rfl
@[simp] theorem modSwPort_counts (s : State) (p : Nat) (f : SwPort → SwPort) : (s.modSwPort p f).counts = s.counts := rfl
@[simp] theorem modSwPort_raises (s : State) (p : Nat) (f : SwPort → SwPort) : (s.modSwPort p f).raises = s.raises := rfl
@[simp] theorem modSwPort_actions (s : State) (p : Nat) (f : SwPort → SwPort) : (s.modSwPort p f).actions = s.actions := rfl
@[simp] theorem modSwPort_outbox (s : State) (p : Nat) (f : SwPort → SwPort) : (s.modSwPort p f).outbox = s.outbox := rfl
@[simp] theorem modSwPort_pending (s : State) (p : Nat) (f : SwPort → SwPort) : (s.modSwPort p f).pending = s.pending := rfl
@[simp] theorem modSwPort_freeCtr (s : State) (p : Nat) (f : SwPort → SwPort) : (s.modSwPort p f).freeCtr = s.freeCtr := rfl

/-! ### modCtx -/

@[simp] theorem modCtx_glb (s : State) (c : Nat) (f : MigCtx → MigCtx) : (s.modCtx c f).glb = s.glb := rfl
@[simp] theorem modCtx_spine (s : State) (c : Nat) (f : MigCtx → MigCtx) : (s.modCtx c f).spine = s.spine := rfl
@[simp] theorem modCtx_regs (s : State) (c : Nat) (f : MigCtx → MigCtx) : (s.modCtx c f).regs = s.regs := rfl
@[simp] theorem modCtx_ledger (s : State) (c : Nat) (f : MigCtx → MigCtx) : (s.modCtx c f).ledger = s.ledger := rfl
@[simp] theorem modCtx_path (s : State) (c : Nat) (f : MigCtx → MigCtx) : (s.modCtx c f).path = s.path := rfl
@[simp] theorem modCtx_links (s : State) (c : Nat) (f : MigCtx → MigCtx) : (s.modCtx c f).links = s.links := rfl
@[simp] theorem modCtx_agd (s : State) (c : Nat) (f : MigCtx → MigCtx) : (s.modCtx c f).agd = s.agd := rfl
@[simp] theorem modCtx_hiers (s : State) (c : Nat) (f : MigCtx → MigCtx) : (s.modCtx c f).hiers = s.hiers := rfl
@[simp] theorem modCtx_dmv (s : State) (c : Nat) (f : MigCtx → MigCtx) : (s.modCtx c f).dmv = s.dmv := rfl
@[simp] theorem modCtx_fabric (s : State) (c : Nat) (f : MigCtx → MigCtx) : (s.modCtx c f).fabric = s.fabric := rfl
@[simp] theorem modCtx_rings (s : State) (c : Nat) (f : MigCtx → MigCtx) : (s.modCtx c f).rings = s.rings := rfl
@[simp] theorem modCtx_obs (s : State) (c : Nat) (f : MigCtx → MigCtx) : (s.modCtx c f).obs = s.obs := rfl
@[simp] theorem modCtx_power (s : State) (c : Nat) (f : MigCtx → MigCtx) : (s.modCtx c f).power = s.power := rfl
@[simp] theorem modCtx_mgmt (s : State) (c : Nat) (f : MigCtx → MigCtx) : (s.modCtx c f).mgmt = s.mgmt := rfl
@[simp] theorem modCtx_counts (s : State) (c : Nat) (f : MigCtx → MigCtx) : (s.modCtx c f).counts = s.counts := rfl
@[simp] theorem modCtx_raises (s : State) (c : Nat) (f : MigCtx → MigCtx) : (s.modCtx c f).raises = s.raises := rfl
@[simp] theorem modCtx_actions (s : State) (c : Nat) (f : MigCtx → MigCtx) : (s.modCtx c f).actions = s.actions := rfl
@[simp] theorem modCtx_outbox (s : State) (c : Nat) (f : MigCtx → MigCtx) : (s.modCtx c f).outbox = s.outbox := rfl
@[simp] theorem modCtx_pending (s : State) (c : Nat) (f : MigCtx → MigCtx) : (s.modCtx c f).pending = s.pending := rfl
@[simp] theorem modCtx_freeCtr (s : State) (c : Nat) (f : MigCtx → MigCtx) : (s.modCtx c f).freeCtr = s.freeCtr := rfl

/-! ### modPath -/

@[simp] theorem modPath_glb (s : State) (f : DataPath → DataPath) : (s.modPath f).glb = s.glb := rfl
@[simp] theorem modPath_spine (s : State) (f : DataPath → DataPath) : (s.modPath f).spine = s.spine := rfl
@[simp] theorem modPath_regs (s : State) (f : DataPath → DataPath) : (s.modPath f).regs = s.regs := rfl
@[simp] theorem modPath_ledger (s : State) (f : DataPath → DataPath) : (s.modPath f).ledger = s.ledger := rfl
@[simp] theorem modPath_path (s : State) (f : DataPath → DataPath) : (s.modPath f).path = f s.path := rfl
@[simp] theorem modPath_mig (s : State) (f : DataPath → DataPath) : (s.modPath f).mig = s.mig := rfl
@[simp] theorem modPath_links (s : State) (f : DataPath → DataPath) : (s.modPath f).links = s.links := rfl
@[simp] theorem modPath_agd (s : State) (f : DataPath → DataPath) : (s.modPath f).agd = s.agd := rfl
@[simp] theorem modPath_hiers (s : State) (f : DataPath → DataPath) : (s.modPath f).hiers = s.hiers := rfl
@[simp] theorem modPath_dmv (s : State) (f : DataPath → DataPath) : (s.modPath f).dmv = s.dmv := rfl
@[simp] theorem modPath_fabric (s : State) (f : DataPath → DataPath) : (s.modPath f).fabric = s.fabric := rfl
@[simp] theorem modPath_rings (s : State) (f : DataPath → DataPath) : (s.modPath f).rings = s.rings := rfl
@[simp] theorem modPath_obs (s : State) (f : DataPath → DataPath) : (s.modPath f).obs = s.obs := rfl
@[simp] theorem modPath_power (s : State) (f : DataPath → DataPath) : (s.modPath f).power = s.power := rfl
@[simp] theorem modPath_mgmt (s : State) (f : DataPath → DataPath) : (s.modPath f).mgmt = s.mgmt := rfl
@[simp] theorem modPath_counts (s : State) (f : DataPath → DataPath) : (s.modPath f).counts = s.counts := rfl
@[simp] theorem modPath_raises (s : State) (f : DataPath → DataPath) : (s.modPath f).raises = s.raises := rfl
@[simp] theorem modPath_actions (s : State) (f : DataPath → DataPath) : (s.modPath f).actions = s.actions := rfl
@[simp] theorem modPath_outbox (s : State) (f : DataPath → DataPath) : (s.modPath f).outbox = s.outbox := rfl
@[simp] theorem modPath_pending (s : State) (f : DataPath → DataPath) : (s.modPath f).pending = s.pending := rfl
@[simp] theorem modPath_freeCtr (s : State) (f : DataPath → DataPath) : (s.modPath f).freeCtr = s.freeCtr := rfl

/-! ### setFolio -/

@[simp] theorem setFolio_glb (s : State) (i : Nat) (e : BitVec 128) : (s.setFolio i e).glb = s.glb := modPath_glb s _
@[simp] theorem setFolio_spine (s : State) (i : Nat) (e : BitVec 128) : (s.setFolio i e).spine = s.spine := modPath_spine s _
@[simp] theorem setFolio_regs (s : State) (i : Nat) (e : BitVec 128) : (s.setFolio i e).regs = s.regs := modPath_regs s _
@[simp] theorem setFolio_ledger (s : State) (i : Nat) (e : BitVec 128) : (s.setFolio i e).ledger = s.ledger := modPath_ledger s _
@[simp] theorem setFolio_mig (s : State) (i : Nat) (e : BitVec 128) : (s.setFolio i e).mig = s.mig := modPath_mig s _
@[simp] theorem setFolio_links (s : State) (i : Nat) (e : BitVec 128) : (s.setFolio i e).links = s.links := modPath_links s _
@[simp] theorem setFolio_agd (s : State) (i : Nat) (e : BitVec 128) : (s.setFolio i e).agd = s.agd := modPath_agd s _
@[simp] theorem setFolio_hiers (s : State) (i : Nat) (e : BitVec 128) : (s.setFolio i e).hiers = s.hiers := modPath_hiers s _
@[simp] theorem setFolio_dmv (s : State) (i : Nat) (e : BitVec 128) : (s.setFolio i e).dmv = s.dmv := modPath_dmv s _
@[simp] theorem setFolio_fabric (s : State) (i : Nat) (e : BitVec 128) : (s.setFolio i e).fabric = s.fabric := modPath_fabric s _
@[simp] theorem setFolio_rings (s : State) (i : Nat) (e : BitVec 128) : (s.setFolio i e).rings = s.rings := modPath_rings s _
@[simp] theorem setFolio_obs (s : State) (i : Nat) (e : BitVec 128) : (s.setFolio i e).obs = s.obs := modPath_obs s _
@[simp] theorem setFolio_power (s : State) (i : Nat) (e : BitVec 128) : (s.setFolio i e).power = s.power := modPath_power s _
@[simp] theorem setFolio_mgmt (s : State) (i : Nat) (e : BitVec 128) : (s.setFolio i e).mgmt = s.mgmt := modPath_mgmt s _
@[simp] theorem setFolio_counts (s : State) (i : Nat) (e : BitVec 128) : (s.setFolio i e).counts = s.counts := modPath_counts s _
@[simp] theorem setFolio_raises (s : State) (i : Nat) (e : BitVec 128) : (s.setFolio i e).raises = s.raises := modPath_raises s _
@[simp] theorem setFolio_actions (s : State) (i : Nat) (e : BitVec 128) : (s.setFolio i e).actions = s.actions := modPath_actions s _
@[simp] theorem setFolio_outbox (s : State) (i : Nat) (e : BitVec 128) : (s.setFolio i e).outbox = s.outbox := modPath_outbox s _
@[simp] theorem setFolio_pending (s : State) (i : Nat) (e : BitVec 128) : (s.setFolio i e).pending = s.pending := modPath_pending s _
@[simp] theorem setFolio_freeCtr (s : State) (i : Nat) (e : BitVec 128) : (s.setFolio i e).freeCtr = s.freeCtr := modPath_freeCtr s _

/-! ### setDir -/

@[simp] theorem setDir_glb (s : State) (off : Nat) (w : Word) : (s.setDir off w).glb = s.glb := rfl
@[simp] theorem setDir_spine (s : State) (off : Nat) (w : Word) : (s.setDir off w).spine = s.spine := rfl
@[simp] theorem setDir_ledger (s : State) (off : Nat) (w : Word) : (s.setDir off w).ledger = s.ledger := rfl
@[simp] theorem setDir_path (s : State) (off : Nat) (w : Word) : (s.setDir off w).path = s.path := rfl
@[simp] theorem setDir_mig (s : State) (off : Nat) (w : Word) : (s.setDir off w).mig = s.mig := rfl
@[simp] theorem setDir_links (s : State) (off : Nat) (w : Word) : (s.setDir off w).links = s.links := rfl
@[simp] theorem setDir_agd (s : State) (off : Nat) (w : Word) : (s.setDir off w).agd = s.agd := rfl
@[simp] theorem setDir_hiers (s : State) (off : Nat) (w : Word) : (s.setDir off w).hiers = s.hiers := rfl
@[simp] theorem setDir_dmv (s : State) (off : Nat) (w : Word) : (s.setDir off w).dmv = s.dmv := rfl
@[simp] theorem setDir_fabric (s : State) (off : Nat) (w : Word) : (s.setDir off w).fabric = s.fabric := rfl
@[simp] theorem setDir_rings (s : State) (off : Nat) (w : Word) : (s.setDir off w).rings = s.rings := rfl
@[simp] theorem setDir_obs (s : State) (off : Nat) (w : Word) : (s.setDir off w).obs = s.obs := rfl
@[simp] theorem setDir_power (s : State) (off : Nat) (w : Word) : (s.setDir off w).power = s.power := rfl
@[simp] theorem setDir_mgmt (s : State) (off : Nat) (w : Word) : (s.setDir off w).mgmt = s.mgmt := rfl
@[simp] theorem setDir_counts (s : State) (off : Nat) (w : Word) : (s.setDir off w).counts = s.counts := rfl
@[simp] theorem setDir_raises (s : State) (off : Nat) (w : Word) : (s.setDir off w).raises = s.raises := rfl
@[simp] theorem setDir_actions (s : State) (off : Nat) (w : Word) : (s.setDir off w).actions = s.actions := rfl
@[simp] theorem setDir_outbox (s : State) (off : Nat) (w : Word) : (s.setDir off w).outbox = s.outbox := rfl
@[simp] theorem setDir_pending (s : State) (off : Nat) (w : Word) : (s.setDir off w).pending = s.pending := rfl
@[simp] theorem setDir_freeCtr (s : State) (off : Nat) (w : Word) : (s.setDir off w).freeCtr = s.freeCtr := rfl

/-! ### count -/

@[simp] theorem count_glb (s : State) (c n : Nat) : (s.count c n).glb = s.glb := rfl
@[simp] theorem count_spine (s : State) (c n : Nat) : (s.count c n).spine = s.spine := rfl
@[simp] theorem count_regs (s : State) (c n : Nat) : (s.count c n).regs = s.regs := rfl
@[simp] theorem count_ledger (s : State) (c n : Nat) : (s.count c n).ledger = s.ledger := rfl
@[simp] theorem count_path (s : State) (c n : Nat) : (s.count c n).path = s.path := rfl
@[simp] theorem count_mig (s : State) (c n : Nat) : (s.count c n).mig = s.mig := rfl
@[simp] theorem count_links (s : State) (c n : Nat) : (s.count c n).links = s.links := rfl
@[simp] theorem count_agd (s : State) (c n : Nat) : (s.count c n).agd = s.agd := rfl
@[simp] theorem count_hiers (s : State) (c n : Nat) : (s.count c n).hiers = s.hiers := rfl
@[simp] theorem count_dmv (s : State) (c n : Nat) : (s.count c n).dmv = s.dmv := rfl
@[simp] theorem count_fabric (s : State) (c n : Nat) : (s.count c n).fabric = s.fabric := rfl
@[simp] theorem count_rings (s : State) (c n : Nat) : (s.count c n).rings = s.rings := rfl
@[simp] theorem count_obs (s : State) (c n : Nat) : (s.count c n).obs = s.obs := rfl
@[simp] theorem count_power (s : State) (c n : Nat) : (s.count c n).power = s.power := rfl
@[simp] theorem count_mgmt (s : State) (c n : Nat) : (s.count c n).mgmt = s.mgmt := rfl
@[simp] theorem count_counts (s : State) (c n : Nat) : (s.count c n).counts = tmod 0 s.counts c (fun v => wrapAdd 48 v n) := rfl
@[simp] theorem count_raises (s : State) (c n : Nat) : (s.count c n).raises = s.raises := rfl
@[simp] theorem count_actions (s : State) (c n : Nat) : (s.count c n).actions = s.actions := rfl
@[simp] theorem count_outbox (s : State) (c n : Nat) : (s.count c n).outbox = s.outbox := rfl
@[simp] theorem count_pending (s : State) (c n : Nat) : (s.count c n).pending = s.pending := rfl
@[simp] theorem count_freeCtr (s : State) (c n : Nat) : (s.count c n).freeCtr = s.freeCtr := rfl

/-! ### raise -/

@[simp] theorem raise_glb (s : State) (i : RaiseInfo) : (s.raise i).glb = s.glb := rfl
@[simp] theorem raise_spine (s : State) (i : RaiseInfo) : (s.raise i).spine = s.spine := rfl
@[simp] theorem raise_regs (s : State) (i : RaiseInfo) : (s.raise i).regs = s.regs := rfl
@[simp] theorem raise_ledger (s : State) (i : RaiseInfo) : (s.raise i).ledger = s.ledger := rfl
@[simp] theorem raise_path (s : State) (i : RaiseInfo) : (s.raise i).path = s.path := rfl
@[simp] theorem raise_mig (s : State) (i : RaiseInfo) : (s.raise i).mig = s.mig := rfl
@[simp] theorem raise_links (s : State) (i : RaiseInfo) : (s.raise i).links = s.links := rfl
@[simp] theorem raise_agd (s : State) (i : RaiseInfo) : (s.raise i).agd = s.agd := rfl
@[simp] theorem raise_hiers (s : State) (i : RaiseInfo) : (s.raise i).hiers = s.hiers := rfl
@[simp] theorem raise_dmv (s : State) (i : RaiseInfo) : (s.raise i).dmv = s.dmv := rfl
@[simp] theorem raise_fabric (s : State) (i : RaiseInfo) : (s.raise i).fabric = s.fabric := rfl
@[simp] theorem raise_rings (s : State) (i : RaiseInfo) : (s.raise i).rings = s.rings := rfl
@[simp] theorem raise_obs (s : State) (i : RaiseInfo) : (s.raise i).obs = s.obs := rfl
@[simp] theorem raise_power (s : State) (i : RaiseInfo) : (s.raise i).power = s.power := rfl
@[simp] theorem raise_mgmt (s : State) (i : RaiseInfo) : (s.raise i).mgmt = s.mgmt := rfl
@[simp] theorem raise_counts (s : State) (i : RaiseInfo) : (s.raise i).counts = s.counts := rfl
@[simp] theorem raise_raises (s : State) (i : RaiseInfo) : (s.raise i).raises = s.raises ++ [i] := rfl
@[simp] theorem raise_actions (s : State) (i : RaiseInfo) : (s.raise i).actions = s.actions := rfl
@[simp] theorem raise_outbox (s : State) (i : RaiseInfo) : (s.raise i).outbox = s.outbox := rfl
@[simp] theorem raise_pending (s : State) (i : RaiseInfo) : (s.raise i).pending = s.pending := rfl
@[simp] theorem raise_freeCtr (s : State) (i : RaiseInfo) : (s.raise i).freeCtr = s.freeCtr := rfl

/-! ### push -/

@[simp] theorem push_glb (s : State) (a : Action) : (s.push a).glb = s.glb := rfl
@[simp] theorem push_spine (s : State) (a : Action) : (s.push a).spine = s.spine := rfl
@[simp] theorem push_regs (s : State) (a : Action) : (s.push a).regs = s.regs := rfl
@[simp] theorem push_ledger (s : State) (a : Action) : (s.push a).ledger = s.ledger := rfl
@[simp] theorem push_path (s : State) (a : Action) : (s.push a).path = s.path := rfl
@[simp] theorem push_mig (s : State) (a : Action) : (s.push a).mig = s.mig := rfl
@[simp] theorem push_links (s : State) (a : Action) : (s.push a).links = s.links := rfl
@[simp] theorem push_agd (s : State) (a : Action) : (s.push a).agd = s.agd := rfl
@[simp] theorem push_hiers (s : State) (a : Action) : (s.push a).hiers = s.hiers := rfl
@[simp] theorem push_dmv (s : State) (a : Action) : (s.push a).dmv = s.dmv := rfl
@[simp] theorem push_fabric (s : State) (a : Action) : (s.push a).fabric = s.fabric := rfl
@[simp] theorem push_rings (s : State) (a : Action) : (s.push a).rings = s.rings := rfl
@[simp] theorem push_obs (s : State) (a : Action) : (s.push a).obs = s.obs := rfl
@[simp] theorem push_power (s : State) (a : Action) : (s.push a).power = s.power := rfl
@[simp] theorem push_mgmt (s : State) (a : Action) : (s.push a).mgmt = s.mgmt := rfl
@[simp] theorem push_counts (s : State) (a : Action) : (s.push a).counts = s.counts := rfl
@[simp] theorem push_raises (s : State) (a : Action) : (s.push a).raises = s.raises := rfl
@[simp] theorem push_actions (s : State) (a : Action) : (s.push a).actions = s.actions ++ [a] := rfl
@[simp] theorem push_outbox (s : State) (a : Action) : (s.push a).outbox = s.outbox := rfl
@[simp] theorem push_pending (s : State) (a : Action) : (s.push a).pending = s.pending := rfl
@[simp] theorem push_freeCtr (s : State) (a : Action) : (s.push a).freeCtr = s.freeCtr := rfl

/-! ### out -/

@[simp] theorem out_glb (s : State) (o : Output) : (s.out o).glb = s.glb := rfl
@[simp] theorem out_spine (s : State) (o : Output) : (s.out o).spine = s.spine := rfl
@[simp] theorem out_regs (s : State) (o : Output) : (s.out o).regs = s.regs := rfl
@[simp] theorem out_ledger (s : State) (o : Output) : (s.out o).ledger = s.ledger := rfl
@[simp] theorem out_path (s : State) (o : Output) : (s.out o).path = s.path := rfl
@[simp] theorem out_mig (s : State) (o : Output) : (s.out o).mig = s.mig := rfl
@[simp] theorem out_links (s : State) (o : Output) : (s.out o).links = s.links := rfl
@[simp] theorem out_agd (s : State) (o : Output) : (s.out o).agd = s.agd := rfl
@[simp] theorem out_hiers (s : State) (o : Output) : (s.out o).hiers = s.hiers := rfl
@[simp] theorem out_dmv (s : State) (o : Output) : (s.out o).dmv = s.dmv := rfl
@[simp] theorem out_fabric (s : State) (o : Output) : (s.out o).fabric = s.fabric := rfl
@[simp] theorem out_rings (s : State) (o : Output) : (s.out o).rings = s.rings := rfl
@[simp] theorem out_obs (s : State) (o : Output) : (s.out o).obs = s.obs := rfl
@[simp] theorem out_power (s : State) (o : Output) : (s.out o).power = s.power := rfl
@[simp] theorem out_mgmt (s : State) (o : Output) : (s.out o).mgmt = s.mgmt := rfl
@[simp] theorem out_counts (s : State) (o : Output) : (s.out o).counts = s.counts := rfl
@[simp] theorem out_raises (s : State) (o : Output) : (s.out o).raises = s.raises := rfl
@[simp] theorem out_actions (s : State) (o : Output) : (s.out o).actions = s.actions := rfl
@[simp] theorem out_outbox (s : State) (o : Output) : (s.out o).outbox = s.outbox ++ [o] := rfl
@[simp] theorem out_pending (s : State) (o : Output) : (s.out o).pending = s.pending := rfl
@[simp] theorem out_freeCtr (s : State) (o : Output) : (s.out o).freeCtr = s.freeCtr := rfl

end Sys2Proof.Machine
end

