-- ==== Sys2Proof/Laws/Time.lean ====
section
/-!
SUPPORT. What the passing of CCLK edges can change: spine time, the counts, and what counts at a threshold.
-/
namespace Sys2Proof.Machine

theorem thrAdvance_pres {β : Type} (g : State → β) (h : ∀ (s : State) (o : Obs), g { s with obs := o } = g s) (s : State) (n : Nat) :
    g (s.thrAdvance n) = g s := by
  unfold State.thrAdvance
  apply each_pres
  intro s a
  split
  · exact h s _
  · rfl

theorem countPort_pres {β : Type} (g : State → β) (h : ∀ (s : State) (o : Tbl Nat), g { s with counts := o } = g s) (s : State) (p e n : Nat) :
    g (s.countPort p e n) = g s := by
  unfold State.countPort
  split
  · exact h s _
  · rfl

/-- Whatever does not look at spine time, the observation unit or the counters stays while CCLK edges pass. -/
theorem pass_pres {β : Type} (g : State → β) (h1 : ∀ (s : State) (o : Obs), g { s with obs := o } = g s)
    (h2 : ∀ (s : State) (o : Spine), g { s with spine := o } = g s) (h3 : ∀ (s : State) (o : Tbl Nat), g { s with counts := o } = g s)
    (s : State) (n : Nat) : g (s.pass n) = g s := by
  have hc : ∀ (e : Nat) (s : State) (p : Nat), g (s.countPort p e n) = g s := fun e s p => countPort_pres g h3 s p e n
  unfold State.pass
  simp only
  rw [each_pres _ g (hc 26), each_pres _ g (hc 7), each_pres _ g (hc 6), h2, thrAdvance_pres g h1]

@[simp] theorem pass_regs (s : State) (n : Nat) : (s.pass n).regs = s.regs :=
  pass_pres (·.regs) (fun _ _ => rfl) (fun _ _ => rfl) (fun _ _ => rfl) s n
@[simp] theorem pass_links (s : State) (n : Nat) : (s.pass n).links = s.links :=
  pass_pres (·.links) (fun _ _ => rfl) (fun _ _ => rfl) (fun _ _ => rfl) s n
@[simp] theorem pass_ledger (s : State) (n : Nat) : (s.pass n).ledger = s.ledger :=
  pass_pres (·.ledger) (fun _ _ => rfl) (fun _ _ => rfl) (fun _ _ => rfl) s n
@[simp] theorem pass_actions (s : State) (n : Nat) : (s.pass n).actions = s.actions :=
  pass_pres (·.actions) (fun _ _ => rfl) (fun _ _ => rfl) (fun _ _ => rfl) s n
@[simp] theorem pass_raises (s : State) (n : Nat) : (s.pass n).raises = s.raises :=
  pass_pres (·.raises) (fun _ _ => rfl) (fun _ _ => rfl) (fun _ _ => rfl) s n
@[simp] theorem pass_pending (s : State) (n : Nat) : (s.pass n).pending = s.pending :=
  pass_pres (·.pending) (fun _ _ => rfl) (fun _ _ => rfl) (fun _ _ => rfl) s n

/-- With no pending instant, time passes in one go. -/
theorem advance_pass (s : State) (n : Nat) (h : s.obs.instants = []) : s.advance n = s.pass n := by
  unfold State.advance
  simp [h, State.each]

end Sys2Proof.Machine
end

