-- ==== Sys2Proof/Machine/Flit.lean ====
section
/-!
DEFINITION. The bytes of a Brodoth flit (R213 to R217, R221 to R223, R237). The outbox lists a flit by its fields; these functions lay them
out as they cross the link.
-/
namespace Sys2Proof.Machine

/-- The bits of a credit update (R215); none: V is 0. -/
def updBits : Option CreditUpd → Nat
  | none => 0
  | some u => 2 ^ 38 + u.ch.val * 2 ^ 32 + u.hdr.val * 2 ^ 16 + u.data.val

/-- The 112 bits of a link slot (R215). -/
def LinkSlot.bits (l : LinkSlot) : Nat :=
  l.an.val * 2 ^ 110 + l.anSeq.val * 2 ^ 98
    + (if l.fb then 2 ^ 97 + l.xoff.toNat * 2 ^ 47 else updBits l.u0 * 2 ^ 57 + updBits l.u1 * 2 ^ 18)

/-- The 128 bits of a BPH (R217). -/
def Bph.bits (h : Bph) : Nat :=
  h.proto.val * 2 ^ 125 + h.tc.val * 2 ^ 122 + h.bclass.val * 2 ^ 119 + b2n h.synth * 2 ^ 118 + b2n h.phs * 2 ^ 117 + h.plen.val * 2 ^ 107
    + h.ttl.val * 2 ^ 103 + h.dest.val * 2 ^ 91 + h.src.val * 2 ^ 79

/-- Bytes cut or filled with zero to a length. -/
def fitBytes (n : Nat) (l : List Byte) : List Byte := l.take n ++ List.replicate (n - l.length) 0

/-- The 16 bytes of a slot of a DATA flit (R217); `second`: the slot before it holds the first half of the same protocol header, as the
header cell holds it (R109). -/
def FlitSlot.bytes (second : Bool) : FlitSlot → List Byte
  | .null => leBytes 16 0
  | .start h => leBytes 16 h.bits
  | .header t _ => leBytes 16 (if second then t.hdrHi.toNat else t.hdr.toNat)
  | .data l => fitBytes 16 l

/-- The slot is one of a protocol header. -/
def FlitSlot.isHeader : FlitSlot → Bool
  | .header _ _ => true
  | _ => false

/-- The bytes of slots that follow each other. -/
def slotBytes : Bool → List FlitSlot → List Byte
  | _, [] => []
  | second, x :: xs => x.bytes second ++ slotBytes (x.isHeader && !second) xs

/-- The 256 bytes of a flit (R213): its header word, 224 bytes of payload, its link slot, CRC and FEC. -/
def flitBytes (kind seq mark : Nat) (payload : List Byte) (l : LinkSlot) : List Byte :=
  let body := leBytes 4 (kind * 2 ^ 29 + seq % 4096 * 2 ^ 16 + mark % 2 ^ 14) ++ fitBytes 224 payload ++ leBytes 14 l.bits
  let crc := body ++ leBytes 8 (Config.flitCrc body).toNat
  crc ++ leBytes 6 (Config.flitFec crc).toNat

/-- The bytes of a sequenced flit (R214); `second`: the flit before it ended with the first half of a protocol header. -/
def SeqFlit.bytes (second : Bool) (l : LinkSlot) : SeqFlit → List Byte
  | .data n mark slots => flitBytes 1 n mark (slotBytes second slots) l
  | .mgmt n mark ws => flitBytes 2 n mark (wordBytes ws) l

/-- The bytes of an IDLE flit (R214). -/
def idleBytes (seq : Nat) (l : LinkSlot) : List Byte := flitBytes 0 seq 0 [] l

/-- The common part of an init message (R223). -/
def initBytes (kind port : Nat) (fbReq : Bool) (serial width : Nat) : List Byte :=
  leBytes 1 kind ++ leBytes 1 1 ++ leBytes 1 (port % 64) ++ leBytes 1 (b2n fbReq) ++ leBytes 8 serial ++ leBytes 1 width ++ leBytes 3 0

/-- An advertisement (R223). -/
def advBytes (adv : List (Nat × Nat)) : List Byte := adv.flatMap (fun a => leBytes 2 a.1 ++ leBytes 2 a.2)

/-- The message of a LINK flit (R222, R223, R237); times are in units of 2^-16 ns. -/
def LinkMsg.bytes : LinkMsg → List Byte
  | .initId p fb sn w => initBytes 1 p fb sn w
  | .initCredit p fb sn w adv => initBytes 2 p fb sn w ++ advBytes adv
  | .initDone p fb sn w adv => initBytes 3 p fb sn w ++ advBytes adv
  | .timeReq id => leBytes 1 4 ++ leBytes 1 id
  | .timeRsp id hops st t2 t3 =>
    leBytes 1 5 ++ leBytes 1 id ++ leBytes 1 (hops % 16 + st % 8 * 16) ++ leBytes 1 0 ++ leBytes 8 (t2 / 65536) ++ leBytes 2 (t2 % 65536)
      ++ leBytes 2 0 ++ leBytes 8 (t3 / 65536) ++ leBytes 2 (t3 % 65536)
  | .linkReset => leBytes 1 6

/-- The bytes of a LINK flit (R214, R222). -/
def linkBytes (seq : Nat) (m : LinkMsg) (l : LinkSlot) : List Byte := flitBytes 3 seq 0 m.bytes l

/-- A flit of the outbox as the 256 bytes that cross the link: nothing for an output that is no flit. -/
def Output.flitBytes (second : Bool) : Output → List Byte
  | .flit _ x l => x.bytes second l
  | .idle _ n l => idleBytes n l
  | .link _ n m l => linkBytes n m l
  | _ => []

end Sys2Proof.Machine
end

