-- ==== Sys2Proof/Tests/Slice0.lean ====
section
/-!
SUPPORT. The model's own tests: ill-formed commands that `Instr.wf` refuses, single steps checked against values the spec gives (its
worked examples, its register tables), and, for every statement with hypotheses, a concrete state that meets them.
-/
namespace Sys2Proof.Tests
open Sys2Proof Sys2Proof.Machine

/-! ### Helpers -/

/-- The state after a command; the same state where it does not complete. -/
def after (s : State) (c : Instr) : State := match exec c s with | .next t => t | _ => s

/-- The state after a few commands. -/
def afterAll (s : State) (l : List Instr) : State := l.foldl after s

/-- A device in STANDALONE, its core running, its main rails good. -/
def running : State :=
  { State.reset with
    glb := { glb0 with mode := .standalone, prevMode := .aux, coreUp := true, firstBound := true }
    power := { power0 with mainGood := true }
    mgmt := { mgmt0 with boot := { boot0 with phase := .firmware, image := 0 } } }

/-- The running device with one slot channel in a given state. -/
def slotIn (c : SlotChan) : State := { running with power := { running.power with slots := [(5, c)] } }

/-- The running device with one port up with its data link layer active. -/
def portUp (p : Nat) : State :=
  { running with links := { links0 with ports := [(p, { port0 with sup := .up, dllActive := true, width := 16 })] } }

/-- A word as a message's payload. -/
def word4 : List Byte := [1, 2, 3, 4]

/-- A memory read of 4 bytes. -/
def read4 : Tlp := { tlp0 with op := .memRead, len := 4 }

/-- An edge at which nothing was met. -/
def tick0 : TickIn := ⟨none, [], [], 0, 0, none, 0, 0, 0, 0, [], []⟩

/-- A training that settled x16 at 32 GT/s. -/
def trained : TrainResult := ⟨4, 16, false, false, false, false, false, false, 0, false, false, 0⟩

/-- A fabric management packet of a type with an empty body of its length. -/
def fmp (typ : Fin 16) (n : Nat) : Fmp := ⟨1, typ, 0, 0, 0, 0, 0, 0, 0, List.replicate n 0⟩

/-- A link slot that says nothing. -/
def slot00 : LinkSlot := ⟨0, 0, false, none, none, 0⟩

/-! ### Well-formedness: a term that each check refuses, and some that it takes -/

theorem wf_payload_short : (Instr.hostMemoryRequest 0 { tlp0 with op := .atomic, len := 4 }).wf = false := by decide
theorem wf_read_with_payload : (Instr.devicePortRequest 0 { read4 with payload := word4 }).wf = false := by decide
set_option maxRecDepth 10000 in
theorem wf_read_too_long : (Instr.hostMemoryRequest 0 { read4 with len := 4097 }).wf = false := by decide
set_option maxRecDepth 10000 in
theorem wf_write_too_long :
    (Instr.hostMemoryRequest 0 { tlp0 with op := .memWrite, len := 513, payload := List.replicate 513 0 }).wf = false := by decide
theorem wf_atomic_too_short :
    (Instr.hostMemoryRequest 0 { tlp0 with op := .atomic, len := 2, payload := [0, 0] }).wf = false := by decide
theorem wf_not_a_memory_request : (Instr.hostMemoryRequest 0 tlp0).wf = false := by decide
theorem wf_locked_elsewhere : (Instr.hostMemoryRequest 0 { read4 with locked := true }).wf = false := by decide
theorem wf_locked_at_device : (Instr.devicePortRequest 0 { read4 with locked := true }).wf = false := by decide
theorem wf_line_unaligned : (Instr.cxlMemRequest 0 { tlp0 with op := .cMemRd, addr := 32, len := 64 }).wf = false := by decide
theorem wf_line_short : (Instr.cxlMemRequest 0 { tlp0 with op := .cMemRd, len := 32 }).wf = false := by decide
theorem wf_line_payload : (Instr.cxlMemRequest 0 { tlp0 with op := .cMemWr, len := 64, payload := [] }).wf = false := by decide
theorem wf_not_a_line_request : (Instr.cxlMemRequest 0 read4).wf = false := by decide
theorem wf_config_word : (Instr.configRequest 0 { tlp0 with op := .cfgRead, addr := 1024, len := 4, route := .type0 0 0 }).wf = false := by
  decide
theorem wf_config_enables :
    (Instr.configRequest 0 { tlp0 with op := .cfgRead, be := 16, len := 4, route := .type0 0 0 }).wf = false := by decide
theorem wf_config_length : (Instr.configRequest 0 { tlp0 with op := .cfgRead, len := 8, route := .type0 0 0 }).wf = false := by decide
theorem wf_config_route : (Instr.configRequest 0 { tlp0 with op := .cfgRead, len := 4, route := .toBridge }).wf = false := by decide
theorem wf_config_device : (Instr.configRequest 0 { tlp0 with op := .cfgRead, len := 4, route := .byId 0 32 0 }).wf = false := by decide
theorem wf_config_bus : (Instr.configRequest 0 { tlp0 with op := .cfgRead, len := 4, route := .byId 256 0 0 }).wf = false := by decide
theorem wf_config_function : (Instr.configRequest 0 { tlp0 with op := .cfgRead, len := 4, route := .type0 0 8 }).wf = false := by decide
theorem wf_not_a_config_request : (Instr.configRequest 0 { read4 with route := .type0 0 0 }).wf = false := by decide
theorem wf_not_a_message : (Instr.messageReceived 0 read4).wf = false := by decide
theorem wf_unlock_has_its_row : (Instr.messageReceived 0 { tlp0 with route := .unlock }).wf = false := by decide
theorem wf_message_size : (Instr.messageReceived 0 { tlp0 with len := 4 }).wf = false := by decide
theorem wf_message_route : (Instr.messageReceived 0 { tlp0 with route := .byId 256 0 0 }).wf = false := by decide
theorem wf_not_a_snoop : (Instr.bisnpReceived 0 { read4 with len := 64 }).wf = false := by decide
theorem wf_snoop_payload : (Instr.bisnpReceived 0 { tlp0 with op := .biSnp, len := 64, payload := word4 }).wf = false := by decide
theorem wf_snoop_length : (Instr.bisnpReceived 0 { tlp0 with op := .biSnp, len := 32 }).wf = false := by decide
theorem wf_snoop_id : (Instr.bisnpReceived 0 { tlp0 with op := .biSnp, len := 64, ld := 48 }).wf = false := by decide
theorem wf_fabric_size : (Instr.fabricPacketReceived 0 0 0 0 0 none { tlp0 with len := 4 }).wf = false := by decide
theorem wf_fabric_route : (Instr.fabricPacketReceived 0 0 0 0 0 none { tlp0 with route := .type0 32 0 }).wf = false := by decide
theorem wf_not_a_response : (Instr.completionReceived 0 read4).wf = false := by decide
set_option maxRecDepth 10000 in
theorem wf_response_size : (Instr.completionReceived 0 { tlp0 with op := .cpl, payload := List.replicate 513 0 }).wf = false := by decide
theorem wf_line_response : (Instr.completionReceived 0 { tlp0 with op := .drs, len := 64, payload := word4 }).wf = false := by decide
theorem wf_locked_read_op : (Instr.lockedRead 0 { tlp0 with op := .memWrite, len := 4, payload := word4 }).wf = false := by decide
theorem wf_locked_read_empty : (Instr.lockedRead 0 { read4 with len := 0 }).wf = false := by decide
theorem wf_starved_twice : (Instr.egressSend 0 [.p, .p] 0 .whole).wf = false := by decide
theorem wf_nullified_route :
    (Instr.nullifiedPacketReceived 0 (some ⟨{ tlp0 with route := .byId 256 0 0 }, 0, none, 1, 0, none, []⟩)).wf = false := by decide
theorem wf_slot_measured_twice :
    (Instr.mtick { tick0 with slots := [⟨3, 0, 0, 0, 0, false⟩, ⟨3, 0, 0, 0, 0, false⟩] }).wf = false := by decide
theorem wf_lane_compared_twice : (Instr.mtick { tick0 with lanes := [⟨3, 0, 0⟩, ⟨3, 0, 0⟩] }).wf = false := by decide
theorem wf_more_errors_than_bits : (Instr.mtick { tick0 with lanes := [⟨3, 1, 2⟩] }).wf = false := by decide
theorem wf_hello_type : (Instr.hello 0 (fmp 2 4)).wf = false := by decide
theorem wf_hello_hops : (Instr.hello 0 { fmp 1 4 with hopCount := 9 }).wf = false := by decide
theorem wf_report_body : (Instr.report 0 (fmp 2 4)).wf = false := by decide
theorem wf_report_ack_body : (Instr.reportAck 0 (fmp 3 1)).wf = false := by decide
theorem wf_report_busy_type : (Instr.reportBusy 0 (fmp 3 0)).wf = false := by decide
theorem wf_leave_body : (Instr.leave 0 (fmp 7 0)).wf = false := by decide
theorem wf_cmd_body : (Instr.cmd 0 (fmp 5 4)).wf = false := by decide
theorem wf_cmd_rsp_body : (Instr.cmdRsp 0 (fmp 6 8)).wf = false := by decide
theorem wf_flit_slots : (Instr.dataFlit 0 0 0 (List.replicate 13 .null) slot00).wf = false := by decide
theorem wf_flit_slot_bytes :
    (Instr.dataFlit 0 0 0 (.data (List.replicate 17 0) :: List.replicate 13 .null) slot00).wf = false := by decide
theorem wf_flit_slot_device :
    (Instr.dataFlit 0 0 0 (.header read4 (some 16) :: List.replicate 13 .null) slot00).wf = false := by decide
theorem wf_mgmt_flit_words : (Instr.mgmtFlit 0 0 0 (List.replicate 27 0) slot00).wf = false := by decide
theorem wf_init_credit_channels : (Instr.initCredit 0 0 slot00 ⟨1, 0, false, 0, 16, List.replicate 48 (0, 0)⟩).wf = false := by decide
theorem wf_init_done_channels : (Instr.initDone 0 0 slot00 ⟨1, 0, false, 0, 16, List.replicate 50 (0, 0)⟩).wf = false := by decide
theorem wf_trained_rate : (Instr.linkTrained 0 { trained with rate := 6 }).wf = false := by decide
theorem wf_trained_width : (Instr.linkTrained 0 { trained with width := 3 }).wf = false := by decide
theorem wf_trained_devices : (Instr.trainTimeout 0 (some { trained with lds := 17 })).wf = false := by decide
theorem wf_recovery_rate : (Instr.recoveryComplete 0 6 16).wf = false := by decide
theorem wf_recovery_width : (Instr.recoveryComplete 0 5 5).wf = false := by decide
theorem wf_l0p_width : (Instr.l0pRequest 0 3).wf = false := by decide
theorem wf_lock_loss_errors : (Instr.checkerLockLoss 0 1 2).wf = false := by decide
set_option maxRecDepth 20000 in
theorem wf_piece_too_long : (Instr.submitCset (List.replicate 4097 0) true false false).wf = false := by decide
theorem wf_cell_twice : (Instr.samplePreload [(.mainEn, true), (.mainEn, false)]).wf = false := by decide

theorem wf_takes : [Instr.hostMemoryRequest 0 read4, .devicePortRequest 0 { tlp0 with op := .memWrite, len := 4, payload := word4 },
    .cxlMemRequest 0 { tlp0 with op := .cMemRd, addr := 64, len := 64 }, .lockedRead 0 read4, .messageReceived 0 tlp0,
    .configRequest 0 { tlp0 with op := .cfgRead, addr := 1023, be := 15, len := 4, route := .type0 31 7 },
    .bisnpReceived 0 { tlp0 with op := .biSnp, len := 64, ld := 47 }, .completionReceived 0 { tlp0 with op := .cpl },
    .mtick tick0, .hello 0 (fmp 1 4), .report 0 (fmp 2 60), .reportAck 0 (fmp 3 0), .cmd 0 (fmp 5 8), .cmdRsp 0 (fmp 6 4),
    .leave 0 (fmp 7 2), .linkTrained 0 trained, .l0pRequest 0 16, .coldRstNLow].all Instr.wf = true := by decide

/-! ### The block's interface -/

/-- No row of the table gives bits, so no word spells a command. -/
theorem test_no_word : decodeTableWord 8 0 = none := by decide
theorem test_front_unchanged : State.reset.withFetchWord 8 0 = State.reset := by decide
theorem test_step_runs_front : step { State.reset with pending := [.idcode, .bypass] } = exec .idcode { State.reset with pending := [.bypass] } :=
  rfl

/-! ### Modes and the start (R27, R29, R30, R381, R388) -/

/-- After reset GLB_MODE_STATUS shows AUX with OFF before it (R27, R29). -/
theorem test_reset_mode : State.reset.modeStatus = 1 := by decide
set_option maxRecDepth 100000 in
/-- Fuses never programmed: the start goes to ENDPAPER with the main rails enabled (R27, R389). -/
theorem test_blank_start : (after State.reset (.coldRstNRise false)).glb.mode = .endpaper := by decide
set_option maxRecDepth 100000 in
theorem test_blank_start_rails : (after State.reset (.coldRstNRise false)).mainEn = true := by decide
set_option maxRecDepth 100000 in
/-- QUIESCED from STANDALONE for removal: cause 1, one more transition (R29, R30). -/
theorem test_quiesce : (after running (.quiesceForRemoval .mf)).glb.mode = .quiesced
    ∧ (after running (.quiesceForRemoval .mf)).glb.quiesceCause = 1 := by decide
set_option maxRecDepth 100000 in
/-- A resume in STANDALONE is refused and counted (R30). -/
theorem test_resume_refused : (after running (.resume (.fw 0))).glb.refused = 1 := by decide

/-! ### Register access (R10 to R13, R17, R419 to R421) -/

/-- The spec's example: AGD_F1234_AREA3_LIMIT_LO lies at BAR0 offset 0xD36938 (file 19). -/
theorem test_locate_example : (locate 0xD36938).map (fun x => (x.row.name, x.i, x.j)) = some (.agdFLimitLo, 1234, 3) := by decide
set_option maxRecDepth 100000 in
/-- An offset that is no multiple of 4 is malformed and writes nothing (R12). -/
theorem test_malformed : (after running (.registerWrite .mf 0x20F002 1)).regs = running.regs := by decide
set_option maxRecDepth 100000 in
/-- The lock bit of the power block (R10). -/
theorem test_lock_pwr : (after running (.blockLock (.fw 0) .pwr)).regs.lockPwr = true := by decide
set_option maxRecDepth 100000 in
/-- LNC_START.LOAD after a completed binding is refused and counted (R243). -/
theorem test_start_load_refused : (after running (.startLoad .mf)).links.loadsRefused = 1 := by decide

/-! ### Spine time (R35 to R39) -/

set_option maxRecDepth 100000 in
/-- One CCLK is 0.625 ns (R35): 5 × 2^37 units of 2^-40 ns. -/
theorem test_one_clock : (match step running with | .next t => t.spine.t40 | _ => 0) = 5 * 2 ^ 37 := by decide
set_option maxRecDepth 100000 in
/-- The spec's example of one time exchange: θ = -3.750 ns, read as 0xFFFFFC40 (file 2), with ASYM = 0x0018 at P03. -/
theorem test_theta_example :
    let t := after running (.registerWrite .mf 0x10010C 0x18)
    let ns := fun (n : Nat) => n * 2 ^ 40 / 1000
    thetaReg (t.thetaOf 3 (ns 5000000000000) (ns 5000000071250) (ns 5000000171250) (ns 5000000236500)) = 0xFFFFFC40 := by decide

/-! ### Folio entries and path choice (the example of file 4) -/

/-- Entry 180,515: port P23, DPA field 0x2C12, readable and writable. -/
theorem test_entry_example : let e : BitVec 128 := BitVec.ofNat 128 (0x000000000005C000 * 2 ^ 64 + 0x002C120006100000)
    (targetOf e).port = 23 ∧ (targetOf e).dpa = 0x2C12 ∧ (targetOf e).kind = 1 := by decide
/-- Entry 294,912: KIND FABRIC at edge 0x2A7, DPA field 16,384. -/
theorem test_fabric_entry_example : let e : BitVec 128 := BitVec.ofNat 128 (0x00000002A7000000 * 2 ^ 64 + 0x0040000006300000)
    (targetOf e).fid = 0x2A7 ∧ (targetOf e).dpa = 16384 ∧ (targetOf e).kind = 3 := by decide
set_option maxRecDepth 10000 in
/-- One flipped bit of a codeword is corrected, two are found (R95, R425). -/
theorem test_check_code : let w := withCheck 56 0x2A7000000005C0
    eccOf 56 w = .good ∧ eccOf 56 (flipBits w [17]) = .fixed 0x2A7000000005C0 ∧ eccOf 56 (flipBits w [63]) = .fixed 0x2A7000000005C0 ∧
      eccOf 56 (flipBits w [17, 40]) = .double := by decide
/-- s = 0x013, d = 0x2A7, t = 0, SALT 0, NH_COUNT 0b01: 0x1F0 = 496, so next hop 0 of 2. -/
theorem test_path_example : ecmpIndex 0x013 0x2A7 0 0 511 = 0x1F0 ∧ ecmpIndex 0x013 0x2A7 0 0 1 = 0 := by decide

/-! ### Power entry and slots (R358 to R371) -/

set_option maxRecDepth 100000 in
theorem test_slot_enable : ((after running (.slotEnable (.fw 0) 5)).slotCh 5).phase = .empty := by decide
set_option maxRecDepth 100000 in
/-- The spec's example: OVERCURRENT trips with cause 2, to FAULTWAIT (file 16). -/
theorem test_overcurrent : let t := after (slotIn { slot0 with phase := .on, gate := true, pwrgd := true, fault := some 16 }) (.overcurrent 5)
    (t.slotCh 5).phase = .faultWait ∧ (t.slotCh 5).cause = 2 ∧ (t.slotCh 5).gate = false := by decide
set_option maxRecDepth 100000 in
/-- The last step of that example: PCHG_TIMEOUT with RETRIES = RETRY_MAX leaves the channel LATCHED. -/
theorem test_latched :
    let s := slotIn { slot0 with phase := .precharge, pchg := true, age := 64, retries := 3 }
    ((after s (.pchgTimeout 5)).slotCh 5).phase = .latched := by decide

/-! ### Brodoth credits (the example of file 9) -/

/-- USED 65,535 and 65,520, LIMIT 15 and 40: a packet of 4 data credits is within both. -/
theorem test_credit_example :
    let b : BflPort := { bfl0 with usedH := [(0, 65535)], usedD := [(0, 65520)], limH := [(0, 15)], limD := [(0, 40)] }
    ({ running with fabric := { fabric0 with links := [(3, b)] } } : State).bflCredit 3 0 4 = true := by decide
/-- 256 bytes are 4 data credits. -/
theorem test_data_credits : dataCredits 256 = 4 := by decide

/-! ### Management complex (R372 to R418) -/

set_option maxRecDepth 100000 in
/-- IDCODE shifts out 0x072569D3 (R418). -/
theorem test_idcode : (after State.reset .idcode).outbox = [.tdo 0x072569D3] := by decide
set_option maxRecDepth 100000 in
/-- GET_CAPABILITIES before GET_VERSION is out of order (R394). -/
theorem test_spdm_order : (after running (.getCapabilities .doe)).outbox = [.spdm .doe (.error 4)] := by decide
set_option maxRecDepth 100000 in
/-- A tamper input appends a record of event 9 (R388, R391). -/
theorem test_tamper : ((after running (.tamper 1)).mgmt.coloQueue.map (·.event)) = [9] := by decide

/-! ### Witnesses: concrete states that meet the hypotheses of the statements, one for each clause -/

/-- A record of a port scope, open. -/
def openPort : Record := { noRecord with isOpen := true, sev := .containPort, kind := .port, inst := 3 }

/-- The running device with one open PORT record and its port OFF. -/
def contained3 : State := { running with ledger := { ledger0 with records := [(0, openPort)] } }

theorem running_inv : running.Inv := ⟨rfl, rfl, fun _ _ => rfl⟩
theorem contained3_inv : contained3.Inv := ⟨rfl, rfl, fun _ _ => rfl⟩
theorem running_still : running.Still where
  inv := running_inv
  ports := rfl
  mover := rfl
  waiting := rfl
  commandSet := rfl
  rings := ⟨rfl, rfl⟩
  heat := rfl
  migrations := ⟨rfl, fun _ h => absurd h List.not_mem_nil⟩
  credits := fun _ h => absurd h List.not_mem_nil
  report := fun h => absurd h (by decide)
  flits := fun _ h => absurd h List.not_mem_nil

theorem witness_idle_off : State.reset.pending = [] ∧ State.reset.coreRuns = false := by decide
theorem witness_idle_running : (portUp 3).pending = [] ∧ (portUp 3).coreRuns = true ∧ (portUp 3).thrSelected = [] ∧
    (portUp 3).path.heldRx = [] ∧ (portUp 3).path.heldOut = [] ∧ (∀ x ∈ (portUp 3).links.ports, x.2.inL1 = false) ∧ (portUp 3).obs.instants = [] := by decide
theorem witness_step_inv : ∃ t, contained3.Inv ∧ step { contained3 with pending := [.idcode] } = .next t := ⟨_, contained3_inv, rfl⟩
theorem witness_quiet : running.Still := running_still
theorem witness_cold_reset : ∃ t, exec .coldRstNLow running = .next t := ⟨_, rfl⟩

/-- Fuses of a deployed device with one key slot, and of a retired one. -/
def deployed : Otp := ⟨.deployed, [(0, ⟨some 1, false⟩)], 0⟩
/-- The device with these fuses. -/
def fused (o : Otp) : State := { running with mgmt := { running.mgmt with otp := o } }

theorem witness_start_endpaper :
    State.reset.mgmt.coloQueue.length < 8 ∧ (State.reset.mgmt.otp.lc == .blank || State.reset.mgmt.otp.lc == .returned
      || State.reset.mgmt.otp.lc == .retired) = true := by decide
theorem witness_start_image : let s := { fused deployed with mgmt := { (fused deployed).mgmt with coloQueue := List.replicate 7 coloRec0 } }
    s.mgmt.coloQueue.length < 8 ∧ s.mgmt.otp.lc = .deployed ∧ s.mgmt.fails < 3 := by decide
theorem witness_start_fail : let s := { fused deployed with mgmt := { (fused deployed).mgmt with coloQueue := List.replicate 7 coloRec0 } }
    s.mgmt.coloQueue.length < 8 := by decide
theorem witness_mode_change : (Mode.quiesced ≠ running.glb.mode) ∧ Mode.standalone = running.glb.mode := by decide
theorem witness_mode_status : let s := { running with glb := { running.glb with refused := 255, transitions := 255, quiesceCause := 7 } }
    s.glb.refused < 256 ∧ s.glb.transitions < 256 ∧ s.glb.quiesceCause < 8 := by decide

set_option maxRecDepth 10000 in
theorem witness_flash : Memory.wf 0 mgmt0.flash = true ∧ (List.replicate 256 (0 : Byte)).length = 256 ∧ 0x10000 ≤ 0x1EFF00 := by decide
theorem witness_flash_below : 0x1EFEFF < 0x1EFF00 ∨ 0x1EFF00 + 256 ≤ 0x1EFEFF := by decide
theorem witness_flash_above : 0x1F0000 < 0x1EFF00 ∨ 0x1EFF00 + 256 ≤ 0x1F0000 := by decide

/-- A command set of one PROGRAM_SLOT for key slot 3, serial 0, nonce 0, unsigned (R390). -/
def setBytes : List Byte :=
  [0x54, 0x45, 0x53, 0x43, 1, 0, 1, 0] ++ List.replicate 24 0 ++ [2, 3] ++ List.replicate 62 0
/-- A device in PROVISION. -/
def provision : State := fused ⟨.provision, [(0, ⟨some 1, false⟩)], 0⟩

theorem witness_set_busy : { provision with mgmt := { provision.mgmt with csetBusy := true } }.mgmt.csetBusy = true := rfl
set_option maxRecDepth 10000 in
theorem witness_set_refused : provision.mgmt.csetBusy = false ∧ provision.csetCheck [] false false ≠ 1 := by decide
set_option maxRecDepth 10000 in
theorem witness_set_taken : provision.mgmt.csetBusy = false ∧ provision.csetCheck setBytes false false = 1 := by decide

/-- A device in PROVISION that reads a command set of 96 bytes: `got` has come, and it failed or not. -/
def reading (got : List Byte) (failed : Bool) : State :=
  { provision with mgmt := { provision.mgmt with csetBusy := true, csetRead := some ⟨none, 0, 96, got, none, failed⟩ } }
theorem witness_read_none : provision.mgmt.csetRead = none := rfl
theorem witness_read_on : ∃ r, (reading [] false).mgmt.csetRead = some r ∧ (r.failed || decide (r.len ≤ r.got.length)) = false :=
  ⟨_, rfl, rfl⟩
theorem witness_read_failed : ∃ r, (reading [] true).mgmt.csetRead = some r ∧ r.failed = true := ⟨_, rfl, rfl⟩
set_option maxRecDepth 10000 in
theorem witness_read_refused : ∃ r, (reading (List.replicate 96 0) false).mgmt.csetRead = some r ∧ r.failed = false ∧
    (r.failed || decide (r.len ≤ r.got.length)) = true ∧ (reading (List.replicate 96 0) false).csetCheck r.got false false ≠ 1 :=
  ⟨_, rfl, rfl, by decide, by decide⟩
set_option maxRecDepth 10000 in
theorem witness_read_taken : ∃ r, (reading setBytes false).mgmt.csetRead = some r ∧ r.failed = false ∧
    (r.failed || decide (r.len ≤ r.got.length)) = true ∧ (reading setBytes false).csetCheck r.got false false = 1 :=
  ⟨_, rfl, rfl, by decide, by decide⟩

theorem witness_life_cycle : ∃ n, (⟨.blank, [], 0⟩ : Otp).apply ⟨1, 1, []⟩ true = some n := ⟨_, rfl⟩
theorem witness_life_cycle_revoked : ∃ n, (⟨.deployed, [(0, ⟨some 1, false⟩), (3, ⟨none, true⟩)], 5⟩ : Otp).apply ⟨4, 0, [9]⟩ false = some n ∧
    twf keySlot0 [(0, ⟨some 1, false⟩), (3, ⟨none, true⟩)] = true ∧ (tget keySlot0 [(0, ⟨some 1, false⟩), (3, ⟨none, true⟩)] 3).revoked = true :=
  ⟨_, rfl, by decide, by decide⟩

/-- The device with its debug master selected. -/
def debugging (o : Otp) : State := { fused o with mgmt := { (fused o).mgmt with tap := .dbgSelect } }
theorem witness_debug_off : running.glb.mode = .off ∨ running.mgmt.tap ≠ .dbgSelect := by decide
theorem witness_debug_denied : (debugging ⟨.retired, [], 0⟩).glb.mode ≠ .off ∧ (debugging ⟨.retired, [], 0⟩).mgmt.tap = .dbgSelect ∧
    (debugging ⟨.retired, [], 0⟩).debugDenied 0x20000000 = true := by decide
theorem witness_debug_sram : (debugging ⟨.provision, [], 0⟩).glb.mode ≠ .off ∧ (debugging ⟨.provision, [], 0⟩).mgmt.tap = .dbgSelect ∧
    (debugging ⟨.provision, [], 0⟩).debugDenied 0x1007FFFC = false ∧ 0x1007FFFC % 4 = 0 ∧ 0x10000000 ≤ 0x1007FFFC ∧
      0x1007FFFC < 0x10080000 := by decide
theorem witness_debug_scratchpad : (debugging ⟨.provision, [], 0⟩).debugDenied 0x2003FFFC = false ∧ 0x2003FFFC % 4 = 0 ∧
    0x20000000 ≤ 0x2003FFFC ∧ 0x2003FFFC < 0x20040000 := by decide
theorem witness_local_memory : Memory.wf 0xFF [(5, 0)] = true ∧ 0xFFFFFFFF < 2 ^ 32 ∧ (3 < 4 ∨ 4 + 4 ≤ 3) ∧ (8 < 4 ∨ 4 + 4 ≤ 8) := by decide
theorem witness_spdm_keys_gone : { running with mgmt := { running.mgmt with keysGone := true } }.mgmt.keysGone = true := rfl
theorem witness_spdm_keys : running.mgmt.keysGone = false ∧ running.glb.mode ≠ .endpaper ∧ (5 = 0 ∨ 4 < 5) := by decide
theorem witness_spdm_endpaper : { running with glb := { running.glb with mode := .endpaper } }.glb.mode = .endpaper ∧ ((0 : Nat) = 0 ∨ 4 < 0) :=
  ⟨rfl, .inl rfl⟩
theorem witness_tap : running.Still ∧ (∃ t, exec .dbgSelect running = .next t) ∧ ∃ t, exec (.samplePreload [(.mainEn, true)]) running = .next t :=
  ⟨running_still, ⟨_, rfl⟩, ⟨_, rfl⟩⟩
theorem witness_spdm_frame : running.Still ∧ (∃ t, exec (.getPqChain .mctp) running = .next t) ∧
    (∃ t, exec (.getCertificate .doe 0 0 16) running = .next t) ∧ ∃ t, exec (.getMeasurements .doe false 255 true) running = .next t :=
  ⟨running_still, ⟨_, rfl⟩, ⟨_, rfl⟩, ⟨_, rfl⟩⟩

theorem witness_slot_trip : twf slot0 (slotIn { slot0 with phase := .on }).power.slots = true ∧ (6 : Nat) ≠ 5 := by decide
theorem witness_slot_lost : ∀ ph ∈ [SlotPhase.pending, .precharge, .ramp, .on],
    ((slotIn { slot0 with phase := ph, present := true }).slotCh 5).present = true ∧
      ((slotIn { slot0 with phase := ph, present := true }).slotCh 5).phase ∈ [SlotPhase.pending, .precharge, .ramp, .on] := by decide

theorem witness_latch : { running with spine := { spine0 with t40 := (2 ^ 64 - 1) * 2 ^ 40 } }.ns < 2 ^ 64 ∧ Path.fw 0 ≠ Path.mf := by decide

/-- The running device with a gated binding of group 0, one shadow word staged. -/
def gated : State :=
  { running with regs := { regs0 with shadow := [(0x300000, 7)], binds := [⟨1, 1000, .gated, false, none, false, 0, .none⟩] } }
theorem witness_flip_lists : gated.regs.active.Pairwise (fun x y => x.1 < y.1) ∧ gated.regs.shadow.Pairwise (fun x y => x.1 < y.1) := by decide
set_option maxRecDepth 100000 in
theorem witness_flip_bound : let go := gated.regs.binds.filter (fun b => b.t == 1000 && b.stage == .gated && !b.badShadow)
    go ≠ [] ∧ ∃ u, unitAt 0x300000 = some u ∧ u ∈ gated.unitsOf (go.foldl (fun n b => n ||| b.groups) 0) :=
  ⟨by decide, ⟨_, rfl, by decide⟩⟩
theorem witness_flip_unbound : ∀ u, unitAt 0x40 = some u → u ∉ gated.unitsOf 1 := by
  intro u h; exact absurd h (by rw [show unitAt 0x40 = none from rfl]; exact nofun)

theorem witness_staged : ∃ x, locate 0x300000 = some x := ⟨_, rfl⟩
set_option maxRecDepth 100000 in
theorem witness_staged_closed : gated.offClosed 0x300000 = true ∧ running.offClosed 0x300000 = false := by decide
set_option maxRecDepth 100000 in
theorem witness_staged_kept : (running.stage 0x300000 0).1 = 0 ∧ (running.stage 0x200008 0x0B00).1 ≠ 0 := by decide

/-- The running device whose ring 7 runs, with EN = 1 in its control word. -/
def ringRuns : State :=
  { running with
    rings := { rings0 with rings := [(7, { ring0 with phase := .running })] }
    regs := { regs0 with direct := [(0xB401D0, 0x80000000)] } }
theorem witness_ring_start : twf ring0 running.rings.rings = true ∧ (8 : Nat) ≠ 7 ∧ 0xFFFFFFFF < 2 ^ 32 ∧ (running.ring 7).phase = .disabled ∧
    bitOf 0xFFFFFFFF 31 = true := by decide
set_option maxRecDepth 10000 in
theorem witness_ring_drain : twf ring0 ringRuns.rings.rings = true ∧ 0x7FFFFFFF < 2 ^ 31 ∧ (ringRuns.ring 7).phase ≠ .disabled ∧
    bitOf (ringRuns.dir (0xB40010 + 0x40 * 7)).toNat 31 = true := by decide

/-- The running device with an open SOURCE record of source 1,476, whose level cause may be there. -/
def overcommitted (present : Bool) : State :=
  { running with
    ledger := { ledger0 with records := [(9, { noRecord with isOpen := true, inst := 1476, srcs := [1476] })] }
    path := { path0 with overcommit := present } }
theorem witness_clear_closed : (running.record 255).isOpen = false := by decide
set_option maxRecDepth 10000 in
theorem witness_clear_refused : ((overcommitted true).record 9).isOpen = true ∧
    ((overcommitted true).record 9).srcs.any ((overcommitted true).activeFor ((overcommitted true).record 9)) = true := by decide
set_option maxRecDepth 10000 in
theorem witness_clear_done : ((overcommitted false).record 9).isOpen = true ∧
    ((overcommitted false).record 9).srcs.any ((overcommitted false).activeFor ((overcommitted false).record 9)) = false := by decide

theorem witness_table : twf 0 running.path.folio = true ∧ twf 0 running.path.route = true ∧ (1 : Nat) ≠ 0 ∧
    (BitVec.ofNat 128 (2 ^ 120 - 1)).toNat < 2 ^ 120 ∧ (BitVec.ofNat 64 (2 ^ 56 - 1)).toNat < 2 ^ 56 := by decide
theorem witness_check_byte : 2 ^ 120 - 1 < 2 ^ 120 ∧ 119 < 120 ∧ 2 ^ 56 - 1 < 2 ^ 56 ∧ 55 < 56 := by decide

/-- The running device with context 1 in FINAL on folio 5, nothing left to confirm. -/
def flipping : State :=
  { running with mig := { migs0 with ctxs :=
      [(1, { migCtx0 with phase := .final, step := .copying, folio := 5, dst := ⟨1, 63, 15, 4095, false, 2 ^ 36 - 1⟩ })] } }
theorem witness_migration : twf 0 flipping.path.folio = true ∧ (6 : Nat) ≠ (flipping.ctx 1).folio := by decide
theorem witness_flip : (flipping.ctx 1).phase = .final ∧ (flipping.ctx 1).step = .copying ∧ (flipping.ctx 1).resync = false ∧
    (flipping.confirmed 1).1 = true ∧ (flipping.ctx 1).dst.kind < 16 ∧ (flipping.ctx 1).dst.port < 64 ∧ (flipping.ctx 1).dst.ld < 16 ∧
    (flipping.ctx 1).dst.fid < 4096 ∧ (flipping.ctx 1).dst.dpa < 2 ^ 36 := by decide

theorem witness_config : (31 < 32) ∧ (1 ≠ 0x11) ∧ (0 % 4 = 0 ∨ 0 % 4 = 3) ∧ (0xFFFFFFFF % 4 = 0 ∨ 0xFFFFFFFF % 4 = 3) := by decide
theorem witness_arrival : ({ port := 63, tlp := read4, srcFid := 0, dstFid := none, ttl := 0, tc := 0, ld := none } : Rx).port = (63 : Fin 64).val := rfl
theorem witness_inactive : running.Still ∧ running.portActive (63 : Fin 64).val = false := ⟨running_still, by decide⟩

/-- A queue entry of a port, and the device that has it as the only one. -/
def entry0 : QEntry := ⟨0, 0, .p, 0, 0, 1, 0, none, none, none, false, false, none, 0⟩
/-- A posted packet without payload. -/
def packet0 : Packet :=
  ⟨{ tlp0 with op := .memWrite }, .device, .p, 0, 0, 0, 0, 1, .internal, 0, .device, 1, none, 0, none, 0, none, none, 0, none, 0, false, none,
    none, false, 0, [], none, []⟩
/-- The device with it queued at port 3. -/
def queued : State := { portUp 3 with path := { path0 with queues := [(3, [entry0])], packets := [(0, packet0)] } }
set_option maxRecDepth 100000 in
theorem witness_arbitrate : ((queued.arbitrate 3 (fun _ => true)).map (fun x => x.1)) = some entry0 := by decide

/-- The running device with a Brodoth link on port 3 that has two flits out, numbers 4,095 and 0, and a NAK to send. -/
def flitsOut : State :=
  { running with fabric := { fabric0 with links :=
      [(3, { bfl0 with phase := .active, seq := 1, nakDue := true, replay := [.data 4095 0 [], .data 0 0 []] })] } }
theorem witness_ack : twf bfl0 flitsOut.fabric.links = true ∧ (flitsOut.bfl 3).replay.length ≤ 2047 ∧ (0 : Nat) < 4096 ∧
    1 ≤ modSub 4096 0 (flitsOut.bfl 3).acked ∧ modSub 4096 0 (flitsOut.bfl 3).acked ≤ (flitsOut.bfl 3).replay.length := by decide
theorem witness_ack_old : (4094 : Nat) < 4096 ∧ ¬ (1 ≤ modSub 4096 4094 (flitsOut.bfl 3).acked) := by decide
set_option maxRecDepth 10000 in
theorem witness_ack_boundary : ((flitsOut.bflAck 3 0).boundary 3).isSome = true := by decide

end Sys2Proof.Tests
end

section
/-!
PROOF. The shared facts of the scope's statements: when the end of a step changes nothing, words of a local memory, what staging a
write leaves, and writes of the registers that command something.
-/
namespace Sys2Proof.Machine

/-! ### A step's end at rest -/

/-- A fold whose every step leaves the state leaves it. -/
theorem each_eq_self {α : Type} (s : State) (l : List α) (f : State → α → State) (h : ∀ a ∈ l, f s a = s) : s.each l f = s := by
  induction l with
  | nil => rfl
  | cons a l ih => rw [each_cons, h a List.mem_cons_self, ih fun b hb => h b (List.mem_cons_of_mem a hb)]

theorem heatPump_eq_self (s : State) (h : s.mig.heat.left = []) : s.heatPump = s := by
  unfold State.heatPump
  rw [h]

theorem decideRaises_eq_self (s : State) (h : s.raises = []) : s.decideRaises = s := by
  unfold State.decideRaises
  rw [h]
  show { s with raises := [] } = s
  rw [← h]

theorem csetFetch_eq_self (s : State) (h : s.mgmt.csetRead = none) : s.csetFetch = s := by
  unfold State.csetFetch
  rw [h]

theorem fcTell_eq_self (s : State) (p : Nat) (h : (s.swPort p).fcInit = [] ∨ (s.swPort p).fcTold = s.fcGiven p) : s.fcTell p = s := by
  unfold State.fcTell
  rcases h with h | h <;> simp [h]

theorem fcTellAll_eq_self (s : State) (h : ∀ x ∈ s.path.swPorts, (s.swPort x.1).fcInit = [] ∨ (s.swPort x.1).fcTold = s.fcGiven x.1) :
    s.fcTellAll = s := by
  refine each_eq_self _ _ _ fun p hp => ?_
  obtain ⟨x, hx, rfl⟩ := List.mem_map.1 hp
  exact fcTell_eq_self s x.1 (h x hx)

theorem reportCheck_eq_self (s : State) (h : s.fabric.st = .joined ∨ s.fabric.st = .anchored → s.fabric.report.last = s.reportFields) :
    s.reportCheck = s := by
  unfold State.reportCheck
  by_cases hst : s.fabric.st = .joined ∨ s.fabric.st = .anchored
  · rw [if_pos hst, if_pos (h hst).symm]
  · rw [if_neg hst]

theorem migPump_eq_self (s : State) (hw : s.mig.writes = []) (hc : ∀ x ∈ s.mig.ctxs, (s.ctx x.1).settleTodo = []) : s.migPump = s := by
  have hs : { s with mig := { s.mig with writes := [] } } = s := by rw [← hw]
  unfold State.migPump
  simp only [hw, List.take_nil, List.drop_nil, each_nil, hs]
  refine each_eq_self _ _ _ fun c hm => ?_
  obtain ⟨x, hx, rfl⟩ := List.mem_map.1 hm
  simp [hc x hx]

/-- What may go on by itself rests: the data mover, staging, rings, command sets, credits, reports, migrations, register accesses. It is
the part of `State.Still` that `State.goOn` looks at. -/
structure State.Resting (s : State) : Prop where
  /-- No data mover function is up (R280). -/
  mover : s.dmv.fns = []
  /-- No QUIRE_STAGE waits at a gate (R49). -/
  staging : s.rings.staging = none
  /-- No command ring is listed (R264). -/
  rings : s.rings.rings = []
  /-- No command set is being read (R377). -/
  commandSet : s.mgmt.csetRead = none
  /-- Every partner was told of the credits it has (R114). -/
  credits : ∀ x ∈ s.path.swPorts, (s.swPort x.1).fcInit = [] ∨ (s.swPort x.1).fcTold = s.fcGiven x.1
  /-- The last report tells what stands, where one is due (R201). -/
  report : s.fabric.st = .joined ∨ s.fabric.st = .anchored → s.fabric.report.last = s.reportFields
  /-- No copy write waits (R169). -/
  copies : s.mig.writes = []
  /-- No settle read is left to send (R172). -/
  settles : ∀ x ∈ s.mig.ctxs, (s.ctx x.1).settleTodo = []
  /-- No register access waits (R49, R376). -/
  waiting : s.mgmt.waiting = []

theorem goOn_eq_self (s : State) (h : s.Resting) : s.goOn = s := by
  unfold State.goOn
  simp [h.mover, h.staging, h.rings, h.waiting, csetFetch_eq_self s h.commandSet, fcTellAll_eq_self s h.credits,
    reportCheck_eq_self s h.report, migPump_eq_self s h.copies h.settles]

/-- A resting state with nothing left is settled: the rounds end with the first. -/
theorem settle_eq_self (s : State) (ha : s.actions = []) (hr : s.raises = []) (h : s.Resting) : s.settle = s := by
  have hround : s.round = s := by
    unfold State.round
    simp [decideRaises_eq_self s hr, ha, goOn_eq_self s h]
  unfold State.settle State.rounds
  simp [hround, State.quiet, ha, hr]

/-- A still state is settled. -/
theorem settle_of_still (s : State) (h : s.Still) : s.settle = s := by
  obtain ⟨ha, hr, -⟩ := h.inv
  obtain ⟨hrings, hstaging⟩ := h.rings
  obtain ⟨hcopies, hsettles⟩ := h.migrations
  exact settle_eq_self s ha hr
    ⟨h.mover, hstaging, hrings, h.commandSet, h.credits, h.report, hcopies, hsettles, h.waiting⟩

/-- Where no word has a latent upset, the check of the words used finds nothing. -/
theorem usedSince_eq_self (s0 s : State) (ha : s.regs.latActive = []) (hd : s.regs.latDirect = []) : s0.usedSince s = s := by
  unfold State.usedSince
  simp [ha, hd]

/-- Holding contained ports OFF changes nothing where none is contained and no port is listed with the values of an unlisted one. -/
theorem enforce_eq_self (s : State) (hc : ∀ p, s.contained .port p = false) (hp : ∀ x ∈ s.links.ports, x.2 ≠ port0) : s.enforce = s := by
  unfold State.enforce
  rw [tmap_id _ _ _ hp fun x _ => by simp [hc x.1]]

/-! ### A cold reset -/

theorem coldReset_resting (s : State) : s.coldReset.Resting where
  mover := rfl
  staging := rfl
  rings := rfl
  commandSet := rfl
  credits _ h := absurd h List.not_mem_nil
  report h := by rcases h with h | h <;> cases h
  copies := rfl
  settles _ h := absurd h List.not_mem_nil
  waiting := rfl

/-- No port is contained, and every port that is listed has its PERST pin asserted. -/
theorem enforce_coldReset (s : State) : s.coldReset.enforce = s.coldReset := by
  refine enforce_eq_self _ (fun _ => rfl) fun x hx => ?_
  obtain ⟨y, -, rfl⟩ := List.mem_map.1 hx
  exact fun h => Bool.noConfusion (congrArg PortLink.perst h)

/-- A cold reset leaves no consequence: the step ends in the state it makes (R17). -/
theorem finish_coldReset (s0 s : State) (hq : s.pending = s0.pending) : s0.finish s.coldReset = s.coldReset := by
  have hsettle : s.coldReset.settle = s.coldReset := settle_eq_self _ rfl rfl (coldReset_resting s)
  have hflits (n : Nat) : s.coldReset.flitPump n = s.coldReset := rfl
  have hquiet : s.coldReset.quiet = true := rfl
  unfold State.finish
  rw [heatPump_eq_self _ rfl, hsettle, usedSince_eq_self _ _ rfl rfl]
  simp only [hquiet, if_true, hflits, enforce_coldReset, ← hq]
  rfl

theorem exec_coldRstNLow (s : State) : exec .coldRstNLow s = .next s.coldLow :=
  congrArg Host.Outcome.next (finish_coldReset s { s with glb := { s.glb with coldRstHigh := false } } rfl)

theorem exec_auxRefclkLost (s : State) : exec .auxRefclkLost s = .next s.auxRefLost :=
  congrArg Host.Outcome.next (finish_coldReset s { s with glb := { s.glb with auxRefclkOk := false } } rfl)

theorem exec_vddAuxOutOfRange (s : State) (torn : Bool) : exec (.vddAuxOutOfRange torn) s = .next (s.auxOut torn) := by
  refine congrArg Host.Outcome.next (finish_coldReset s _ ?_)
  rcases s.mgmt.coloQueue with _ | ⟨r, l⟩
  · rfl
  · cases torn <;> rfl

/-! ### Words of a local memory -/

/-- Four bytes, the least significant first, make up a 32-bit word. -/
theorem leNat_bytes (w : Nat) (h : w < 2 ^ 32) : leNat ((List.range 4).map fun k => BitVec.ofNat 8 (w / 2 ^ (8 * k))) = w := by
  simp only [List.range, List.range.loop, List.map, leNat, BitVec.toNat_ofNat]
  omega

/-- What stands at an address after bytes are put at `a`, `a + 1`, … : the byte put there, and elsewhere what stood there. -/
theorem tget_putBytes (d : Byte) (f : Nat → Byte) (a b n : Nat) (t : Tbl Byte) (h : twf d t = true) :
    tget d ((List.range n).foldl (fun t k => tput d t (a + k) (f k)) t) b = if a ≤ b ∧ b < a + n then f (b - a) else tget d t b := by
  induction n with
  | zero => rw [if_neg (by omega)]; rfl
  | succ n ih =>
    have hwf : twf d ((List.range n).foldl (fun t k => tput d t (a + k) (f k)) t) = true :=
      wf_foldl d _ _ (fun t _ ht => twf_tput d t _ _ ht) t h
    rw [List.range_succ, List.foldl_append, List.foldl_cons, List.foldl_nil]
    by_cases hb : b = a + n
    · subst hb
      rw [tget_tput_same _ _ _ _ hwf, if_pos (by omega), Nat.add_sub_cancel_left]
    · have hrange : (a ≤ b ∧ b < a + (n + 1)) ↔ (a ≤ b ∧ b < a + n) := by omega
      rw [tget_tput_other _ _ _ _ _ hwf hb, ih]
      simp only [hrange]

/-- A byte after a word is written: one of the word's four, or what stood there. -/
theorem tget_putMemWord (d : Byte) (t : Tbl Byte) (a w b : Nat) (h : Memory.wf d t = true) :
    tget d (putMemWord d t a w) b = if a ≤ b ∧ b < a + 4 then BitVec.ofNat 8 (w / 2 ^ (8 * (b - a))) else tget d t b :=
  tget_putBytes d (fun k => BitVec.ofNat 8 (w / 2 ^ (8 * k))) a b 4 t h

theorem memWord_putMemWord (d : Byte) (t : Tbl Byte) (a w : Nat) (h : Memory.wf d t = true) (hw : w < 2 ^ 32) :
    memWord d (putMemWord d t a w) a = w := by
  unfold memWord
  rw [List.map_congr_left (g := fun k => BitVec.ofNat 8 (w / 2 ^ (8 * k)))]
  · exact leNat_bytes w hw
  · intro k hk
    have hk : k < 4 := List.mem_range.1 hk
    rw [tget_putMemWord d t a w _ h, if_pos (by omega), Nat.add_sub_cancel_left]

/-! ### Staging a write (R14, R49) -/

/-- A raise for kept fields touches the raises alone. -/
@[simp] theorem keptRaise_regs (s : State) (off kept : Nat) : (s.keptRaise off kept).regs = s.regs := by
  unfold State.keptRaise
  split <;> rfl

theorem keptRaise_zero (s : State) (off : Nat) : s.keptRaise off 0 = s := rfl

/-- Some field kept its value: the reserved-value source of the block is raised, once. -/
theorem keptRaise_raises (s : State) (off kept : Nat) (h : kept ≠ 0) :
    (s.keptRaise off kept).raises = s.raises ++ [{ raise0 with src := 1473, block := off / 0x100000 }] := by
  unfold State.keptRaise
  rw [if_neg h]
  rfl

@[simp] theorem keptRaise_offClosed (s : State) (off kept o : Nat) : (s.keptRaise off kept).offClosed o = s.offClosed o := by
  unfold State.keptRaise
  split <;> rfl

/-- A shadow word that is set changes no other word, no queue and no raise. -/
@[simp] theorem setShad_active (s : State) (off : Nat) (w : Word) : (s.setShad off w).regs.active = s.regs.active := rfl
@[simp] theorem setShad_direct (s : State) (off : Nat) (w : Word) : (s.setShad off w).regs.direct = s.regs.direct := rfl
@[simp] theorem setShad_gateQueue (s : State) (off : Nat) (w : Word) : (s.setShad off w).regs.gateQueue = s.regs.gateQueue := rfl
@[simp] theorem setShad_raises (s : State) (off : Nat) (w : Word) : (s.setShad off w).raises = s.raises := rfl

/-- The two ends of a staged write at a named register: some fields kept their values, and the word waits at the closed gate or is
the new shadow word. -/
theorem stage_cases (s : State) (off val : Nat) (x : Place) (hx : locate off = some x) : ∃ (kept : Nat) (w : Word),
    (s.offClosed off = true ∧ s.stage off val = (kept, { s.keptRaise off kept with
      regs := { s.regs with gateQueue := s.regs.gateQueue ++ [⟨off, w⟩] } })) ∨
    (s.offClosed off = false ∧ s.stage off val = (kept, (s.keptRaise off kept).setShad off w)) := by
  unfold State.stage
  rw [hx]
  simp only [keptRaise_offClosed, keptRaise_regs]
  cases s.offClosed off
  · exact ⟨_, _, .inr ⟨rfl, rfl⟩⟩
  · exact ⟨_, _, .inl ⟨rfl, rfl⟩⟩

/-! ### Writes that command something -/

/-- A row's BAR0 write at a register whose name is known, with no strobe refused, is the write of that register. -/
theorem writeVia_named (s : State) (path : Path) (off w : Nat) (n : RegName) (h4 : off % 4 = 0)
    (h : (locate off).map (fun x => (x.row.name, badStrobes x w)) = some (n, 0)) :
    ∃ x, x.row.name = n ∧ badStrobes x w = 0 ∧ s.writeVia path off w = s.written path off w (s.writePlace path x w) := by
  obtain ⟨x, hx, he⟩ := Option.map_eq_some_iff.1 h
  obtain ⟨hn, hb⟩ := Prod.mk.inj he
  exact ⟨x, hn, hb, writeVia_written s path off w x h4 hx⟩

/-- The state with the lock bit of a block set (R10). -/
def State.lock (s : State) : LockBlock → State
  | .hvh => { s with regs := { s.regs with lockHvh := true } }
  | .pwr => { s with regs := { s.regs with lockPwr := true } }
  | .mgt => { s with regs := { s.regs with lockMgt := true } }

/-- The LOCK register of a block (R421). -/
def lockName : LockBlock → RegName
  | .hvh => .hvhLock
  | .pwr => .pwrLock
  | .mgt => .mgtLock

/-- The LOCK register of a block lies at its offset, and takes 1 without a refused strobe. -/
theorem locate_lock (b : LockBlock) : (locate b.off).map (fun x => (x.row.name, badStrobes x 1)) = some (lockName b, 0) := by
  cases b <;> decide

/-- Writing 1 to the LOCK register of a block sets its lock bit. -/
theorem exec_blockLock (s : State) (path : Path) (b : LockBlock) :
    exec (.blockLock path b) s = .next (s.finish (s.written path b.off 1 (s.lock b))) := by
  obtain ⟨x, hn, hb, h⟩ := writeVia_named s path b.off 1 (lockName b) (by cases b <;> rfl) (locate_lock b)
  have hset : s.writePlace path x 1 = s.lock b := by
    cases b <;> simp [State.writePlace, hn, hb, lockName, bitOf, State.lock]
  show Host.Outcome.next (s.finish (s.writeVia path b.off 1)) = _
  rw [h, hset]

/-- LNC_START.LOAD = 1 is the start load (R243). -/
theorem exec_startLoad (s : State) (path : Path) :
    exec (.startLoad path) s = .next (s.finish (s.written path 0x20F000 1 s.startLoad)) := by
  obtain ⟨x, hn, hb, h⟩ := writeVia_named s path 0x20F000 1 .lncStart rfl (by decide)
  show Host.Outcome.next (s.finish (s.writeVia path 0x20F000 1)) = _
  rw [h]
  simp [State.writePlace, hn, hb, bitOf]

/-! ### The statements of the scope -/

/-- Settles O1: `step` takes the command at the front of the queue. -/
theorem stepRunsFrontCommand : Obligations.StepRunsFrontCommand := fun _ _ _ => rfl

/-- Settles O3: every command ends with `finish`, which empties what is left over and keeps the queue. -/
theorem everyCommandCompletes : Obligations.EveryCommandCompletes := by
  intro c s
  obtain ⟨e, he⟩ := exec_finish c s
  exact ⟨s.finish e, he, finish_pending s e, finish_actions s e, finish_raises s e⟩

/-- Settles O4: nothing is listed at reset, so no port is contained. -/
theorem resetMeetsInvariant : Obligations.ResetMeetsInvariant :=
  ⟨⟨rfl, rfl, fun _ _ => rfl⟩, reset_memoriesWf⟩

/-- Settles O8: a cold reset leaves nothing to be carried out, so the step ends in the state it makes. -/
theorem coldResetCommands : Obligations.ColdResetCommands := by
  intro s
  refine ⟨exec_coldRstNLow s, exec_auxRefclkLost s, fun torn => (exec_vddAuxOutOfRange s torn).trans ?_⟩
  unfold State.auxOut
  rcases s.mgmt.coloQueue with _ | ⟨r, l⟩
  · rfl
  · cases torn <;> rfl

/-- Settles O7: every register table of the reset state is empty, and an unlisted word holds its reset value. -/
theorem coldResetLeavesResetValues : Obligations.ColdResetLeavesResetValues := by
  intro s t h off
  obtain rfl := Host.Outcome.next.inj ((exec_coldRstNLow s).symm.trans h)
  exact ⟨rfl, rfl, rfl⟩

/-- Settles O21: the four bytes written are those read, and the writes keep every other byte and the canonical form. -/
theorem localMemoryReadAfterWrite : Obligations.LocalMemoryReadAfterWrite := by
  intro d t a w h hw
  refine ⟨memWord_putMemWord d t a w h hw, fun b hb => ?_, wf_putMemWord d t a w h⟩
  rw [tget_putMemWord d t a w b h, if_neg (by omega)]

/-- Settles O34: a staged write ends at the gate's queue or in the shadow quire, after at most one raise. -/
theorem stagedWritesLeaveActive : Obligations.StagedWritesLeaveActive := by
  intro s off val x hx
  have hzero (kept : Nat) (h : kept = 0) : (s.keptRaise off kept).raises = s.raises := by rw [h, keptRaise_zero]
  obtain ⟨kept, w, ⟨hc, hs⟩ | ⟨hc, hs⟩⟩ := stage_cases s off val x hx
  case inl =>
    rw [hs]
    exact ⟨rfl, rfl, fun _ => ⟨rfl, w, rfl⟩, fun ho => absurd ho (by simp [hc]), hzero kept, keptRaise_raises s off kept⟩
  case inr =>
    rw [hs]
    simpa [hc] using ⟨hzero kept, keptRaise_raises s off kept⟩

/-- Settles O33: a BAR0 write is the write of its register, and the lock and start registers command their effects. -/
theorem registerWrites : Obligations.RegisterWrites := by
  intro s path
  exact ⟨fun _ _ => rfl, exec_blockLock s path .hvh, exec_blockLock s path .pwr, exec_blockLock s path .mgt, exec_startLoad s path⟩

end Sys2Proof.Machine
end

section
/-!
PROOF. What 01_architecture says of a step that changes nothing, of one CCLK, and of a change of mode.
-/
namespace Sys2Proof.Machine

/-! ### A step that changes nothing -/

/-- No block changed its part of the state, so no word was used. -/
theorem usedSince_self (s : State) : s.usedSince s = s := by
  unfold State.usedSince
  split
  · rfl
  · have hany (l : List Nat) : (l.any fun _ => false) = false := List.any_eq_false.2 fun _ _ => Bool.false_ne_true
    have hnone (l : List Nat) : (l.filter fun _ => false) = [] := List.filter_eq_nil_iff.2 fun _ _ => Bool.false_ne_true
    simp only [beq_self_eq_true, if_true, bne_self_eq_false, hany, Bool.or_false, hnone, each_nil]

theorem boundary_of_not_active (s : State) (p : Nat) (h : (s.bfl p).phase ≠ .active) : s.boundary p = none := by
  unfold State.boundary
  exact if_pos h

/-- With nothing to send on the active links, no link passes a flit boundary. -/
theorem boundary_of_still (s : State) (h : s.Still) (p : Nat) : s.boundary p = none := by
  by_cases hp : (s.bfl p).phase = .active
  case neg => exact boundary_of_not_active s p hp
  unfold State.bfl tget at hp
  cases hf : tfind s.fabric.links p with
  | none => rw [hf] at hp; cases hp
  | some b => rw [hf] at hp; exact h.flits (p, b) (tfind_mem _ _ _ hf) hp

/-- Where no CCLK passed and no link has anything to send, nothing is sent. -/
theorem flitPump_zero (s : State) (h : ∀ p, s.boundary p = none) : s.flitPump 0 = s :=
  each_eq_self _ _ _ fun x _ => by simp [h x.1]

/-- Holding contained ports OFF changes nothing where they are OFF. -/
theorem enforce_of_off (s : State) (hp : twf port0 s.links.ports = true) (hoff : s.containedOff) : s.enforce = s := by
  unfold State.enforce
  rw [tmap_id _ _ _ (fun x hx => (twfFrom_mem _ _ none hp x hx).1)]
  intro x hx
  have hport : s.port x.1 = x.2 := by
    unfold State.port tget
    rw [tfind_of_mem _ _ none hp x hx]
    rfl
  refine if_neg fun ⟨hc, hs⟩ => hs ?_
  rw [← hport]
  exact hoff x.1 hc

/-- A step without an effect leaves a still state as it was. -/
theorem finish_self_of_still (s : State) (h : s.Still) : s.finish s = s := by
  obtain ⟨ha, hr, hoff⟩ := h.inv
  have hquiet : s.quiet = true := by simp [State.quiet, ha, hr]
  unfold State.finish
  simp only [heatPump_eq_self s h.heat, settle_of_still s h, usedSince_self, hquiet, if_true, Nat.sub_self,
    flitPump_zero s (boundary_of_still s h), enforce_of_off s h.ports hoff]
  rw [← ha, ← hr]

/-- A row without an effect leaves a still state as it was. -/
theorem next_finish_of_still {s e : State} (h : s.Still) (he : e = s) :
    Host.Outcome.next (s.finish e) = (.next s : Host.Outcome State Fault Refusal) := by
  rw [he, finish_self_of_still s h]

/-! ### Packet rows on a port that is not active -/

/-- A packet from a host or device port that is not active is lost. -/
theorem arriveAt_inactive (s : State) (p : Nat) (t : Tlp) (h : s.portActive p = false) : s.arriveAt p t = s := arrive_inactive s _ h

/-- A row that receives at most one packet does nothing on an inactive port, whether or not the packet is of its kind. -/
theorem ite_arriveAt_inactive (s : State) (p : Nat) (t : Tlp) (c : Prop) [Decidable c] (h : s.portActive p = false) :
    (if c then s.arriveAt p t else s) = s := by
  rw [arriveAt_inactive s p t h, ite_self]

theorem hostMemory_inactive (s : State) (p : Nat) (t : Tlp) (h : s.portActive p = false) : s.hostMemory p t = s := by
  unfold State.hostMemory
  cases t.op
  case memWrite | memRead | atomic | npWrite => exact ite_arriveAt_inactive s p t _ h
  all_goals rfl

theorem devicePortRequest_inactive (s : State) (p : Nat) (t : Tlp) (h : s.portActive p = false) : s.devicePortRequest p t = s := by
  unfold State.devicePortRequest
  cases t.op
  case memWrite | memRead | atomic | npWrite => exact ite_arriveAt_inactive s p t _ h
  all_goals rfl

theorem nullifiedRx_inactive (s : State) (p : Nat) (part : Option VoidRx) (h : s.portActive p = false) : s.nullifiedRx p part = s := by
  unfold State.nullifiedRx
  simp [h]

theorem fabricPacket_inactive (s : State) (x : Rx) (h : s.portActive x.port = false) : s.fabricPacket x = s := by
  unfold State.fabricPacket
  simp [h]

/-- Settles O49: none of the rows has an effect, and the end of the step changes nothing of a still state. -/
theorem inactivePortReceivesNothing : Obligations.InactivePortReceivesNothing := by
  intro s p t i hs hp hi
  have hone (u : Tlp) (c : Prop) [Decidable c] := ite_arriveAt_inactive s p.val u c hp
  rcases hi with rfl | rfl | rfl | rfl | rfl | rfl | rfl | rfl | ⟨part, rfl⟩ | rfl | ⟨rid, tag, rfl⟩ | ⟨src, dst, ttl, tc, ld, rfl⟩
  · exact next_finish_of_still hs (hostMemory_inactive s p t hp)
  · exact next_finish_of_still hs (hone _ _)
  · exact next_finish_of_still hs (hone _ _)
  · exact next_finish_of_still hs (devicePortRequest_inactive s p t hp)
  · exact next_finish_of_still hs (hone _ _)
  · exact next_finish_of_still hs (hone _ _)
  · exact next_finish_of_still hs (hone _ _)
  · exact next_finish_of_still hs (hone _ _)
  · exact next_finish_of_still hs (nullifiedRx_inactive s p part hp)
  · exact next_finish_of_still hs (hone _ _)
  · exact next_finish_of_still hs (hone _ _)
  · exact next_finish_of_still hs (fabricPacket_inactive s _ hp)

/-! ### One CCLK without a command (R25, R35) -/

/-- Where no threshold counter is selected, no request is held and no port is in L1, CCLK edges move spine time alone. -/
theorem pass_of_idle (s : State) (n : Nat) (hthr : s.thrSelected = []) (hrx : s.path.heldRx = []) (hout : s.path.heldOut = [])
    (hl1 : ∀ x ∈ s.links.ports, x.2.inL1 = false) :
    s.pass n = { s with spine := { s.spine with t40 := s.spine.t40 + n * s.spine.inc, cclk := s.spine.cclk + n } } := by
  have hthr : s.thrAdvance n = s := by
    unfold State.thrAdvance
    rw [hthr, each_nil]
  have hheld : s.heldPorts = ([], []) := by simp [State.heldPorts, hrx, hout]
  have hl1 : s.links.ports.filter (fun x => x.2.inL1) = [] := List.filter_eq_nil_iff.2 fun x hx => by simp [hl1 x hx]
  unfold State.pass
  simp only [hthr, hheld, hl1, List.map_nil, each_nil]

/-- Settles O2: an empty queue stands for one CCLK of a running core. -/
theorem idleStepIsOneClockEdge : Obligations.IdleStepIsOneClockEdge := by
  intro s hq
  have hstep : step s = .next s.idleTick := by
    unfold step
    rw [hq]
  rw [hstep]
  unfold State.idleTick
  refine ⟨fun hoff => by simp [hoff], fun hon hthr hrx hout hl1 hinst => ?_⟩
  rw [if_pos hon, advance_pass s 1 hinst, pass_of_idle s 1 hthr hrx hout hl1, Nat.one_mul]

/-! ### Mode changes (R29) -/

theorem setMode_self (s : State) : s.setMode s.glb.mode = s := if_pos rfl

/-- A change of mode keeps the mode before it, counts, and leaves what depends on the mode to be looked at again. -/
theorem setMode_of_ne (s : State) (m : Mode) (h : s.glb.mode ≠ m) :
    s.setMode m = (({ s with glb := { s.glb with
      mode := m, prevMode := s.glb.mode, transitions := (s.glb.transitions + 1) % 256 } }).push .reselect).push .recheck := if_neg h

theorem modeCode_lt (m : Mode) : modeCode m < 8 := by cases m <;> decide

theorem b2n_le_one (b : Bool) : b2n b ≤ 1 := by cases b <;> decide

/-- GLB_MODE_STATUS as a sum of its fields (R29). -/
theorem modeStatus_eq (s : State) (hr : s.glb.refused < 256) (ht : s.glb.transitions < 256) (hq : s.glb.quiesceCause < 8) :
    s.modeStatus = s.glb.refused * 2 ^ 24 + s.glb.transitions * 2 ^ 16 + s.glb.quiesceCause * 2 ^ 9 + b2n s.drained * 2 ^ 8
      + modeCode s.glb.prevMode * 2 ^ 3 + modeCode s.glb.mode := by
  have hp := modeCode_lt s.glb.prevMode
  have hd := b2n_le_one s.drained
  unfold State.modeStatus place
  simp only [Nat.shiftLeft_eq]
  omega

/-- Settles O14: `setMode` keeps what R29 asks for, and the fields of GLB_MODE_STATUS do not overlap. -/
theorem modeChangeBookkeeping : Obligations.ModeChangeBookkeeping := by
  refine ⟨fun s m => ⟨fun h => by rw [setMode_of_ne s m h.symm]; rfl, fun h => h ▸ setMode_self s⟩, fun s hr ht hq => ?_, rfl⟩
  have hm := modeCode_lt s.glb.mode
  have hp := modeCode_lt s.glb.prevMode
  have hd := b2n_le_one s.drained
  rw [modeStatus_eq s hr ht hq]
  unfold bitsOf
  simp only [Nat.shiftRight_eq_div_pow]
  omega

end Sys2Proof.Machine
end

section
/-!
PROOF. Starts and their failures (R27, R381, R382, R386, R387).
-/
namespace Sys2Proof.Machine

/-! ### Records of the colophon (R386, R387) -/

/-- A record touches the queue of the colophon alone. -/
theorem colophon_pres {β : Type} (g : State → β) (h : ∀ (s : State) (m : Mgmt), g { s with mgmt := m } = g s) (s : State)
    (event cause source : Nat) (f : ColoRec → ColoRec) : g (s.colophon event cause source f) = g s := by
  unfold State.colophon State.putColo
  split
  · exact h s _
  · rfl

@[simp] theorem colophon_glb (s : State) (event cause source : Nat) (f : ColoRec → ColoRec) :
    (s.colophon event cause source f).glb = s.glb := colophon_pres (·.glb) (fun _ _ => rfl) s _ _ _ f
@[simp] theorem colophon_regs (s : State) (event cause source : Nat) (f : ColoRec → ColoRec) :
    (s.colophon event cause source f).regs = s.regs := colophon_pres (·.regs) (fun _ _ => rfl) s _ _ _ f
@[simp] theorem colophon_power (s : State) (event cause source : Nat) (f : ColoRec → ColoRec) :
    (s.colophon event cause source f).power = s.power := colophon_pres (·.power) (fun _ _ => rfl) s _ _ _ f

/-- With room in the queue a record is put at its end. -/
theorem colophon_mgmt (s : State) (event cause source : Nat) (f : ColoRec → ColoRec) (h : s.mgmt.coloQueue.length < 8) :
    (s.colophon event cause source f).mgmt =
      { s.mgmt with coloQueue := s.mgmt.coloQueue ++ [f (s.nextColo event cause source)] } := by
  unfold State.colophon State.putColo
  rw [if_pos h]
  rfl

@[simp] theorem setMode_mgmt (s : State) (m : Mode) : (s.setMode m).mgmt = s.mgmt := by
  unfold State.setMode
  split <;> rfl

@[simp] theorem setMode_regs (s : State) (m : Mode) : (s.setMode m).regs = s.regs := by
  unfold State.setMode
  split <;> rfl

@[simp] theorem setMode_power (s : State) (m : Mode) : (s.setMode m).power = s.power := by
  unfold State.setMode
  split <;> rfl

/-- Either way the mode is the one asked for. -/
@[simp] theorem setMode_mode (s : State) (m : Mode) : (s.setMode m).glb.mode = m := by
  by_cases h : s.glb.mode = m
  · rw [← h, setMode_self]
  · rw [setMode_of_ne s m h]
    rfl

/-! ### A start begins (R381) -/

/-- Turning slot channels off touches the channels alone. -/
theorem slotsOff_pres {β : Type} (g : State → β)
    (h : ∀ (s : State) (f : SlotChan → SlotChan) (k : Nat), g (s.modSlotCh k f) = g s) (s : State) : g s.slotsOff = g s := by
  refine each_pres _ g (fun s k => ?_) _ s
  split
  · rfl
  · exact h s _ k

@[simp] theorem slotsOff_mgmt (s : State) : s.slotsOff.mgmt = s.mgmt := slotsOff_pres (·.mgmt) (fun _ _ _ => rfl) s
@[simp] theorem slotsOff_glb (s : State) : s.slotsOff.glb = s.glb := slotsOff_pres (·.glb) (fun _ _ _ => rfl) s
@[simp] theorem slotsOff_regs (s : State) : s.slotsOff.regs = s.regs := slotsOff_pres (·.regs) (fun _ _ _ => rfl) s
@[simp] theorem slotsOff_stage (s : State) : s.slotsOff.power.stage = s.power.stage := slotsOff_pres (·.power.stage) (fun _ _ _ => rfl) s

theorem slotsOff_mainEn (s : State) : s.slotsOff.mainEn = s.mainEn := slotsOff_pres (·.mainEn) (fun _ _ _ => rfl) s

/-- PWR_MAIN_CTL.EN reads 1 once it is set (R369). -/
theorem mainEn_setDir_one (s : State) : (s.setDir 0x1100C00 1).mainEn = true := by
  have hne : (1 : Word) ≠ offReset 0x1100C00 := by decide
  have hins : (s.setDir 0x1100C00 1).regs.direct = tins s.regs.direct 0x1100C00 1 := by
    show putWord s.regs.direct 0x1100C00 1 = _
    unfold putWord tput
    rw [if_neg hne]
  unfold State.mainEn State.dir
  rw [hins, tfind_tins_same]
  rfl

/-- The copy of an image to code SRAM touches the code SRAM alone. -/
theorem copyImage_eq (m : Mgmt) (b : Bool) : ∃ sram, m.copyImage b = { m with sram := sram } := by
  unfold Mgmt.copyImage
  dsimp only
  split
  · exact ⟨m.sram, rfl⟩
  · exact ⟨_, rfl⟩

theorem modMgt_copyImage (s : State) :
    ∃ sram, s.modMgt (fun m => m.copyImage m.firstChoice) = { s with mgmt := { s.mgmt with sram := sram } } := by
  obtain ⟨sram, h⟩ := copyImage_eq s.mgmt s.mgmt.firstChoice
  exact ⟨sram, congrArg (fun m => { s with mgmt := m }) h⟩

/-- What every start does before it decides: a nonce, keys, the boot ROM's first choice, the group of R357. -/
def State.started (s : State) : State :=
  { s with
    mgmt := { s.mgmt with
      nonce := s.draw.1 % 2 ^ 64, keysGone := false, spdmDoe := spdm0, spdmMctp := spdm0,
      boot := { boot0 with image := b2n s.mgmt.firstChoice } }
    power := { s.power with stage := 0, admitted := none }
    glb := { s.glb with bindAccepted := false, firstBound := false, firstFired := false }
    freeCtr := s.freeCtr + 1 }

/-- A start in ENDPAPER, before its record. -/
def State.startedEndpaper (s : State) : State :=
  (s.started.modBoot (fun b => { b with phase := .endpaper, image := 2 })).setMode .endpaper

/-- A start with an image to verify and its code in code SRAM, before its record. -/
def State.startedImage (s : State) (sram : Tbl Byte) : State :=
  { s.started with mgmt := { s.started.mgmt with
      boot := { boot0 with image := b2n s.mgmt.firstChoice, phase := .rom, counted := true }, sram := sram } }

/-- START_BEGIN counts the start as failed until it succeeds (R381, R387). -/
def State.startBegin (s : State) (r : ColoRec) : ColoRec :=
  { r with
    image := imgCode s.mgmt.firstChoice, fails := min (r.fails + 1) 7, starts := min (r.starts + 1) 0xFFFFFFFF,
    failed := min (r.failed + 1) 0xFFFFFFFF }

theorem beginStart_endpaper (s : State) (h : s.mgmt.toEndpaper = true) :
    s.beginStart = ((s.startedEndpaper.colophon 7 0 0xFFFF).setDir 0x1100C00 1).slotsOff := if_pos h

theorem beginStart_image (s : State) (h : s.mgmt.toEndpaper = false) :
    ∃ sram, s.beginStart = (s.startedImage sram).colophon 1 0 0xFFFF s.startBegin := by
  have hb : s.beginStart =
      (let t := (s.started.modBoot (fun b => { b with phase := .rom, counted := true })).modMgt (fun m => m.copyImage m.firstChoice)
      t.colophon 1 0 0xFFFF (fun r => { r with
        image := imgCode t.mgmt.firstChoice, fails := min (r.fails + 1) 7, starts := min (r.starts + 1) 0xFFFFFFFF,
        failed := min (r.failed + 1) 0xFFFFFFFF })) := if_neg (ne_true_of_eq_false h)
  obtain ⟨sram, hm⟩ := modMgt_copyImage (s.started.modBoot (fun b => { b with phase := .rom, counted := true }))
  rw [hm] at hb
  exact ⟨sram, hb⟩

theorem startedEndpaper_mgmt (s : State) : s.startedEndpaper.mgmt =
    { s.started.mgmt with boot := { boot0 with phase := .endpaper, image := 2 } } := setMode_mgmt _ _

/-- The record of a start that goes to ENDPAPER (R387). -/
theorem beginStart_endpaper_mgmt (s : State) (hd : s.mgmt.toEndpaper = true) (hroom : s.mgmt.coloQueue.length < 8) :
    s.beginStart.mgmt = { s.startedEndpaper.mgmt with
      coloQueue := s.mgmt.coloQueue ++ [s.startedEndpaper.nextColo 7 0 0xFFFF] } := by
  have hq : s.startedEndpaper.mgmt.coloQueue = s.mgmt.coloQueue := by rw [startedEndpaper_mgmt]; rfl
  rw [beginStart_endpaper s hd, slotsOff_mgmt, setDir_mgmt, colophon_mgmt _ _ _ _ _ (hq ▸ hroom), hq, id]

/-- The condition for ENDPAPER, life cycle by life cycle. -/
theorem toEndpaper_eq (m : Mgmt) : m.toEndpaper =
    (m.otp.lc == .blank || m.otp.lc == .returned || m.otp.lc == .retired
      || (m.otp.lc == .provision && (!m.otp.anyUsable || decide (3 ≤ m.fails))) || (m.otp.lc == .deployed && decide (3 ≤ m.fails))) := by
  unfold Mgmt.toEndpaper
  cases m.otp.lc
  case provision => exact (Bool.or_false _).symm
  all_goals rfl

/-- Settles O10: by the decision, either the way to ENDPAPER or the way to an image. -/
theorem startDecision : Obligations.StartDecision := by
  intro s hroom m t endpaper
  have hend : endpaper = s.mgmt.toEndpaper := (toEndpaper_eq s.mgmt).symm
  rw [hend]
  cases hd : s.mgmt.toEndpaper
  case true =>
    have ht : t = _ := beginStart_endpaper s hd
    have hm : t.mgmt = _ := beginStart_endpaper_mgmt s hd hroom
    refine ⟨?_, ?_, fun _ => ⟨?_, ?_, ?_, _, congrArg Mgmt.coloQueue hm, rfl, ?_, ?_⟩, fun h => Bool.noConfusion h⟩
    · rw [hm, startedEndpaper_mgmt]
      rfl
    · rw [ht, slotsOff_stage, setDir_power, colophon_power]
      exact congrArg Power.stage (setMode_power _ _)
    · rw [ht, slotsOff_glb, setDir_glb, colophon_glb]
      exact setMode_mode _ _
    · rw [ht, slotsOff_mainEn]
      exact mainEn_setDir_one _
    · rw [hm, startedEndpaper_mgmt]
    · exact congrArg modeCode (setMode_mode _ _)
    · show s.startedEndpaper.mgmt.fails = s.mgmt.fails
      rw [startedEndpaper_mgmt]
      rfl
  case false =>
    obtain ⟨sram, ht⟩ : ∃ sram, t = _ := beginStart_image s hd
    have hm := colophon_mgmt (s.startedImage sram) 1 0 0xFFFF s.startBegin hroom
    rw [← ht] at hm
    refine ⟨?_, ?_, fun h => Bool.noConfusion h, fun _ => ⟨?_, ?_, ?_, _, congrArg Mgmt.coloQueue hm, rfl, rfl, rfl⟩⟩
    · rw [hm]; rfl
    · rw [ht, colophon_power]; rfl
    · rw [ht, colophon_glb]; rfl
    · rw [hm]; rfl
    · rw [hm]; rfl

/-! ### A start fails (R382) -/

/-- A key that is unlisted once is listed no more, where keys strictly rise. -/
theorem fst_ne_of_mem_tdel {α : Type} (t : Tbl α) (k : Nat) (h : t.Pairwise (fun a b => a.1 < b.1)) : ∀ x ∈ tdel t k, x.1 ≠ k := by
  induction t with
  | nil => simp [tdel]
  | cons a t ih =>
    obtain ⟨ha, ht⟩ := List.pairwise_cons.1 h
    intro x hx
    unfold tdel at hx
    by_cases hlt : k < a.1
    · rw [if_pos hlt] at hx
      rcases List.mem_cons.1 hx with rfl | hx
      · omega
      · have := ha x hx; omega
    · rw [if_neg hlt] at hx
      by_cases heq : k = a.1
      · rw [if_pos heq] at hx
        have := ha x hx; omega
      · rw [if_neg heq] at hx
        rcases List.mem_cons.1 hx with rfl | hx
        · omega
        · exact ih ht x hx

/-- The main rails are disabled in AUX (R27), where the direct registers are listed in rising order. -/
theorem mainEn_toAux (s : State) (h : s.regs.direct.Pairwise (fun a b => a.1 < b.1)) : s.toAux.mainEn = false := by
  have hdel : s.toAux.regs.direct = (tdel s.regs.direct 0x1100C00).filter (fun x => x.1 < 0x100000 || decide (0x1100000 ≤ x.1)) := by
    have hreset : (0 : Word) = offReset 0x1100C00 := by decide
    have hput : putWord (s.setMode .aux).regs.direct 0x1100C00 0 = tdel s.regs.direct 0x1100C00 := by
      unfold putWord tput
      rw [if_pos hreset, setMode_regs]
    exact congrArg (List.filter _) hput
  have hnone : tfind s.toAux.regs.direct 0x1100C00 = none := by
    cases hf : tfind s.toAux.regs.direct 0x1100C00 with
    | none => rfl
    | some w =>
      have hm := tfind_mem _ _ _ hf
      rw [hdel] at hm
      exact absurd rfl (fst_ne_of_mem_tdel _ _ h _ (List.mem_filter.1 hm).1)
  unfold State.mainEn State.dir
  rw [hnone]
  decide

/-- What O12 says of a failed start holds where the direct registers are listed in the rising order that
writes keep. -/
theorem startFail_of_rising (s : State) (cause : Nat) (hroom : s.mgmt.coloQueue.length < 8)
    (hdir : s.regs.direct.Pairwise (fun a b => a.1 < b.1)) :
    (let t := s.startFail cause
    let moves : Bool := s.mgmt.boot.phase == .firmware && s.mgmt.trial && s.mgmt.boot.image == b2n s.mgmt.pref
    t.glb.mode = .aux ∧ t.glb.coreUp = false ∧ t.mainEn = false ∧ t.mgmt.boot.phase = .failWait ∧
    ∃ r, t.mgmt.coloQueue = s.mgmt.coloQueue ++ [r] ∧ r.event = 4 ∧ r.cause = cause % 256 ∧ r.mode = 1 ∧
      r.pref = (if moves then !s.mgmt.pref else s.mgmt.pref) ∧ r.trial = (if moves then false else s.mgmt.trial)) := by
  intro t moves
  have hm := colophon_mgmt s 4 cause 0xFFFF (fun r => { r with
    mode := 1, pref := if moves then !r.pref else r.pref, trial := if moves then false else r.trial }) hroom
  refine ⟨setMode_mode _ _, rfl, mainEn_toAux _ ?_, rfl, _,
    congrArg Mgmt.coloQueue ((setMode_mgmt _ .aux).trans hm), rfl, rfl, rfl, rfl, rfl⟩
  rw [colophon_regs]
  exact hdir

/-- Refutes O12: where the direct registers list PWR_MAIN_CTL twice, setting EN to 0 unlists it once,
and it still reads 1. In the canonical order the claim holds (`startFail_of_rising`). -/
theorem not_startFailure : ¬ Obligations.StartFailure := by
  intro h
  obtain ⟨-, -, hen, -⟩ := h { State.reset with regs := { regs0 with direct := [(0x1100C00, 1), (0x1100C00, 1)] } } 2 (by decide)
  exact absurd hen (by decide)

end Sys2Proof.Machine
end

section
/-!
PROOF. The rows of a start and of mode control (R27, R30, R31, R369, R406 to R408).
-/
namespace Sys2Proof.Machine

/-! ### Rows and their effects -/

/-- Rows with the same effect answer the same. -/
theorem next_finish_congr (s : State) {a b : State} (h : a = b) :
    Host.Outcome.next (s.finish a) = (.next (s.finish b) : Host.Outcome State Fault Refusal) :=
  congrArg (fun e => Host.Outcome.next (s.finish e)) h

/-- A row's BAR0 write at a named register, with no strobe refused, has that register's effect. -/
theorem writeVia_effect (s : State) (path : Path) (off w : Nat) (n : RegName) (e : State) (h4 : off % 4 = 0)
    (hloc : (locate off).map (fun x => (x.row.name, badStrobes x w)) = some (n, 0))
    (he : ∀ x : Place, x.row.name = n → badStrobes x w = 0 → s.writePlace path x w = e) :
    s.writeVia path off w = s.written path off w e := by
  obtain ⟨x, hn, hb, h⟩ := writeVia_named s path off w n h4 hloc
  rw [h, he x hn hb]

/-! ### The supplies and pins that begin a start, and the time limits of a start (R27, R369, R406 to R408) -/

/-- OFF ends when the pin that rose finds the other two good. -/
theorem leaveOff_eq (s : State) (strap others : Bool)
    (h : (s.glb.coldRstHigh = true ∧ s.glb.vddAuxOk = true ∧ s.glb.auxRefclkOk = true) ↔ others = true) :
    s.leaveOff strap =
      if (s.glb.mode = .off ∨ s.mgmt.boot.phase = .idle) ∧ others = true then
        let s2 := s.setDir 0x1200060 (BitVec.ofNat 32 (0x62 + place (b2n strap) 8 8))
        let s3 := { s2 with glb := { s2.glb with mode := .aux } }
        ((if s3.power.feed.warns then s3.warnOn else s3).colophon 6 0 0xFFFF).beginStart
      else s := by
  unfold State.leaveOff
  simp only [h]

/-- Settles O9: each pin by the end of OFF it may bring about, each time limit by its own condition. -/
theorem startPowerAndTimers : Obligations.StartPowerAndTimers := by
  refine ⟨fun s sel => ⟨?_, ?_, ?_⟩, fun s => ⟨rfl, rfl, rfl, rfl, rfl, rfl, fun path en => ?_⟩⟩
  · exact next_finish_congr s (leaveOff_eq _ sel _ (by simp))
  · exact next_finish_congr s (leaveOff_eq _ sel _ (by simp))
  · exact next_finish_congr s (leaveOff_eq _ sel _ (by simp))
  · refine next_finish_congr s (writeVia_effect s path _ _ .pwrMainCtl _ rfl (by cases en <;> decide) fun x hn hb => ?_)
    have hbit : bitOf (b2n en) 0 = en := by cases en <;> rfl
    simp [State.writePlace, hn, hb, hbit]

/-! ### Mode requests (R27, R30, R31) -/

/-- A write of GLB_MODE_CTL.REQ by a row is the mode request. -/
theorem modeCtl_eq (s : State) (path : Path) (req : Nat) (h : req = 1 ∨ req = 2 ∨ req = 3 ∨ req = 4) :
    s.modeCtl path req = s.written path 0x44 req (s.modeRequest req) := by
  refine writeVia_effect s path 0x44 req .glbModeCtl _ rfl ?_ fun x hn hb => ?_
  · rcases h with rfl | rfl | rfl | rfl <;> decide
  · have hreq : bitsOf req 3 0 = req := by rcases h with rfl | rfl | rfl | rfl <;> rfl
    simp [State.writePlace, hn, hb, hreq]

/-- The core is up, and the source that the boot ROM held is raised (R382). -/
def State.coreStarted (s : State) : State :=
  let s1 := { s with glb := { s.glb with coreUp := true } }
  if s.mgmt.boot.held then
    ({ s1 with mgmt := { s1.mgmt with boot := { s1.mgmt.boot with held := false } } }).raiseDev 1531 else s1

theorem coreStarted_mode (s : State) : s.coreStarted.glb.mode = s.glb.mode := by
  unfold State.coreStarted
  dsimp only
  split <;> rfl

theorem coreStarted_plan (s : State) : s.coreStarted.mgmt.boot.plan = s.mgmt.boot.plan := by
  unfold State.coreStarted
  dsimp only
  split <;> rfl

/-- The plan's mode byte picks the mode (R382). -/
theorem coreInit_eq (s : State) : s.coreInit =
    (if s.awaitsCore ∧ s.power.mainGood ∧ s.mgmt.boot.pll then
      if s.glb.mode = .endpaper then
        (((s.coreStarted.checkProvided false).modStack 0 (fun x => { x with calibrating := true })).push .reselect).push .recheck
      else if s.mgmt.boot.plan = 1 then (s.coreStarted.setMode .test).startOk
      else if s.mgmt.boot.plan = 2 then (s.coreStarted.setMode .standalone).colophon 6 0 0xFFFF
      else ((s.coreStarted.setMode .member).colophon 6 0 0xFFFF).push .elect
    else s) := by
  rw [← coreStarted_plan, ← coreStarted_mode]
  unfold State.coreInit
  refine ite_congr rfl (fun _ => ?_) fun _ => rfl
  show (if s.coreStarted.glb.mode = .endpaper then _ else _) = _
  refine ite_congr rfl (fun _ => rfl) fun _ => ?_
  show (match s.coreStarted.mgmt.boot.plan with | 1 => _ | 2 => _ | _ => _) = _
  rcases s.coreStarted.mgmt.boot.plan with _ | _ | _ | n <;> rfl

/-- Settles O13: the plan picks the mode of a start, and the rows of GLB_MODE_CTL are writes of its request. -/
theorem modeCommands : Obligations.ModeCommands := by
  refine ⟨fun s => ⟨next_finish_congr s (coreInit_eq s), rfl⟩, fun s path => ⟨?_, ?_, ?_, ?_, rfl⟩⟩
  · exact next_finish_congr s (modeCtl_eq s path 1 (by decide))
  · exact next_finish_congr s (modeCtl_eq s path 2 (by decide))
  · exact next_finish_congr s (modeCtl_eq s path 3 (by decide))
  · exact next_finish_congr s (modeCtl_eq s path 4 (by decide))

end Sys2Proof.Machine
end

section
/-!
PROOF. The rows of spine time and of MTICK (R25, R36, R37, R41, R42, R44, R46).
-/
namespace Sys2Proof.Machine

/-! ### Spine time (R25, R36, R37, R41, R42, R44, R46) -/

/-- A valid reference takes the servo out of FREE or HOLDOVER, and moves neither spine time nor the registers. -/
theorem acquire_frame (s : State) :
    s.acquire.spine.t40 = s.spine.t40 ∧ s.acquire.spine.loadAtPps = s.spine.loadAtPps ∧ s.acquire.regs = s.regs := by
  unfold State.acquire
  cases s.refValid
  case false => exact ⟨rfl, rfl, rfl⟩
  case true => cases s.spine.servo <;> exact ⟨rfl, rfl, rfl⟩

/-- An uncorrectable error of a local memory (R372). -/
theorem sramError_eq (s : State) (m : LocalMaster) :
    s.sramError m = if s.mgmt.boot.phase = BootPhase.rom then s.startFail 6 else (s.raiseDev 1535).localError m := by
  unfold State.sramError State.inRom
  simp only [beq_iff_eq]

/-- A loss of the reference in ACQUIRE or LOCKED begins a holdover at the last rate (R41). -/
theorem refLost_eq (s : State) : s.refLost =
    (let lost : State := { s with spine := { s.spine with goodRun := 0, badRun := 0 } }
    if s.spine.servo = .acquire ∨ s.spine.servo = .locked then
      ({ lost with spine := { lost.spine with servo := .holdover, holdTicks := 0 } }).holdRate else lost) := by
  unfold State.refLost
  dsimp only
  cases s.spine.servo <;> rfl

theorem holdoverOver_iff (s : State) : s.holdoverOver = true ↔
    s.spine.servo = .holdover ∧ s.dirF 0x100028 15 0 ≠ 0 ∧ s.dirF 0x100028 15 0 ≤ s.spine.holdTicks := by
  simp [State.holdoverOver, and_assoc]

/-- A row's write of SPN_TIME_SET_CTL.ACT. -/
theorem writeVia_timeSetCtl (s : State) (path : Path) (act : Nat) (h : act = 1 ∨ act = 2) :
    s.writeVia path 0x100038 act = s.written path 0x100038 act (if act = 1 then s.loadPps else s.loadNow) := by
  refine writeVia_effect s path 0x100038 act .spnTimeSetCtl _ rfl ?_ fun x hn hb => ?_
  · rcases h with rfl | rfl <;> decide
  · unfold State.writePlace
    rcases h with rfl | rfl <;> simp [hn, hb, bitsOf]

/-- A register without a strobe field refuses none (R14). -/
theorem badStrobes_of_no_strobe (x : Place) (w : Nat) (h : x.row.fields.any (fun f => f.acc == .wos) = false) : badStrobes x w = 0 := by
  unfold badStrobes
  rw [List.length_eq_zero_iff, List.filter_eq_nil_iff]
  intro f hf
  simp [List.any_eq_false.1 h f hf]

/-- A row's write of SPN_UNIT_GROUP_k. -/
theorem writeVia_unitGroup (s : State) (path : Path) (k : Fin 47) (w : Word) :
    s.writeVia path (0x100200 + 4 * k.val) w.toNat = s.written path (0x100200 + 4 * k.val) w.toNat (s.writeGroups k.val w) := by
  obtain ⟨x, hx, he⟩ := Option.map_eq_some_iff.1 (locate_unitGroup k)
  obtain ⟨hn, hi, hw⟩ : x.row.name = .spnUnitGroup ∧ x.i = k.val ∧ x.row.fields.any (fun f => f.acc == .wos) = false := by
    simpa using he
  rw [writeVia_written s path _ _ x (by omega) hx]
  unfold State.writePlace
  simp [hn, hi, badStrobes_of_no_strobe x _ hw]

/-- The rest of the 1,000,000 CCLK of the tick passes, and the edge is counted (R25). -/
theorem tickTime_eq (s : State) : s.tickTime =
    (let passed := if s.coreRuns then s.advance (1000000 - s.spine.cclk) else s
    { passed with spine := { passed.spine with ticks := passed.spine.ticks + 1, cclk := passed.spine.cclk - 1000000 } }) := by
  unfold State.tickTime tickCclk
  rfl

/-- The always-on domain's part of the edge (R356 to R368, R372, R416). -/
theorem auxTick_eq (s : State) (x : TickIn) : s.auxTick x =
    (let aux := (((s.thermTick x.temp.val).feedsTick x.feedA.val x.feedB.val x.vbus.val).slotsTick x.slots x.vbus.val).modBoot
      (fun b => { b with mticks := b.mticks + 1, wait := b.wait + 1 })
    let fixed : State := { aux with mgmt := { aux.mgmt with memFixes := aux.mgmt.memFixes + x.sramFixes } }
    match x.sramError with
    | some m => if fixed.mgmt.boot.phase = BootPhase.rom then fixed.startFail 6 else (fixed.raiseDev 1535).localError m
    | none => fixed) := by
  unfold State.auxTick
  cases x.sramError with
  | none => rfl
  | some m => exact sramError_eq _ m

/-- The order of the edge's work: time, the core, the always-on domain, the mirrors. -/
theorem mtick_eq (s : State) (x : TickIn) : s.mtick x =
    (let core := if s.tickTime.coreRuns then s.tickTime.coreTick x else s.tickTime
    if s.glb.mode = .off then s
    else if (core.auxTick x).coreRuns then (core.auxTick x).mirrorAll else core.auxTick x) := rfl

/-- The state in which SPINE_PPS was seen, with the reference valid again (R37, R42). -/
def State.ppsMarked (s : State) : State := ({ s with spine := { s.spine with ppsLost := false, ppsSeen := true } }).acquire

theorem ppsMarked_t40 (s : State) : s.ppsMarked.spine.t40 = s.spine.t40 := (acquire_frame _).1
theorem ppsMarked_loadAtPps (s : State) : s.ppsMarked.spine.loadAtPps = s.spine.loadAtPps := (acquire_frame _).2.1
theorem ppsMarked_regs (s : State) : s.ppsMarked.regs = s.regs := (acquire_frame _).2.2

theorem ppsMarked_extDelay (s : State) : s.ppsMarked.extDelay = s.extDelay := by
  unfold State.extDelay State.dirF State.dir
  rw [ppsMarked_regs]

theorem ppsMarked_clkPeriod (s : State) : s.ppsMarked.clkPeriod = s.clkPeriod := by
  unfold State.clkPeriod State.dirF State.dir
  rw [ppsMarked_regs]

/-- What an edge of SPINE_PPS does: with a waiting load it performs it, else it may set the offset of the next measurement (R37, R44). -/
def State.ppsUse (t : State) (t40 delay period : Nat) : Option Nat → State
  | some v => ({ t with spine := { t.spine with loadAtPps := none } }).stepTime (v * 2 ^ 40 + delay)
  | none =>
    let d := nearest t40 delay (1000000000 * 2 ^ 40)
    if Int.ofNat period < 2 * Int.ofNat d.natAbs then
      { t with spine := { t.spine with
        ppsTheta := some (Int.fdiv (2 * d + Int.ofNat period) (2 * Int.ofNat period) * Int.ofNat period) } }
    else t

/-- With the external reference, an edge of SPINE_PPS acts by the time, the settings and the load that stood before it. -/
theorem ppsEdge_eq (s : State) : s.ppsEdge =
    if s.spine.ref ≠ .external then { s with spine := { s.spine with ppsLost := false } }
    else s.ppsMarked.ppsUse s.spine.t40 s.extDelay s.clkPeriod s.spine.loadAtPps := by
  have hm : s.ppsEdge = if s.spine.ref ≠ .external then { s with spine := { s.spine with ppsLost := false } }
      else s.ppsMarked.ppsUse s.ppsMarked.spine.t40 s.ppsMarked.extDelay s.ppsMarked.clkPeriod s.ppsMarked.spine.loadAtPps := rfl
  rw [hm, ppsMarked_t40, ppsMarked_extDelay, ppsMarked_clkPeriod, ppsMarked_loadAtPps]

theorem referenceLost_fabric (s gone : State) (h : s.refLost = gone) : s.referenceLost .fabric =
    match s.spine.ref with
    | .fabric p => if 8 ≤ s.spine.missed ∨ (s.bfl p).phase ≠ .active then gone else s
    | _ => s := by
  rw [← h]
  rfl

/-- A row's read of SPN_TIME_LO. -/
theorem readVia_timeLo (s : State) (path : Path) :
    s.readVia path 0x100000 = s.readOut path 0x100000 (s.ns % 2 ^ 32) (s.latchTime path) := by
  obtain ⟨x, hx, he⟩ := Option.map_eq_some_iff.1 (show (locate 0x100000).map (fun x =>
    (x.row.name, x.row.fields.map (fun f => (f.hi, f.lo, f.held, f.acc)))) = some (.spnTimeLo, [(31, 0, true, .ro)]) by decide)
  obtain ⟨hn, hf⟩ := Prod.mk.inj he
  have hlive : s.liveWord path x = s.ns % 2 ^ 32 := by simp [State.liveWord, hn]
  have hlatch : s.readLatch path x = s.latchTime path := by simp [State.readLatch, hn]
  rw [readVia_whole s path 0x100000 x rfl hx hf, hlive, hlatch, Nat.mod_mod]

/-- Settles O29: the edge's work in its order, and each row's condition in the statement's words. -/
theorem timeCommands : Obligations.TimeCommands := by
  refine ⟨fun s x => ?_, fun s => ⟨next_finish_congr s (ppsEdge_eq s), ?_, ?_, ?_, ?_⟩,
    fun s path => ⟨?_, ?_, ?_, fun k w => ?_⟩⟩
  · intro passed counted core aux fixed err
    have hcounted : s.tickTime = counted := tickTime_eq s
    have hcore : (if s.tickTime.coreRuns then s.tickTime.coreTick x else s.tickTime) = core := by rw [hcounted]; rfl
    have herr : core.auxTick x = err := auxTick_eq core x
    refine next_finish_congr s ?_
    rw [mtick_eq]
    simp only [hcore, herr]
  · exact next_finish_congr s (ite_congr rfl (fun _ => refLost_eq _) fun _ => rfl)
  · exact next_finish_congr s (ite_congr rfl (fun _ => refLost_eq _) fun _ => rfl)
  · exact next_finish_congr s (referenceLost_fabric s _ (refLost_eq s))
  · refine next_finish_congr s ?_
    unfold State.holdoverExpired
    simp only [holdoverOver_iff, and_assoc]
  · exact next_finish_congr s (readVia_timeLo s path)
  · exact next_finish_congr s (writeVia_timeSetCtl s path 2 (by decide))
  · exact next_finish_congr s (writeVia_timeSetCtl s path 1 (by decide))
  · exact next_finish_congr s (writeVia_unitGroup s path k w)

end Sys2Proof.Machine
end

section
/-!
PROOF. Packets received, egress and link down (R31, R67, R80, R84, R87, R104, R106, R121, R127, R131, R253).
-/
namespace Sys2Proof.Machine

/-! ### Packets received (R67, R80, R84, R87, R104, R106, R127) -/

/-- A packet that is a plain request of PCI Express is received as any packet, where its port takes it. -/
theorem hostMemory_eq (s : State) (p : Nat) (t : Tlp) : s.hostMemory p t =
    if (match t.op with | .memWrite | .memRead | .atomic | .npWrite => true | _ => false) = true ∧
      (s.role p = .host ∨ s.role p = .analysis) ∧ !t.locked then s.arriveAt p t else s := by
  unfold State.hostMemory
  cases t.op <;> simp

theorem devicePortRequest_eq (s : State) (p : Nat) (t : Tlp) : s.devicePortRequest p t =
    if (match t.op with | .memWrite | .memRead | .atomic | .npWrite => true | _ => false) = true ∧
      (s.role p = .device ∨ s.role p = .analysis) then s.arriveAt p t else s := by
  unfold State.devicePortRequest
  cases t.op <;> simp

/-- What a nullified packet's header tells, by the role of its port. -/
theorem rx_of_role_eq (r : Role) (p : Nat) (v : VoidRx) :
    (let fab := r == .fabric
    ({ port := p, tlp := v.tlp, srcFid := if fab then v.src.val else 0, dstFid := if fab then v.dst.map Fin.val else none,
       ttl := if fab then v.ttl.val else 0, tc := if fab then v.tc.val else v.tlp.tc.val,
       ld := if fab then v.ld.map Fin.val else none } : Rx)) =
    if r = .fabric then
      { port := p, tlp := v.tlp, srcFid := v.src.val, dstFid := v.dst.map Fin.val, ttl := v.ttl.val, tc := v.tc.val,
        ld := v.ld.map Fin.val }
    else { port := p, tlp := v.tlp, srcFid := 0, dstFid := none, ttl := 0, tc := v.tlp.tc.val, ld := none } := by
  cases r <;> rfl

/-- The mark goes on to the egress ports that were sending the packet. -/
theorem voidRx_eq (s : State) (x : Rx) (sent : List (Fin 64 × Nat)) :
    s.voidRx x (fun s q => ((sent.find? (fun y => y.1.val == q)).map (·.2), s)) =
      (s.each (s.cutThrough x) (fun w y => match sent.find? (fun z => z.1.val == y.1) with
        | some z => w.nullify y.1 y.2.1 y.2.2 z.2
        | none => w)).observedBy { x with tlp := { x.tlp with ecrc := .bad } } id := by
  unfold State.voidRx
  refine congrArg (fun f => (s.each (s.cutThrough x) f).observedBy _ id) (funext fun w => funext fun y => ?_)
  dsimp only
  cases sent.find? (fun z => z.1.val == y.1) <;> rfl

theorem nullifiedRx_eq (s : State) (p : Nat) (part : Option VoidRx) : s.nullifiedRx p part =
    if !s.portActive p then s
    else
      let u := s.countPort p 11
      match part with
      | none => u
      | some v =>
        let x : Rx := if u.role p = .fabric then
            { port := p, tlp := v.tlp, srcFid := v.src.val, dstFid := v.dst.map Fin.val, ttl := v.ttl.val, tc := v.tc.val,
              ld := v.ld.map Fin.val }
          else { port := p, tlp := v.tlp, srcFid := 0, dstFid := none, ttl := 0, tc := v.tlp.tc.val, ld := none }
        (u.each (u.cutThrough x) (fun w y => match v.sent.find? (fun z => z.1.val == y.1) with
          | some z => w.nullify y.1 y.2.1 y.2.2 z.2
          | none => w)).observedBy { x with tlp := { x.tlp with ecrc := .bad } } id := by
  unfold State.nullifiedRx
  refine ite_congr rfl (fun _ => rfl) fun _ => ?_
  cases part with
  | none => rfl
  | some v =>
    dsimp only
    rw [← rx_of_role_eq, ← voidRx_eq]

/-- A packet that a port received, by the mode and the role of the port (R31, R67, R87, R104, R327, R340). -/
theorem arriveIn_eq (u : State) (y : Rx) : u.arriveIn y =
    if u.glb.mode = .endpaper then u.endpaperRx y
    else if u.glb.mode = .test ∧ u.role y.port ≠ .analysis then
      (if y.tlp.op.response then u.countPort y.port 12 else u.observedBy y (fun v => v.refuse (.port y.port) y.srcFid y.tlp))
    else match u.role y.port with
      | .host => (match u.hierOn y.port with
        | none => u.bareRx y
        | some h =>
          let v := if y.tlp.op = .memRead ∧ y.tlp.len ≠ 0 then u.noteRead h y.tlp.addr.toNat y.tlp.len else u
          if y.tlp.op.response || y.tlp.op.config || (v.privAccess h y.tlp).isSome then v.receive y
          else if v.glb.mode = .quiesced then v.quiescedRefuse y
          else if v.contained .hierarchy h then v.containedRefuse h y
          else v.receiveParts y)
      | .device =>
        if y.tlp.op.response then u.receive y
        else if y.tlp.op.config then u.refuse (.port y.port) 0 y.tlp
        else if u.glb.mode = .quiesced then u.quiescedRefuse y
        else u.receiveParts y
      | .fabric => u.fabricRx y
      | .analysis =>
        if y.tlp.op.response then u.countPort y.port 12
        else u.observedBy y (fun v => (v.countPort y.port 28).refuse (.port y.port) 0 y.tlp)
      | .none => u := by
  unfold State.arriveIn State.testRx State.hostRx State.deviceRx State.analysisRx
  rfl

/-- Settles O48: a row receives its packet where its port takes it, and a packet received goes by mode and role. -/
theorem packetArrivals : Obligations.PacketArrivals := by
  intro s p t
  refine ⟨next_finish_congr s (hostMemory_eq s p t), rfl, fun _ _ => rfl, rfl,
    next_finish_congr s (devicePortRequest_eq s p t), rfl, rfl, rfl, rfl,
    fun part => next_finish_congr s (nullifiedRx_eq s p part), fun _ _ _ _ _ => rfl, fun x hx => ?_⟩
  rw [← hx]
  exact ite_congr rfl (fun _ => rfl) fun _ => arriveIn_eq _ _

/-! ### Egress and link down (R31, R121, R131, R156, R208, R253) -/

/-- The modes in which a fabric port carries data packets (R31, R328). -/
theorem dataOn_eq_false_iff (s : State) :
    s.dataOn = false ↔ s.glb.mode = .test ∨ (s.glb.mode = .quiesced ∧ s.glb.quiesceCause ≠ 3) := by
  unfold State.dataOn
  cases s.glb.mode <;> simp

/-- Where the egress link of a port sends nothing: it is not active, or a fabric port without data packets. -/
theorem egress_blocked_iff (s : State) (p : Nat) :
    (!s.portActive p || (s.role p == .fabric && !s.dataOn)) = true ↔
      !s.portActive p ∨ (s.role p = .fabric ∧ (s.glb.mode = .test ∨ (s.glb.mode = .quiesced ∧ s.glb.quiesceCause ≠ 3))) := by
  rw [← dataOn_eq_false_iff]
  simp

theorem linkLeft_eq (s : State) (p : Nat) : s.linkLeft p =
    if (s.port p).sup = .up ∨ (s.port p).sup = .held then
      (let raised := s.raisePort p 5 { raise0 with cause := .surpriseDown }
      if !(s.port p).dllActive then s else if raised.role p = .device then raised.linkLog p .surpriseDown else raised).portDetect p
    else s := by
  unfold State.linkLeft
  cases (s.port p).dllActive <;> rfl

/-- Settles O51: the arbiter sends unless the egress link is blocked, and a link that leaves has its loss raised before DETECT. -/
theorem egressAndLinkDown : Obligations.EgressAndLinkDown := by
  intro s
  refine ⟨fun p => ⟨fun starved choice fate => ?_, rfl, next_finish_congr s (linkLeft_eq s p), rfl, rfl⟩, fun _ _ => rfl⟩
  exact next_finish_congr s (ite_congr (propext (egress_blocked_iff s p)) (fun _ => rfl) fun _ => rfl)

end Sys2Proof.Machine
end

section
/-!
PROOF. What 02_spine_time_and_binding says of latched time and of bindings (R36, R45 to R50, R52).
-/
namespace Sys2Proof.Machine

/-! ### Latched time (R36) -/

/-- Reads of both processors through the bridge latch into the one set of the firmware. -/
theorem latchTime_latch_fw (s : State) (j k : Fin 2) :
    (s.latchTime (.fw j)).latch (.fw k) = { s.spine.latchFw with nsHi := s.ns / 2 ^ 32 % 2 ^ 32, frac := s.frac } := rfl

/-- Refutes O30: the latch sets are two (R36), but the paths are three. A read by processor 0, at 2^-16 ns after the reset, latches
FRAC = 1 for processor 1 too. -/
theorem not_latchedTimeIsCoherent : ¬ Obligations.LatchedTimeIsCoherent := by
  intro h
  let s : State := { State.reset with spine := { spine0 with t40 := 2 ^ 24 } }
  obtain ⟨-, -, hother, -⟩ := h s (.fw 0) (.fw 1) (by decide)
  have hfrac : s.frac = (s.latch (.fw 1)).frac :=
    congrArg LatchSet.frac ((latchTime_latch_fw s 0 1).symm.trans (hother (by decide)))
  exact absurd hfrac (by decide)

/-! ### Tables with rising keys -/

theorem tfind_cons {α : Type} (a : Nat × α) (t : Tbl α) (k : Nat) :
    tfind (a :: t) k = if k = a.1 then some a.2 else if k < a.1 then none else tfind t k := rfl

/-- A key below every listed one is not listed. -/
theorem tfind_eq_none_of_lt {α : Type} (t : Tbl α) (k : Nat) (h : ∀ x ∈ t, k < x.1) : tfind t k = none := by
  cases t with
  | nil => rfl
  | cons a t =>
    have hk : k < a.1 := h a List.mem_cons_self
    rw [tfind_cons, if_neg (by omega), if_pos hk]

/-- Pairs taken away by their keys: a key that stays is found as before, where keys rise. -/
theorem tfind_filter_key {α : Type} (g : Nat → Bool) (k : Nat) (t : Tbl α) (h : t.Pairwise (fun x y => x.1 < y.1)) :
    tfind (t.filter (fun x => g x.1)) k = if g k then tfind t k else none := by
  induction t with
  | nil => simp [tfind]
  | cons a t ih =>
    obtain ⟨ha, ht⟩ := List.pairwise_cons.1 h
    have hlow (hlt : k < a.1) : tfind t k = none := tfind_eq_none_of_lt t k fun x hx => Nat.lt_trans hlt (ha x hx)
    rw [List.filter_cons, tfind_cons]
    by_cases heq : k = a.1
    · cases hg : g k <;> simp [← heq, hg, ih ht, tfind_cons]
    · by_cases hlt : k < a.1
      · cases g a.1 <;> simp [heq, hlt, ih ht, hlow hlt, tfind_cons]
      · cases g a.1 <;> simp [heq, hlt, ih ht, tfind_cons]

/-- Pairs with rising keys put into a table: they are found, and elsewhere what stood there. -/
theorem tfind_foldl_tins {α : Type} (k : Nat) (l : Tbl α) (h : l.Pairwise (fun x y => x.1 < y.1)) :
    ∀ t : Tbl α, tfind (l.foldl (fun t x => tins t x.1 x.2) t) k = (tfind l k).or (tfind t k) := by
  induction l with
  | nil => intro t; rfl
  | cons a l ih =>
    obtain ⟨ha, hl⟩ := List.pairwise_cons.1 h
    intro t
    rw [List.foldl_cons, ih hl, tfind_cons]
    by_cases heq : k = a.1
    · have hnone : tfind l k = none := tfind_eq_none_of_lt l k (heq ▸ ha)
      rw [hnone, if_pos heq, heq, tfind_tins_same]
      rfl
    · rw [tfind_tins_other t _ _ _ heq, if_neg heq]
      by_cases hlt : k < a.1
      · have hnone : tfind l k = none := tfind_eq_none_of_lt l k fun x hx => Nat.lt_trans hlt (ha x hx)
        rw [if_pos hlt, hnone]
      · rw [if_neg hlt]

/-! ### Words of units (R45) -/

/-- The word at an offset belongs to one of some units. -/
def inUnits (us : List Nat) (off : Nat) : Bool := match unitAt off with | some u => us.contains u | none => false

theorem inUnits_of_mem {us : List Nat} {off u : Nat} (hu : unitAt off = some u) (hm : u ∈ us) : inUnits us off = true := by
  simp [inUnits, hu, hm]

theorem inUnits_of_not_mem {us : List Nat} {off : Nat} (h : ∀ u, unitAt off = some u → u ∉ us) : inUnits us off = false := by
  unfold inUnits
  cases hu : unitAt off with
  | none => rfl
  | some u => simpa using h u hu

theorem unitWords_eq (us : List Nat) (t : Tbl Word) : unitWords us t = t.filter (fun x => inUnits us x.1) := rfl

theorem replaceUnits_eq (us : List Nat) (into src : Tbl Word) : replaceUnits us into src =
    (unitWords us src).foldl (fun t x => tins t x.1 x.2) (into.filter (fun x => !inUnits us x.1)) := by
  unfold replaceUnits inUnits
  refine congrArg (fun f => (unitWords us src).foldl _ (into.filter f)) (funext fun x => ?_)
  cases unitAt x.1 <;> rfl

/-- A quire whose words of some units were replaced reads there as the other quire, and elsewhere as before. -/
theorem tfind_replaceUnits (us : List Nat) (into src : Tbl Word) (off : Nat) (hinto : into.Pairwise (fun x y => x.1 < y.1))
    (hsrc : src.Pairwise (fun x y => x.1 < y.1)) :
    tfind (replaceUnits us into src) off = if inUnits us off then tfind src off else tfind into off := by
  rw [replaceUnits_eq, unitWords_eq, tfind_foldl_tins off _ (hsrc.filter _), tfind_filter_key (inUnits us) off src hsrc,
    tfind_filter_key (fun o => !inUnits us o) off into hinto]
  cases inUnits us off <;> simp

/-! ### E0 (R48) -/

/-- The bindings of an instant that fire: gated, with no bad shadow word. -/
def State.firing (s : State) (t : Nat) : List BindReq := s.regs.binds.filter (fun b => b.t == t && b.stage == .gated && !b.badShadow)

/-- The units of the groups that bindings of an instant bind when they fire. -/
def State.firingUnits (s : State) (t : Nat) : List Nat := s.unitsOf ((s.firing t).foldl (fun n b => n ||| b.groups) 0)

/-- At E0 the active words of the units bound are replaced by the shadow words; the shadow quire and the fields outside the quires
stay. -/
theorem bindFlip_quires (s : State) (t : Nat) (h : s.firing t ≠ []) :
    (s.bindFlip t).regs.active = replaceUnits (s.firingUnits t) s.regs.active s.regs.shadow ∧
      (s.bindFlip t).regs.shadow = s.regs.shadow ∧ (s.bindFlip t).regs.direct = s.regs.direct := by
  have hgo : (s.firing t).isEmpty = false := by simpa using h
  unfold State.firing at hgo
  unfold State.bindFlip
  simp only [hgo]
  exact ⟨rfl, rfl, rfl⟩

/-- Settles O32: the active quire after the flip is the old one with the words of the units bound replaced by the shadow quire's. -/
theorem bindingFlipsWholeUnits : Obligations.BindingFlipsWholeUnits := by
  intro s t off hactive hshadow go us hgo
  obtain ⟨hflip, hshad, hdir⟩ := bindFlip_quires s t hgo
  have hread : tfind (s.bindFlip t).regs.active off = if inUnits us off then tfind s.regs.shadow off else tfind s.regs.active off := by
    rw [hflip]
    exact tfind_replaceUnits us _ _ off hactive hshadow
  refine ⟨fun u hu hmem => ?_, fun hout => ?_, hshad, hdir⟩
  · rw [inUnits_of_mem hu hmem] at hread
    exact congrArg (·.getD (offReset off)) hread
  · rw [inUnits_of_not_mem hout] at hread
    exact congrArg (·.getD (offReset off)) hread

/-! ### Binding requests (R47, R268) -/

/-- The effect stage of a QUIRE_BIND without WITHDRAW decides the request. -/
theorem cmdEffect_isBind (t : State) (c : Cmd) (h : isBind c = true) :
    t.cmdEffect c = t.quireBind c.origin (qfld (cq c.q 3) 31 0) (cq c.q 4).toNat (qfld (cq c.q 5) 15 0) := by
  obtain ⟨hop, hw⟩ := Bool.and_eq_true_iff.1 h
  obtain ⟨hremote, hcode⟩ := (opIs_iff _ _).1 hop
  unfold State.cmdEffect
  simp [hremote, hcode, beq_iff_eq.1 hw]

/-- The effect stage of a QUIRE_BIND with WITHDRAW = 1 withdraws. -/
theorem cmdEffect_isWithdraw (t : State) (c : Cmd) (h : isWithdraw c = true) :
    t.cmdEffect c = t.withdraw c.origin (qfld (cq c.q 3) 31 0) (cq c.q 4).toNat (qfld (cq c.q 5) 15 0) := by
  obtain ⟨hop, hw⟩ := Bool.and_eq_true_iff.1 h
  obtain ⟨hremote, hcode⟩ := (opIs_iff _ _).1 hop
  unfold State.cmdEffect
  simp [hremote, hcode, beq_iff_eq.1 hw]

/-- The requests of an instant with a bad shadow word are cancelled one CCLK before their E0, `edges` away, and counted (R48 step 3). -/
theorem bindCancel_eq (s : State) (t edges : Nat) (he : s.edgesToE0 t = edges) : s.bindCancel t =
    (let bad := s.regs.binds.filter (fun b => b.t == t && b.stage == .gated && b.badShadow)
    if bad.isEmpty then s
    else
      let held := s.advance (edges - 1)
      let c := { held with
        spine := { held.spine with parityHold := (held.spine.parityHold + bad.length) % 256 }
        regs := { held.regs with binds := held.regs.binds.filter (fun b => !bad.contains b) } }
      c.applyQueue.each bad (fun s b => s.done b.origin 0x0D)) := by
  subst he
  unfold State.bindCancel
  generalize s.advance (s.edgesToE0 t - 1) = held
  rfl

/-- Settles O31: the two kinds of request by their effect stages, each step of R48 as the model makes it. -/
theorem bindingCommands : Obligations.BindingCommands := by
  refine ⟨fun s => ⟨?_, ?_⟩, fun s t => ⟨?arm, ?gate, ?cancel, ?fire, ⟨?release, ?copyForward⟩, ?complete⟩⟩
  · exact next_finish_congr s (runCmd_effectStage s isBind _ cmdEffect_isBind)
  · exact next_finish_congr s (runCmd_effectStage s isWithdraw _ cmdEffect_isWithdraw)
  case cancel => exact next_finish_congr s (bindCancel_eq s t _ rfl)
  all_goals rfl

end Sys2Proof.Machine
end

section
/-!
PROOF. Brodoth initialisation and the time exchange (R38, R214, R216, R223, R224, R230, R234, R237, R238).
-/
namespace Sys2Proof.Machine

/-! ### LINK flits (R214, R216, R230) -/

/-- What a LINK flit does before its message: on an active link its link slot acts, and its SEQ is checked. -/
def State.linkHead (s : State) (p sq : Nat) (l : LinkSlot) : State :=
  if (s.bfl p).phase = .active then
    let u := s.onSlot p l
    if modSub 4096 sq (u.bfl p).next ≤ 2047 then u.callNak p else u
  else s

theorem linkFlit_eq (s : State) (p sq : Nat) (l : LinkSlot) (f : State → State) : s.linkFlit p sq l f = f (s.linkHead p sq l) := by
  unfold State.linkFlit State.linkHead
  split <;> rfl

/-- A LINK flit's row by what its message does. -/
theorem next_linkFlit (s : State) (p sq : Nat) (l : LinkSlot) (f : State → State) (e : State) (h : f (s.linkHead p sq l) = e) :
    Host.Outcome.next (s.finish (s.linkFlit p sq l f)) = (.next (s.finish e) : Host.Outcome State Fault Refusal) :=
  next_finish_congr s ((linkFlit_eq s p sq l f).trans h)

/-! ### Initialisation (R223, R224) -/

/-- What an init message does by the state of the link that receives it, its version and its kind. -/
theorem bflInit_eq (t : State) (p kind : Nat) (m : InitMsg) (hkind : kind = 1 ∨ kind = 2 ∨ kind = 3) : t.bflInit p kind m =
    (let now := (t.bfl p).phase
    if now = .active then t.push (.bflReset p)
    else if now ≠ .id ∧ now ≠ .credit ∧ now ≠ .done then t
    else if m.version.val ≠ 1 then (t.modBfl p (fun b => { b with discarded := wrapInc 8 b.discarded })).raisePort p 8
    else if kind = 1 then (if now = .id then ((t.bflPartner p m).modBfl p (fun b => { b with phase := .credit })).sendInit p else t)
    else if now ≠ .done then t.bflDone p m
    else if kind = 3 then t.bflActivate p else t) := by
  unfold State.bflInit
  cases (t.bfl p).phase with
  | down | held | active => rfl
  | id | credit | done => rcases hkind with rfl | rfl | rfl <;> rfl

theorem bflInitTimeout_eq (s : State) (p : Nat) : s.bflInitTimeout p =
    (let ph := (s.bfl p).phase
    if ph = .id ∨ ph = .credit ∨ ph = .done then (s.raiseDev 1488 0 { raise0 with port := some p }).push (.bflReset p) else s) := by
  unfold State.bflInitTimeout
  cases (s.bfl p).phase <;> rfl

/-! ### Time exchange (R38, R237, R238) -/

/-- A TIME_REQ: no answer while the link is down, one at once in HELD and ACTIVE, and one that waits before. -/
theorem bflTimeReq_eq (t : State) (p id delay : Nat) : t.bflTimeReq p id delay =
    (let now := (t.bfl p).phase
    if now = .down then t
    else if now = .active ∨ now = .held then
      t.sendLink p (.timeRsp id t.hops t.spine.servo.code (t.spine.t40 / 2 ^ 24) ((t.spine.t40 + delay * t.spine.inc) / 2 ^ 24))
    else t.modBfl p (fun b => { b with timeDue := b.timeDue ++ [(id, t.spine.t40, delay)] })) := by
  have hsend : t.sendTimeRsp p id t.spine.t40 delay =
      t.sendLink p (.timeRsp id t.hops t.spine.servo.code (t.spine.t40 / 2 ^ 24) ((t.spine.t40 + delay * t.spine.inc) / 2 ^ 24)) := by
    unfold State.sendTimeRsp ServoState.code
    cases t.spine.servo <;> rfl
  unfold State.bflTimeReq
  rw [hsend]
  cases (t.bfl p).phase <;> rfl

/-- A TIME_RSP: used for the latest request alone, and within 8 µs of it. -/
theorem bflTimeRsp_eq (t : State) (p id hs t2 t3 : Nat) : t.bflTimeRsp p id hs t2 t3 =
    (match (t.bfl p).req with
    | none => t
    | some t1 =>
      let t4 := t.spine.t40 / 2 ^ 24
      if id = (t.bfl p).reqId ∧ t4 ≤ t1 + 8000 * 65536 ∧ (t.bfl p).phase = .active then
        let rt : Int := (Int.ofNat t4 - Int.ofNat t1) - (Int.ofNat t3 - Int.ofNat t2)
        (t.modBfl p (fun b => { b with req := none, rtt := min ((rt.toNat + 65535) / 65536) 0xFFF })).push
          (.timeRsp p t1 t2 t3 t4 (bitsOf hs 3 0))
      else t) := by
  unfold State.bflTimeRsp
  dsimp only
  cases (t.bfl p).req <;> rfl

/-- Settles O56: a LINK flit acts by its slot and its SEQ, and its message by the state of the link after that. -/
theorem brodothInitialisation : Obligations.BrodothInitialisation := by
  intro s p sq l
  refine ⟨fun m => ⟨?_, ?_, ?_⟩, ?_, fun i delay => ?_, fun i hs t2 t3 => ?_⟩
  · exact next_linkFlit s p.val sq.val l _ _ (bflInit_eq _ p.val 1 m (by decide))
  · exact next_linkFlit s p.val sq.val l _ _ (bflInit_eq _ p.val 2 m (by decide))
  · exact next_linkFlit s p.val sq.val l _ _ (bflInit_eq _ p.val 3 m (by decide))
  · exact next_finish_congr s (bflInitTimeout_eq s p.val)
  · exact next_linkFlit s p.val sq.val l _ _ (bflTimeReq_eq _ p.val i.val delay)
  · exact next_linkFlit s p.val sq.val l _ _ (bflTimeRsp_eq _ p.val i.val hs.val t2.toNat t3.toNat)

end Sys2Proof.Machine
end

section
/-!
PROOF. Host hierarchies: configuration space, resets and the timers of bookmarks (R65 to R67, R72 to R82, R299 to R302).
-/
namespace Sys2Proof.Machine

/-! ### Configuration writes (R66 to R68) -/

/-- Taking a mask's bits off a number clears those bits and keeps the others: no bit is borrowed. -/
theorem testBit_sub_and (i : Nat) : ∀ n m : Nat, (n - (n &&& m)).testBit i = (n.testBit i && !m.testBit i) := by
  induction i with
  | zero =>
    intro n m
    have hle : n &&& m ≤ n := Nat.and_le_left
    have hlow : (n &&& m) % 2 = 1 ↔ n % 2 = 1 ∧ m % 2 = 1 := Nat.and_mod_two_eq_one
    have hsub : (n - (n &&& m)) % 2 = 1 ↔ n % 2 = 1 ∧ ¬ m % 2 = 1 := by omega
    simp only [Nat.testBit_zero, hsub, Bool.decide_and, decide_not]
  | succ i ih =>
    intro n m
    have hlow : (n &&& m) % 2 = 1 ↔ n % 2 = 1 ∧ m % 2 = 1 := Nat.and_mod_two_eq_one
    have hdiv : (n &&& m) / 2 = n / 2 &&& m / 2 := Nat.and_div_two
    have hhalf : (n - (n &&& m)) / 2 = n / 2 - (n / 2 &&& m / 2) := by omega
    simp only [Nat.testBit_succ, hhalf, ih]

/-- A byte enable selects the eight bits of its byte. -/
theorem testBit_beMask (be i : Nat) (h : i < 32) : (beMask be).testBit i = bitOf be (i / 8) := by
  have hbytes : ∀ (b0 b1 b2 b3 : Bool) (i : Fin 32),
      (place (if b0 then 0xFF else 0) 7 0 + place (if b1 then 0xFF else 0) 15 8 + place (if b2 then 0xFF else 0) 23 16
        + place (if b3 then 0xFF else 0) 31 24).testBit i.val = [b0, b1, b2, b3][i.val / 8]! := by decide
  have hbyte : i / 8 = 0 ∨ i / 8 = 1 ∨ i / 8 = 2 ∨ i / 8 = 3 := by omega
  refine (hbytes (bitOf be 0) (bitOf be 1) (bitOf be 2) (bitOf be 3) ⟨i, h⟩).trans ?_
  rcases hbyte with hk | hk | hk | hk <;> simp only [hk] <;> rfl

/-- A bit of a merged word: a writable bit in an enabled byte takes the bit written, another keeps its own, and a write-one-to-clear
bit in an enabled byte clears where 1 is written. -/
theorem bitOf_cfgMerge (k : FnKind) (d old val be i : Nat) (hd : d ≠ 0x11) (hi : i < 32) :
    bitOf (cfgMerge k d old val be) i =
      ((if bitOf (cfgWritable k d) i && bitOf be (i / 8) then bitOf val i else bitOf old i)
        && !(bitOf (cfgRw1c k d) i && bitOf be (i / 8) && bitOf val i)) := by
  have hmask : (beMask be).testBit i = be.testBit (i / 8) := testBit_beMask be i hi
  unfold cfgMerge bitOf
  rw [if_neg (fun h => hd h.1)]
  simp only [testBit_sub_and, Nat.testBit_or, Nat.testBit_and, hmask]
  cases hw : (cfgWritable k d).testBit i && be.testBit (i / 8) <;> simp

/-- The states D1 and D2 are put back to the state before the write (R68). -/
theorem cfgMerge_powerState (k : FnKind) (old val be : Nat) : cfgMerge k 0x11 old val be % 4 = 0 ∨
    cfgMerge k 0x11 old val be % 4 = 3 ∨ cfgMerge k 0x11 old val be % 4 = old % 4 := by
  unfold cfgMerge
  dsimp only
  split <;> omega

/-- Settles O46: bit by bit for the words that merge plainly, and by the power state for the one that does not. -/
theorem configWriteMask : Obligations.ConfigWriteMask := by
  intro k d old val be i hi
  refine ⟨fun hd => bitOf_cfgMerge k d old val be i hd hi, fun hold => ?_⟩
  rcases cfgMerge_powerState k old val be with h | h | h
  · exact .inl h
  · exact .inr h
  · rwa [h]

/-- Settles O45: each row is `hostBit`, `hostClear` or `moverBit` at its word and bit, which are the statement's one-byte writes. -/
theorem hostConfigurationRows : Obligations.HostConfigurationRows := by
  intro s h
  refine ⟨fun p t => rfl, fun f on => rfl, fun v => rfl, fun v on => rfl, fun v reason => rfl, fun v => rfl, fun x => ?_,
    fun f => rfl, rfl⟩
  cases x with
  | host g f => exact ⟨rfl, rfl⟩
  | mover f => exact ⟨rfl, rfl⟩

/-! ### Resets and the squash of a function (R73, R75, R300 to R302) -/

/-- A function that ends forgets its configuration words if it is a virtual one; function 0 keeps them. -/
theorem ite_dmvForget (s : State) (f : Nat) (ends : Bool) : (if ends then s.dmvForget f else s) =
    if ends ∧ f ≠ 0 then s.modDmv (fun d => { d with cfg := d.cfg.filter (fun w => w.1 / 1024 != f) }) else s := by
  unfold State.dmvForget
  cases ends
  · simp
  · by_cases hf : f = 0 <;> simp [hf]

/-- Settles O47: the rows of resets and drains by their conditions, and the end of a squash by what an ending function forgets. -/
theorem hostResetsAndSquash : Obligations.HostResetsAndSquash := by
  intro s
  refine ⟨fun _ _ _ => rfl, fun p => ⟨rfl, rfl, rfl⟩, fun h => rfl, fun f => ⟨rfl, ?_, rfl, rfl⟩⟩
  refine next_finish_congr s (ite_congr rfl (fun _ => rfl) fun _ => ?_)
  dsimp only
  rw [ite_dmvForget]

/-! ### Timers of bookmarks, locks and prefetched data (R77 to R82, R151, R152) -/

/-- Settles O50: each timer's row looks its subject up and acts where it still waits, as the statement says. -/
theorem bookmarkTimers : Obligations.BookmarkTimers := by
  intro s
  exact ⟨fun b => ⟨rfl, rfl, rfl, rfl⟩, fun p => rfl, fun h addr => rfl⟩

end Sys2Proof.Machine
end

section
/-!
PROOF. The check code of the tables and the table entries (R92, R95, R96, R105, R425).
-/
namespace Sys2Proof.Machine

/-! ### The Hamming bits (R425) -/

/-- The XOR of the codeword positions whose data bit is 1: a position comes with the number of its bit. -/
def onesXor (l : List (Nat × Nat)) (n : Nat) : Nat := ((l.filter (fun x => bitOf n x.2)).map (·.1)).foldl (fun a p => a ^^^ p) 0

theorem onesXor_nil (n : Nat) : onesXor [] n = 0 := rfl

theorem onesXor_cons (x : Nat × Nat) (l : List (Nat × Nat)) (n : Nat) :
    onesXor (x :: l) n = (if bitOf n x.2 then x.1 else 0) ^^^ onesXor l n := by
  unfold onesXor
  cases hb : bitOf n x.2
  · simp [hb]
  · have hfold : ∀ (m : List Nat) (a : Nat), m.foldl (fun a p => a ^^^ p) a = a ^^^ m.foldl (fun a p => a ^^^ p) 0 := fun m a => by
      simpa using (List.foldl_assoc (op := fun a p : Nat => a ^^^ p) (l := m) (a₁ := a) (a₂ := 0))
    rw [List.filter_cons_of_pos (by simpa using hb), List.map_cons, List.foldl_cons, Nat.zero_xor, hfold]
    rfl

/-- The XOR of positions is linear in the data. -/
theorem onesXor_xor (l : List (Nat × Nat)) (n m : Nat) : onesXor l (n ^^^ m) = onesXor l n ^^^ onesXor l m := by
  induction l with
  | nil => exact (Nat.xor_self 0).symm
  | cons x l ih =>
    have hbit : (if bitOf (n ^^^ m) x.2 then x.1 else 0) = (if bitOf n x.2 then x.1 else 0) ^^^ (if bitOf m x.2 then x.1 else 0) := by
      unfold bitOf
      rw [Nat.testBit_xor]
      cases n.testBit x.2 <;> cases m.testBit x.2 <;> simp
    rw [onesXor_cons, onesXor_cons, onesXor_cons, ih, hbit]
    ac_rfl

/-- Data with one bit set has the position of that bit, counted from the number of the first. -/
theorem onesXor_two_pow (l : List Nat) (j k : Nat) : onesXor (l.zipIdx j) (2 ^ k) = if j ≤ k then l.getD (k - j) 0 else 0 := by
  induction l generalizing j with
  | nil => simp [onesXor_nil]
  | cons p l ih =>
    have hbit : bitOf (2 ^ k) j = true ↔ k = j := by
      unfold bitOf
      rw [Nat.testBit_two_pow, decide_eq_true_eq]
    rw [List.zipIdx_cons, onesXor_cons, ih]
    simp only [hbit]
    rcases Nat.lt_trichotomy k j with hlt | rfl | hgt
    · rw [if_neg (show ¬ k = j by omega), if_neg (show ¬ j + 1 ≤ k by omega), if_neg (show ¬ j ≤ k by omega), Nat.xor_self]
    · rw [if_pos rfl, if_neg (show ¬ k + 1 ≤ k by omega), if_pos (Nat.le_refl k), Nat.sub_self, List.getD_cons_zero, Nat.xor_zero]
    · have hsub : k - j = (k - (j + 1)) + 1 := by omega
      rw [if_neg (show ¬ k = j by omega), if_pos (show j + 1 ≤ k by omega), if_pos (show j ≤ k by omega), hsub,
        List.getD_cons_succ, Nat.zero_xor]

/-- The low seven bits of CHECK are the XOR of the positions of the data bits that are 1. -/
theorem checkByte_mod (k n : Nat) : checkByte k n % 128 = onesXor (dataPositions k).zipIdx n % 128 := by
  unfold checkByte onesXor
  rw [Nat.add_mul_mod_self_left, Nat.mod_mod]

theorem checkByte_lt (k n : Nat) : checkByte k n < 256 := by
  unfold checkByte
  dsimp only
  omega

set_option maxRecDepth 20000 in
/-- Each of the 120 data bits that an entry has at most stands at a position that the seven Hamming bits number. -/
theorem dataPositions_hamming : ∀ p ∈ dataPositions 120, p % 128 ≠ 0 := by decide

set_option maxRecDepth 20000 in
theorem dataPositions_length_max : (dataPositions 120).length = 120 := by decide

theorem dataPositions_take (k : Nat) (h : k ≤ 120) : dataPositions k = (dataPositions 120).take k := by
  unfold dataPositions
  rw [List.take_take, Nat.min_eq_left h]

theorem dataPositions_length (k : Nat) (h : k ≤ 120) : (dataPositions k).length = k := by
  rw [dataPositions_take k h, List.length_take, dataPositions_length_max, Nat.min_eq_left h]

/-- A number that an XOR with another leaves as it was: the other is 0. -/
theorem eq_zero_of_xor_eq_left (a b : Nat) (h : a ^^^ b = a) : b = 0 := by
  calc b = a ^^^ (a ^^^ b) := by rw [← Nat.xor_assoc, Nat.xor_self, Nat.zero_xor]
    _ = a ^^^ a := by rw [h]
    _ = 0 := Nat.xor_self a

/-- A flip of a data bit changes the Hamming bits by its position, which is not 0. -/
theorem checkByte_flip_ne (w n k : Nat) (hw : w ≤ 120) (hk : k < w) : checkByte w (n ^^^ 2 ^ k) ≠ checkByte w n := by
  intro heq
  have hlen : k < (dataPositions w).length := by rwa [dataPositions_length w hw]
  have hpos : onesXor (dataPositions w).zipIdx (2 ^ k) % 128 ≠ 0 := by
    rw [onesXor_two_pow, if_pos (Nat.zero_le k), Nat.sub_zero, List.getD_eq_getElem?_getD, List.getElem?_eq_getElem hlen, Option.getD_some]
    have hmem : (dataPositions w)[k] ∈ (dataPositions 120).take w := dataPositions_take w hw ▸ List.getElem_mem hlen
    exact dataPositions_hamming _ (List.mem_of_mem_take hmem)
  have hmod : onesXor (dataPositions w).zipIdx n % 128 ^^^ onesXor (dataPositions w).zipIdx (2 ^ k) % 128
      = onesXor (dataPositions w).zipIdx n % 128 := by
    rw [← Nat.xor_mod_two_pow (n := 7), ← onesXor_xor, ← checkByte_mod, ← checkByte_mod, heq]
  exact hpos (eq_zero_of_xor_eq_left _ _ hmod)

/-- Settles O40: the two widths are at most 120 bits. -/
theorem checkByteCatchesSingleFlips : Obligations.CheckByteCatchesSingleFlips :=
  ⟨fun n k _ hk => checkByte_flip_ne 120 n k (by decide) hk, fun n k _ hk => checkByte_flip_ne 56 n k (by decide) hk⟩

/-! ### Entries with their check byte (R92, R95, R105) -/

theorem withCheck_lt (k d : Nat) : withCheck k d < 2 ^ (k + 8) := by
  have hd : d % 2 ^ k < 2 ^ k := Nat.mod_lt _ (Nat.two_pow_pos k)
  have hc : checkByte k (d % 2 ^ k) * 2 ^ k ≤ 255 * 2 ^ k := Nat.mul_le_mul_right _ (Nat.le_of_lt_succ (checkByte_lt k _))
  unfold withCheck
  rw [Nat.pow_add]
  omega

/-- The data of a codeword stands below its CHECK. -/
theorem withCheck_mod (k d : Nat) : withCheck k d % 2 ^ k = d % 2 ^ k := by
  unfold withCheck
  rw [Nat.add_mul_mod_self_right, Nat.mod_mod]

theorem withCheck_div (k d : Nat) : withCheck k d / 2 ^ k = checkByte k (d % 2 ^ k) := by
  unfold withCheck
  rw [Nat.add_mul_div_right _ _ (Nat.two_pow_pos k), Nat.div_eq_of_lt (Nat.mod_lt _ (Nat.two_pow_pos k)), Nat.zero_add]

/-- What the device writes with its CHECK byte is found good. -/
theorem eccOf_withCheck (k d : Nat) : eccOf k (withCheck k d) = .good := by
  unfold eccOf eccJudge
  rw [withCheck_mod, withCheck_div, Nat.mod_eq_of_lt (checkByte_lt k _)]
  simp

theorem eccData_withCheck (k d : Nat) : eccData k (withCheck k d) = d % 2 ^ k := by
  unfold eccData
  rw [eccOf_withCheck]
  exact withCheck_mod k d

/-- A set has no number that was taken out. -/
theorem not_mem_sdel (l : List Nat) (n : Nat) : n ∉ sdel l n := by simp [sdel]

/-- A codeword put into a table is stored whole: the table's words have room for the CHECK byte. -/
theorem toNat_tget_tput_withCheck {w k : Nat} (hw : w = k + 8) (t : Tbl (BitVec w)) (i d : Nat) (h : twf 0 t = true) :
    (tget 0 (tput 0 t i (BitVec.ofNat w (withCheck k d))) i).toNat = withCheck k d := by
  subst hw
  rw [tget_tput_same 0 t i _ h, BitVec.toNat_ofNat, Nat.mod_eq_of_lt (withCheck_lt k d)]

/-- An entry of k bits that is put into a table with its CHECK byte is what a lookup reads. -/
theorem ofNat_eccData_tget_tput {w k : Nat} (hw : w = k + 8) (t : Tbl (BitVec w)) (i : Nat) (e : BitVec w) (h : twf 0 t = true)
    (he : e.toNat < 2 ^ k) : BitVec.ofNat w (eccData k (tget 0 (tput 0 t i (BitVec.ofNat w (withCheck k e.toNat))) i).toNat) = e := by
  rw [toNat_tget_tput_withCheck hw t i e.toNat h, eccData_withCheck, Nat.mod_eq_of_lt he, BitVec.ofNat_toNat, BitVec.setWidth_eq]

theorem setFolio_folio_same (s : State) (i : Nat) (e : BitVec 128) (h : twf 0 s.path.folio = true) (he : e.toNat < 2 ^ 120) :
    (s.setFolio i e).folio i = e := ofNat_eccData_tget_tput rfl s.path.folio i e h he

theorem setFolio_folio_other (s : State) (i j : Nat) (e : BitVec 128) (h : twf 0 s.path.folio = true) (hj : j ≠ i) :
    (s.setFolio i e).folio j = s.folio j :=
  congrArg (fun w : BitVec 128 => BitVec.ofNat 128 (eccData 120 w.toNat)) (tget_tput_other 0 s.path.folio i j _ h hj)

theorem setRoute_route_same (s : State) (f : Nat) (e : Quad) (h : twf 0 s.path.route = true) (he : e.toNat < 2 ^ 56) :
    (s.setRoute f e).route f = e := ofNat_eccData_tget_tput rfl s.path.route f e h he

theorem setRoute_route_other (s : State) (f g : Nat) (e : Quad) (h : twf 0 s.path.route = true) (hg : g ≠ f) :
    (s.setRoute f e).route g = s.route g :=
  congrArg (fun w : Quad => BitVec.ofNat 64 (eccData 56 w.toNat)) (tget_tput_other 0 s.path.route f g _ h hg)

/-- The second word of a codeword of 120 data bits holds CHECK in its highest byte. -/
theorem withCheck_words (d : Nat) (hd : d < 2 ^ 120) : bitsOf (withCheck 120 d) 63 0 = d % 2 ^ 64 ∧
    bitsOf (withCheck 120 d) 127 64 = d / 2 ^ 64 + checkByte 120 d % 256 * 2 ^ 56 := by
  have hc := checkByte_lt 120 d
  unfold withCheck bitsOf
  rw [Nat.mod_eq_of_lt hd, Nat.shiftRight_eq_div_pow, Nat.shiftRight_eq_div_pow]
  omega

/-- A read of an entry that was written shows the device's CHECK (R92, R96). -/
theorem setFolio_folioRead (s : State) (i : Nat) (e : BitVec 128) (h : twf 0 s.path.folio = true) (he : e.toNat < 2 ^ 120) :
    (s.setFolio i e).folioRead i = [BitVec.ofNat 64 (e.toNat % 2 ^ 64),
      BitVec.ofNat 64 (e.toNat / 2 ^ 64 + checkByte 120 e.toNat % 256 * 2 ^ 56)] := by
  have hstored : ((s.setFolio i e).folioStored i).toNat = withCheck 120 e.toNat :=
    toNat_tget_tput_withCheck rfl s.path.folio i e.toNat h
  obtain ⟨hlow, hhigh⟩ := withCheck_words e.toNat he
  unfold State.folioRead efld
  dsimp only
  rw [hstored, hlow, hhigh]

/-- Settles O39: both tables are sparse tables whose codewords read back as their data. -/
theorem tableEntryStored : Obligations.TableEntryStored := by
  intro s i j hfolio hroute hj
  refine ⟨fun e he => ?_, fun e he => ?_⟩
  · exact ⟨setFolio_folio_same s i e hfolio he, setFolio_folio_other s i j e hfolio hj, not_mem_sdel _ i,
      setFolio_folioRead s i e hfolio he⟩
  · exact ⟨setRoute_route_same s i e hroute he, setRoute_route_other s i j e hroute hj, not_mem_sdel _ i⟩

end Sys2Proof.Machine
end

section
/-!
PROOF. Ring commands at their effect stages, and the fences of table commands (R92, R96, R99 to R102, R108, R170, R269 to R276, R329).
-/
namespace Sys2Proof.Machine

/-! ### Effect stages by opcode (R269, R271) -/

/-- A ring command's row is the effect stage of its kind. -/
theorem next_runCmd (s : State) (k : Cmd → Bool) (e : State → Cmd → State) (h : ∀ t c, k c = true → t.cmdEffect c = e t c) :
    Host.Outcome.next (s.finish (s.runCmd k)) = (.next (s.finish (s.effectStage k e)) : Host.Outcome State Fault Refusal) :=
  next_finish_congr s (runCmd_effectStage s k e h)

/-- The endpoint of a command's ring has Bus Master Enable 0 (R278). -/
def State.masterOff (s : State) : Origin → Bool
  | .ring r _ _ => !s.ringOn r
  | _ => false

section opcodes
variable (t : State) (c : Cmd)

theorem cmdEffect_nop (h : opIs 0x00 c = true) : t.cmdEffect c = t.done c.origin 0 := by
  obtain ⟨hlocal, hop⟩ := (opIs_iff _ _).1 h
  simp [State.cmdEffect, hlocal, hop]

theorem cmdEffect_fence (h : opIs 0x01 c = true) :
    t.cmdEffect c = match t.fenceDue c.origin.ringOf with | some _ => t.done c.origin 0 | none => t := by
  obtain ⟨hlocal, hop⟩ := (opIs_iff _ _).1 h
  cases hdue : t.fenceDue c.origin.ringOf <;> simp [State.cmdEffect, hlocal, hop, hdue]

theorem cmdEffect_quireStage (h : opIs 0x10 c = true) : t.cmdEffect c = t.stagePairsGo c.origin (stagePairs c.q c.data) 0 [] := by
  obtain ⟨hlocal, hop⟩ := (opIs_iff _ _).1 h
  simp [State.cmdEffect, hlocal, hop]

theorem cmdEffect_folioWrite (h : opIs 0x20 c = true) : t.cmdEffect c = t.folioWrite c.origin c.q c.data := by
  obtain ⟨hlocal, hop⟩ := (opIs_iff _ _).1 h
  simp [State.cmdEffect, hlocal, hop]

theorem cmdEffect_folioRead (h : opIs 0x21 c = true) : t.cmdEffect c =
    if t.masterOff c.origin then t.done c.origin 0x26 else t.folioReadCmd c.origin c.q := by
  obtain ⟨hlocal, hop⟩ := (opIs_iff _ _).1 h
  simp only [State.cmdEffect, hlocal, hop]
  rfl

theorem cmdEffect_routeWrite (h : opIs 0x22 c = true) : t.cmdEffect c = t.routeWrite c.origin c.q := by
  obtain ⟨hlocal, hop⟩ := (opIs_iff _ _).1 h
  simp [State.cmdEffect, hlocal, hop]

theorem cmdEffect_gather (h : opIs 0x23 c = true) : t.cmdEffect c = t.gatherCmd c.origin c.q c.data := by
  obtain ⟨hlocal, hop⟩ := (opIs_iff _ _).1 h
  simp [State.cmdEffect, hlocal, hop]

theorem cmdEffect_ledgerRead (h : opIs 0x41 c = true) : t.cmdEffect c =
    if t.masterOff c.origin then t.done c.origin 0x26 else t.ledgerReadCmd c.origin c.q := by
  obtain ⟨hlocal, hop⟩ := (opIs_iff _ _).1 h
  simp only [State.cmdEffect, hlocal, hop]
  rfl

theorem cmdEffect_ledgerClear (h : opIs 0x42 c = true) : t.cmdEffect c = t.ledgerClearCmd c.origin c.q := by
  obtain ⟨hlocal, hop⟩ := (opIs_iff _ _).1 h
  simp [State.cmdEffect, hlocal, hop]

/-- A command for another device is sent where this one is ANCHORED (R272). -/
theorem cmdEffect_remote (h : c.isRemote = true) :
    t.cmdEffect c = if t.fabric.st = .anchored then t.remoteSend c.origin c.q else t.done c.origin 0x70 := by
  simp [State.cmdEffect, h]

end opcodes

/-! ### GATHER_WRITE and its halves (R161, R276) -/

/-- An inline GATHER_WRITE with PART 0 stages its words for its ring. -/
theorem cmdEffect_isHalf (t : State) (c : Cmd) (h : isHalf c = true) : t.cmdEffect c =
    (t.modRing c.origin.ringOf (fun x => { x with staged := some ⟨qfld (cq c.q 3) 11 0, (c.q.drop 4).take 4⟩ })).done c.origin 0 := by
  obtain ⟨hopInline, hpart⟩ := Bool.and_eq_true_iff.1 h
  obtain ⟨hop, hinline⟩ := Bool.and_eq_true_iff.1 hopInline
  rw [cmdEffect_gather t c hop]
  unfold State.gatherCmd
  simp [hinline, beq_iff_eq.1 hpart, State.setHalf]

/-- Another GATHER_WRITE writes an entry: a whole one, or its second half after the first of the same gathering. -/
theorem cmdEffect_isGather (t : State) (c : Cmd) (h : isGather c = true) : t.cmdEffect c =
    (let g := qfld (cq c.q 3) 11 0
    let cleared := t.modRing c.origin.ringOf (fun x => { x with staged := none })
    if !cInline c.q then t.gatherWrite c.origin g c.data
    else match (t.ring c.origin.ringOf).staged with
      | some h => if h.gather = g then cleared.gatherWrite c.origin g (h.words ++ (c.q.drop 4).take 4) else cleared.done c.origin 0x21
      | none => t.done c.origin 0x21) := by
  obtain ⟨hop, hhalf⟩ := Bool.and_eq_true_iff.1 h
  rw [cmdEffect_gather t c hop]
  unfold State.gatherCmd
  cases hinline : cInline c.q
  case false => simp
  case true =>
    have hpart : qfld (cq c.q 3) 17 16 ≠ 0 := by simpa [isHalf, hop, hinline] using hhalf
    simp only [hpart, if_false]
    rfl

/-! ### Commands for another device (R272) -/

theorem raiseParity_rings (s : State) (off : Nat) : (s.raiseParity off).rings = s.rings := rfl

/-- A use of words finds bad ones and raises; it does not touch the rings (R55). -/
theorem useWords_rings (s : State) (windows : List Nat) (p h : Option Nat) : (s.useWords windows p h).rings = s.rings := by
  unfold State.useWords State.checkDirect State.checkActive
  exact (each_pres _ State.rings raiseParity_rings _ _).trans (each_pres _ State.rings raiseParity_rings _ _)

/-- The next command for another device leaves the checked ones; whether another waits for a generation slot stays as it is. -/
theorem runRemote_eq (s : State) : s.runRemote =
    match s.rings.checked.find? (fun c => c.isRemote && s.mayWait c) with
    | none => s
    | some c =>
      let u := s.useWords [1, 0xB] none none
      let t : State := { u with rings := { u.rings with checked := u.rings.checked.erase c } }
      if t.fabric.st = .anchored then t.remoteSend c.origin c.q else t.done c.origin 0x70 := by
  unfold State.runRemote State.nextRemote
  cases hc : s.rings.checked.find? (fun c => c.isRemote && s.mayWait c) with
  | none => rfl
  | some c =>
    have hremote : c.isRemote = true := by
      have hfound := List.find?_some hc
      exact (Bool.and_eq_true_iff.1 hfound).1
    have hslot : s.rings.slotWait = (s.useWords [1, 0xB] none none).rings.slotWait := by rw [useWords_rings]
    refine (cmdEffect_remote _ c hremote).trans ?_
    rw [hslot]
    rfl

/-! ### LEDGER_CLEAR (R329) -/

theorem ledgerClear_of_closed (s : State) (r : Nat) (h : (s.record r).isOpen = false) : s.ledgerClear r = (0x61, s) := by
  unfold State.ledgerClear
  simp [h]

/-- While a level cause is present the clear is refused and counted. -/
theorem ledgerClear_of_cause (s : State) (r : Nat) (h : (s.record r).isOpen = true)
    (hcause : (s.record r).srcs.any (s.activeFor (s.record r)) = true) :
    s.ledgerClear r = (0x60, { s with ledger := { s.ledger with
      records := tput noRecord s.ledger.records r { s.record r with refused := min 255 ((s.record r).refused + 1) }
      refused := (s.ledger.refused + 1) % 256 } }) := by
  unfold State.ledgerClear
  simp only [h, hcause]
  rfl

/-- The record is closed, and a contained slot of its port comes back. -/
theorem ledgerClear_of_no_cause (s : State) (r : Nat) (h : (s.record r).isOpen = true)
    (hcause : (s.record r).srcs.any (s.activeFor (s.record r)) = false) :
    s.ledgerClear r = (0,
      (let closed : State := { s with ledger := { s.ledger with
        records := tput noRecord s.ledger.records r { s.record r with isOpen := false } } }
      (if (s.record r).kind = .port then closed.slotUncontain (s.record r).inst else closed).push .recheck)) := by
  unfold State.ledgerClear
  simp only [h, hcause]
  rfl

/-! ### The statements -/

/-- Settles O38: each row is the effect stage of its opcode, and the clear of a record has three ends. -/
theorem ringCommands : Obligations.RingCommands := by
  refine ⟨fun s => ⟨?nop, ?fence, ?quireStage, fun t o p ps kept offs => ⟨rfl, rfl⟩, ?folioRead, ?ledgerRead, ?ledgerClear,
    ?remote, fun seq => rfl⟩, fun s => ⟨?folioWrite, ?routeWrite, ?half, ?gather⟩, fun s r => ⟨?closed, ?cause, ?clear⟩⟩
  case nop => exact next_runCmd s _ _ cmdEffect_nop
  case fence => exact next_runCmd s _ _ cmdEffect_fence
  case quireStage => exact next_runCmd s _ _ cmdEffect_quireStage
  case folioRead => exact next_runCmd s _ _ cmdEffect_folioRead
  case ledgerRead => exact next_runCmd s _ _ cmdEffect_ledgerRead
  case ledgerClear => exact next_runCmd s _ _ cmdEffect_ledgerClear
  case remote => exact next_finish_congr s (runRemote_eq s)
  case folioWrite => exact next_runCmd s _ _ cmdEffect_folioWrite
  case routeWrite => exact next_runCmd s _ _ cmdEffect_routeWrite
  case half => exact next_runCmd s _ _ cmdEffect_isHalf
  case gather => exact next_runCmd s _ _ cmdEffect_isGather
  case closed => exact ledgerClear_of_closed s r
  case cause =>
    intro hopen hcause
    rw [ledgerClear_of_cause s r hopen hcause]
    exact ⟨rfl, rfl⟩
  case clear =>
    intro hopen hcause
    rw [ledgerClear_of_no_cause s r hopen hcause]
    exact ⟨rfl, rfl⟩

/-- Settles O52: each row looks at the fences of its kind, and an expiry looks at its own. -/
theorem fencesAndSlots : Obligations.FencesAndSlots := by
  intro s
  exact ⟨rfl, rfl, fun _ => rfl, fun _ => rfl, rfl⟩

end Sys2Proof.Machine
end

section
/-!
PROOF. The order in which packets leave: passing and the arbiter's choice (R117 to R119, R121).
-/
namespace Sys2Proof.Machine

/-! ### Passing (R118, R119) -/

/-- Two ordering types stand in one table of R118 and R119. -/
def OrdType.sameTable (a b : OrdType) : Bool :=
  [[OrdType.p, .np, .cpl], [.req, .rwd, .birsp], [.ndr, .drs, .bisnp]].any (fun l => l.contains a && l.contains b)

/-- The tables of R118 and R119 say "when blocked". -/
def OrdType.whenBlocked (later older : OrdType) : Bool :=
  [(OrdType.p, OrdType.np), (.cpl, .np), (.birsp, .req), (.birsp, .rwd), (.ndr, .bisnp), (.drs, .bisnp)].contains (later, older)

/-- A head is ready and the tables let it go before all the older heads. -/
def MayGo (older : List HeadState) (h : HeadState) : Prop :=
  h.ready = true ∧ ∀ o ∈ older, h.entry.typ.sameTable o.entry.typ = true → h.entry.typ.whenBlocked o.entry.typ = true ∧ o.blocked = true

theorem passes_eq (later older : OrdType) : passes later older =
    if later.sameTable older then (if later.whenBlocked older then .whenBlocked else .no) else .free := by
  cases later <;> cases older <;> rfl

theorem eligibleOf_cons_of_mayGo {older : List HeadState} {h : HeadState} (t : List HeadState) (hm : MayGo older h) :
    eligibleOf older (h :: t) = some h := by
  refine if_pos ?_
  rw [Bool.and_eq_true, List.all_eq_true]
  refine ⟨hm.1, fun o ho => ?_⟩
  have hpass := hm.2 o ho
  cases hs : h.entry.typ.sameTable o.entry.typ with
  | false => simp [passes_eq, hs]
  | true => simp [passes_eq, hs, hpass hs]

theorem eligibleOf_cons_of_not_mayGo {older : List HeadState} {h : HeadState} (t : List HeadState) (hm : ¬ MayGo older h) :
    eligibleOf older (h :: t) = eligibleOf (older ++ [h]) t := by
  refine if_neg fun hc => hm ?_
  rw [Bool.and_eq_true, List.all_eq_true] at hc
  refine ⟨hc.1, fun o ho hs => ?_⟩
  have hpass := hc.2 o ho
  cases hw : h.entry.typ.whenBlocked o.entry.typ with
  | false => simp [passes_eq, hs, hw] at hpass
  | true => simpa [passes_eq, hs, hw] using hpass

/-- The eligible head is the first that may go before the heads ahead of it. -/
theorem eligibleOf_eq_some {l : List HeadState} {h : HeadState} : ∀ {front : List HeadState}, eligibleOf front l = some h →
    ∃ older later, l = older ++ h :: later ∧ MayGo (front ++ older) h ∧
      ∀ older' h' later', older = older' ++ h' :: later' → ¬ MayGo (front ++ older') h' := by
  induction l with
  | nil => intro _ he; cases he
  | cons a t ih =>
    intro front he
    by_cases hm : MayGo front a
    · rw [eligibleOf_cons_of_mayGo t hm] at he
      cases he
      exact ⟨[], t, rfl, by simpa using hm, by simp⟩
    · rw [eligibleOf_cons_of_not_mayGo t hm] at he
      obtain ⟨older, later, rfl, hgo, hno⟩ := ih he
      refine ⟨a :: older, later, rfl, by simpa using hgo, fun older' h' later' hsplit => ?_⟩
      cases older' with
      | nil =>
        obtain ⟨rfl, -⟩ := List.cons.inj hsplit
        simpa using hm
      | cons b rest =>
        obtain ⟨rfl, hrest⟩ := List.cons.inj hsplit
        simpa using hno rest h' later' hrest

/-! ### The heads of a class and share group (R117, R121 step 1) -/

theorem mem_of_mem_headsOf {e : QEntry} {l : List QEntry} : ∀ {seen : List OrdType}, e ∈ headsOf l seen → e ∈ l := by
  induction l with
  | nil => intro _ h; exact h
  | cons a t ih =>
    intro seen h
    rw [headsOf] at h
    split at h
    · exact List.mem_cons_of_mem _ (ih h)
    · exact (List.mem_cons.1 h).elim (fun ha => ha ▸ List.mem_cons_self) (fun ht => List.mem_cons_of_mem _ (ih ht))

section heads
variable {s : State} {p c g : Nat} {cred : QEntry → Bool}

/-- A head stands in the port's queue, of its class and share group, and one that is ready has egress credit. -/
theorem of_mem_headStates {h : HeadState} (hm : h ∈ s.headStates p cred c g) :
    h.entry ∈ s.queue p ∧ h.entry.tc = c ∧ h.entry.group = g ∧ (h.ready = true → cred h.entry = true) := by
  obtain ⟨e, he, hx⟩ := List.mem_filterMap.1 hm
  obtain ⟨x, -, rfl⟩ := Option.map_eq_some_iff.1 hx
  obtain ⟨hq, hcg⟩ := List.mem_filter.1 (mem_of_mem_headsOf he)
  obtain ⟨hc, hg⟩ : e.tc = c ∧ e.group = g := by simpa using hcg
  refine ⟨hq, hc, hg, fun hready => ?_⟩
  cases hcred : cred e with
  | true => rfl
  | false => simp [hcred] at hready

/-! ### Every choice of the arbiter is an eligible head (R121 steps 2 to 5) -/

theorem eligible_of_mem_groupsOf {x : Nat × HeadState} (hx : x ∈ s.groupsOf p cred c) : s.eligible p cred c x.1 = some x.2 := by
  obtain ⟨g, -, hg⟩ := List.mem_filterMap.1 hx
  obtain ⟨h, he, rfl⟩ := Option.map_eq_some_iff.1 hg
  exact he

/-- A fold that at each element keeps its answer or takes the element answers with an element. -/
theorem mem_of_foldl_keeps_or_takes {α : Type} {f : Option α → α → Option α} (hf : ∀ m a, f m a = m ∨ f m a = some a) {l : List α}
    {z : α} (hz : l.foldl f none = some z) : z ∈ l := by
  refine List.foldlRecOn (motive := fun m => ∀ w, m = some w → w ∈ l) l f (fun _ h => by cases h) (fun m hm a ha w hw => ?_) z hz
  rcases hf m a with hkeeps | htakes
  · exact hm w (hkeeps ▸ hw)
  · cases htakes.symm.trans hw
    exact ha

/-- Whichever group is served, lowest of weight 0 or by deficits, the choice is the eligible head of that group. -/
theorem eligible_of_pickGroup {x : HeadState × Tbl Nat × Nat} (hx : s.pickGroup p cred c = some x) :
    s.eligible p cred c x.2.2 = some x.1 := by
  rw [State.pickGroup] at hx
  split at hx
  next =>
    split at hx
    next z hz =>
      cases hx
      refine eligible_of_mem_groupsOf (mem_of_foldl_keeps_or_takes (fun m a => ?_) hz)
      cases m with
      | none => exact .inr rfl
      | some b =>
        by_cases hlt : a.1 < b.1
        · exact .inr (if_pos hlt)
        · exact .inl (if_neg hlt)
    next => cases hx
  next =>
    dsimp only at hx
    split at hx
    next k own _ =>
      obtain ⟨z, hfind, rfl⟩ := Option.map_eq_some_iff.1 hx
      have hk : z.1 = k := by simpa using List.find?_some hfind
      exact hk ▸ eligible_of_mem_groupsOf (List.mem_filter.1 (List.mem_of_find?_eq_some hfind)).1
    next => cases hx

/-- Whichever class is served, strict or by deficits, the arbiter sends the eligible head of one of its groups. -/
theorem eligible_of_arbitrate {e : QEntry} {y : SwPort} (ha : s.arbitrate p cred = some (e, y)) :
    ∃ c g h, s.eligible p cred c g = some h ∧ h.entry = e := by
  have candidate : ∀ x ∈ (List.range 8).filterMap (fun c => (s.pickGroup p cred c).map (fun x => (c, x))),
      s.eligible p cred x.1 x.2.2.2 = some x.2.1 := by
    intro x hx
    obtain ⟨c, -, hc⟩ := List.mem_filterMap.1 hx
    obtain ⟨z, hz, rfl⟩ := Option.map_eq_some_iff.1 hc
    exact eligible_of_pickGroup hz
  rw [State.arbitrate] at ha
  split at ha
  next c x hlast =>
    cases ha
    exact ⟨_, _, _, candidate _ (List.mem_filter.1 (List.mem_of_getLast? hlast)).1, rfl⟩
  next =>
    split at ha
    next =>
      obtain ⟨z, hfind, hz⟩ := Option.map_eq_some_iff.1 ha
      cases hz
      exact ⟨_, _, _, candidate z (List.mem_of_find?_eq_some hfind), rfl⟩
    next => cases ha

end heads

/-- Settles O53: the arbiter's choice is the eligible head of its class and share group, which is the first of the group's heads
that may go before the older ones. -/
theorem egressKeepsOrder : Obligations.EgressKeepsOrder := by
  intro s p cred e y ha
  obtain ⟨c, g, h, heligible, rfl⟩ := eligible_of_arbitrate ha
  obtain ⟨older, later, hsplit, hmay, hnone⟩ := eligibleOf_eq_some heligible
  obtain ⟨hqueue, rfl, rfl, hcred⟩ := of_mem_headStates (hsplit ▸ List.mem_append_right older List.mem_cons_self)
  exact ⟨hqueue, hcred hmay.1, older, h, later, hsplit, rfl, hmay, hnone⟩

end Sys2Proof.Machine
end

section
/-!
PROOF. What stands in a number after a field is written, and the fields of a folio entry (R7, R92).
-/
namespace Sys2Proof.Machine

/-! ### Bit fields (R7) -/

/-- A number cut at a field: what lies above it, the field, what lies below. -/
theorem eq_above_field_below (n lo w : Nat) : 2 ^ lo * (2 ^ w * (n / 2 ^ lo / 2 ^ w) + n / 2 ^ lo % 2 ^ w) + n % 2 ^ lo = n := by
  rw [Nat.div_add_mod, Nat.div_add_mod]

/-- Writing a field keeps what lies above and below it. -/
theorem setBits_eq (n hi lo v : Nat) : setBits n hi lo v =
    2 ^ lo * (2 ^ (hi + 1 - lo) * (n / 2 ^ lo / 2 ^ (hi + 1 - lo)) + v % 2 ^ (hi + 1 - lo)) + n % 2 ^ lo := by
  have hn := eq_above_field_below n lo (hi + 1 - lo)
  unfold setBits place bitsOf
  rw [Nat.shiftRight_eq_div_pow, Nat.mod_mod, Nat.shiftLeft_eq, Nat.shiftLeft_eq, Nat.mul_comm _ (2 ^ lo), Nat.mul_comm _ (2 ^ lo)]
  rw [Nat.mul_add] at hn ⊢
  omega

theorem testBit_setBits (n hi lo v i : Nat) (h : lo ≤ hi) :
    (setBits n hi lo v).testBit i = if lo ≤ i ∧ i ≤ hi then v.testBit (i - lo) else n.testBit i := by
  have hbelow : n % 2 ^ lo < 2 ^ lo := Nat.mod_lt _ (Nat.two_pow_pos lo)
  have hfield : v % 2 ^ (hi + 1 - lo) < 2 ^ (hi + 1 - lo) := Nat.mod_lt _ (Nat.two_pow_pos _)
  rw [setBits_eq, Nat.testBit_two_pow_mul_add _ hbelow, Nat.testBit_two_pow_mul_add _ hfield, Nat.testBit_mod_two_pow,
    Nat.testBit_mod_two_pow, Nat.testBit_div_two_pow, Nat.testBit_div_two_pow]
  by_cases hlo : i < lo
  · rw [if_pos hlo, if_neg (by omega), decide_eq_true hlo, Bool.true_and]
  by_cases hhi : i ≤ hi
  · rw [if_neg hlo, if_pos (by omega), if_pos (by omega), decide_eq_true (by omega), Bool.true_and]
  · rw [if_neg hlo, if_neg (by omega), if_neg (by omega), show i - lo - (hi + 1 - lo) + (hi + 1 - lo) + lo = i by omega]

theorem testBit_bitsOf (n hi lo i : Nat) : (bitsOf n hi lo).testBit i = (decide (i < hi + 1 - lo) && n.testBit (lo + i)) := by
  rw [bitsOf, Nat.testBit_mod_two_pow, Nat.testBit_shiftRight]

/-- The field that was written holds the value, cut to its width. -/
theorem bitsOf_setBits_same (n hi lo v : Nat) (h : lo ≤ hi) : bitsOf (setBits n hi lo v) hi lo = v % 2 ^ (hi + 1 - lo) := by
  refine Nat.eq_of_testBit_eq fun i => ?_
  rw [testBit_bitsOf, testBit_setBits n hi lo v _ h, Nat.testBit_mod_two_pow]
  by_cases hi' : i < hi + 1 - lo
  · rw [if_pos (by omega), Nat.add_sub_cancel_left]
  · simp [hi']

/-- A field apart from the one written is as it was. -/
theorem bitsOf_setBits_apart (n hi lo v hi' lo' : Nat) (h : lo ≤ hi) (hapart : hi' < lo ∨ hi < lo') :
    bitsOf (setBits n hi lo v) hi' lo' = bitsOf n hi' lo' := by
  refine Nat.eq_of_testBit_eq fun i => ?_
  rw [testBit_bitsOf, testBit_bitsOf, testBit_setBits n hi lo v _ h]
  by_cases hi : i < hi' + 1 - lo'
  · rw [if_neg (by omega)]
  · simp [hi]

/-- A field below bit `k` is the same in what is left modulo 2^k. -/
theorem bitsOf_mod_two_pow (n k hi lo : Nat) (h : hi < k) : bitsOf (n % 2 ^ k) hi lo = bitsOf n hi lo := by
  refine Nat.eq_of_testBit_eq fun i => ?_
  rw [testBit_bitsOf, testBit_bitsOf, Nat.testBit_mod_two_pow]
  by_cases hi : i < hi + 1 - lo
  · rw [decide_eq_true (show lo + i < k by omega), Bool.true_and]
  · simp [hi]

/-- One bit is the field of that bit alone. -/
theorem bitOf_eq_bitsOf (n k : Nat) : bitOf n k = decide (bitsOf n k k = 1) := by
  rw [bitOf, bitsOf, Nat.add_sub_cancel_left, Nat.pow_one, Nat.testBit_eq_decide_div_mod_eq, Nat.shiftRight_eq_div_pow]

theorem b2n_mod_two (b : Bool) : b2n b % 2 = b2n b := by cases b <;> rfl
theorem decide_b2n (b : Bool) : decide (b2n b = 1) = b := by cases b <;> rfl

/-! ### Fields of a folio entry (R92) -/

theorem efld_ofNat (n hi lo : Nat) (h : hi < 128) : efld (BitVec.ofNat 128 n) hi lo = bitsOf n hi lo := by
  rw [efld, BitVec.toNat_ofNat, bitsOf_mod_two_pow n 128 hi lo h]

/-- A one-bit field of a folio entry as a truth value. -/
theorem bitOf_toNat_eq_efld (e : BitVec 128) (k : Nat) : bitOf e.toNat k = decide (efld e k k = 1) := bitOf_eq_bitsOf e.toNat k

theorem targetOf_eq (e : BitVec 128) : targetOf e =
    ⟨efld e 23 20, efld e 83 78, efld e 87 84, efld e 99 88, decide (efld e 29 29 = 1), efld e 75 40⟩ := by
  rw [targetOf, bitOf_toNat_eq_efld]

/-- Setting or clearing MIGRATING leaves the fields below and above it. -/
theorem efld_setMigrating (e : BitVec 128) (b : Bool) (hi lo : Nat) (h : hi < 128) (hapart : hi < 28 ∨ 28 < lo) :
    efld (setMigrating e b) hi lo = efld e hi lo := by
  rw [setMigrating, efld_ofNat _ _ _ h, bitsOf_setBits_apart _ _ _ _ _ _ (Nat.le_refl 28) hapart, efld]

theorem folioMigrating_setMigrating (e : BitVec 128) (b : Bool) : folioMigrating (setMigrating e b) = b := by
  rw [folioMigrating, bitOf_toNat_eq_efld, setMigrating, efld_ofNat _ _ _ (by decide), bitsOf_setBits_same _ _ _ _ (Nat.le_refl 28)]
  rw [show b2n b % 2 ^ (28 + 1 - 28) = b2n b from b2n_mod_two b, decide_b2n]

/-- An entry with the target fields of a destination (R175). -/
def retarget (e : BitVec 128) (t : MigTarget) : BitVec 128 :=
  BitVec.ofNat 128 (setBits (setBits (setBits (setBits (setBits (setBits e.toNat 23 20 t.kind) 83 78 t.port) 87 84 t.ld) 99 88 t.fid)
    29 29 (b2n t.remoteLd)) 75 40 t.dpa)

/-- A destination whose fields fit their places is the target of the entry retargeted to it. -/
theorem targetOf_retarget (e : BitVec 128) (t : MigTarget) (hkind : t.kind < 16) (hport : t.port < 64) (hld : t.ld < 16)
    (hfid : t.fid < 4096) (hdpa : t.dpa < 2 ^ 36) : targetOf (retarget e t) = t := by
  have kind : efld (retarget e t) 23 20 = t.kind % 16 := by simp [retarget, efld_ofNat, bitsOf_setBits_same, bitsOf_setBits_apart]
  have port : efld (retarget e t) 83 78 = t.port % 64 := by simp [retarget, efld_ofNat, bitsOf_setBits_same, bitsOf_setBits_apart]
  have ld : efld (retarget e t) 87 84 = t.ld % 16 := by simp [retarget, efld_ofNat, bitsOf_setBits_same, bitsOf_setBits_apart]
  have fid : efld (retarget e t) 99 88 = t.fid % 4096 := by simp [retarget, efld_ofNat, bitsOf_setBits_same, bitsOf_setBits_apart]
  have remote : efld (retarget e t) 29 29 = b2n t.remoteLd % 2 := by
    simp [retarget, efld_ofNat, bitsOf_setBits_same, bitsOf_setBits_apart]
  have dpa : efld (retarget e t) 75 40 = t.dpa % 2 ^ 36 := by simp [retarget, efld_ofNat, bitsOf_setBits_same]
  rw [targetOf_eq, kind, port, ld, fid, remote, dpa, Nat.mod_eq_of_lt hkind, Nat.mod_eq_of_lt hport, Nat.mod_eq_of_lt hld,
    Nat.mod_eq_of_lt hfid, Nat.mod_eq_of_lt hdpa, b2n_mod_two, decide_b2n]

/-- Retargeting keeps the fields that are not of the target: below KIND, and between KIND and REMOTE_LD. -/
theorem efld_retarget (e : BitVec 128) (t : MigTarget) (hi lo : Nat) (h : hi < 20 ∨ 23 < lo ∧ hi < 29) :
    efld (retarget e t) hi lo = efld e hi lo := by
  rw [retarget, efld_ofNat _ _ _ (by omega), bitsOf_setBits_apart _ _ _ _ _ _ (by decide) (by omega),
    bitsOf_setBits_apart _ _ _ _ _ _ (by decide) (by omega), bitsOf_setBits_apart _ _ _ _ _ _ (by decide) (by omega),
    bitsOf_setBits_apart _ _ _ _ _ _ (by decide) (by omega), bitsOf_setBits_apart _ _ _ _ _ _ (by decide) (by omega),
    bitsOf_setBits_apart _ _ _ _ _ _ (by decide) (by omega), efld]

/-- A lookup reads the data bits of what was written. -/
theorem efld_setFolio_folio (s : State) (i : Nat) (e : BitVec 128) (hi lo : Nat) (h : twf 0 s.path.folio = true) (hhi : hi < 120) :
    efld ((s.setFolio i e).folio i) hi lo = efld e hi lo := by
  have hstored : ((s.setFolio i e).folioStored i).toNat = withCheck 120 e.toNat := toNat_tget_tput_withCheck rfl s.path.folio i e.toNat h
  rw [State.folio, hstored, eccData_withCheck, efld_ofNat _ _ _ (by omega), bitsOf_mod_two_pow _ _ _ _ hhi, efld]

end Sys2Proof.Machine
end

section
/-!
PROOF. Migration steps and the folio table: requests of the engine do not touch it, and every step writes the entry of its own context
alone (R166, R172, R175, R176).
-/
namespace Sys2Proof.Machine

/-! ### Counts, raises and the ends of commands -/

@[simp] theorem countPort_path (s : State) (p e n : Nat) : (s.countPort p e n).path = s.path :=
  countPort_pres (·.path) (fun _ _ => rfl) s p e n
@[simp] theorem countHier_path (s : State) (h e n : Nat) : (s.countHier h e n).path = s.path := count_path s _ n
@[simp] theorem countDev_path (s : State) (d n : Nat) : (s.countDev d n).path = s.path := count_path s _ n
@[simp] theorem raisePort_path (s : State) (p k : Nat) (i : RaiseInfo) : (s.raisePort p k i).path = s.path := raise_path s _
@[simp] theorem raiseHier_path (s : State) (h k : Nat) (i : RaiseInfo) : (s.raiseHier h k i).path = s.path := raise_path s _
@[simp] theorem raiseDev_path (s : State) (n aux : Nat) (i : RaiseInfo) : (s.raiseDev n aux i).path = s.path := raise_path s _
@[simp] theorem done_path (s : State) (o : Origin) (status result : Nat) : (s.done o status result).path = s.path := push_path s _

@[simp] theorem retryHeld_path (s : State) : s.retryHeld.path = s.path := by
  unfold State.retryHeld
  split <;> rfl

@[simp] theorem holdMeasure_path (s : State) (c : Nat) : (s.holdMeasure c).path = s.path := by
  unfold State.holdMeasure
  split <;> rfl

/-! ### Routing, queueing and bookmarks leave the folio table -/

theorem each_folio {α : Type} {f : State → α → State} (h : ∀ s a, (f s a).path.folio = s.path.folio) (s : State) (l : List α) :
    (s.each l f).path.folio = s.path.folio := each_pres f (fun s => s.path.folio) h l s

/-- A consequence that leaves the table may follow or not. -/
theorem ite_folio {p : Prop} [Decidable p] {t u : State} (h : t.path.folio = u.path.folio) :
    (if p then t else u).path.folio = u.path.folio := by
  split
  · exact h
  · rfl

@[simp] theorem checkRoute_folio (s : State) (f : Nat) : (s.checkRoute f).path.folio = s.path.folio := by
  unfold State.checkRoute
  split
  · rfl
  · split <;> simp [State.putRoute]

@[simp] theorem checkTgts_folio (s : State) (ts : List Tgt) : (s.checkTgts ts).path.folio = s.path.folio :=
  each_folio (fun s t => by cases t <;> simp) s ts

@[simp] theorem noteDead_folio (s : State) (r : Req) (w : Why) : (s.noteDead r w).path.folio = s.path.folio := by
  unfold State.noteDead
  cases w with
  | noRoute raises =>
    dsimp only
    split
    · split <;> simp
    · simp
  | _ => rfl

@[simp] theorem noteDeads_folio {α : Type} (s : State) (r : Req) (cs : List (Except Why α)) :
    (s.noteDeads r cs).path.folio = s.path.folio :=
  each_folio (fun s x => by cases x <;> simp) s cs

@[simp] theorem takeBookmark_folio (s : State) (x : Bookmark) : (s.takeBookmark x).2.path.folio = s.path.folio := rfl

@[simp] theorem migNote_path (s : State) (m : Option (Nat × Bool)) : (s.migNote m).path = s.path := by
  cases m <;> rfl

@[simp] theorem bmQuarantine_folio (s : State) (b : Nat) : (s.bmQuarantine b).path.folio = s.path.folio := by
  unfold State.bmQuarantine
  split
  · rw [migNote_path]
    rfl
  · rfl

@[simp] theorem enterQueue_folio (s : State) (id : Nat) (x : Packet) (c : Copy) : (s.enterQueue id x c).path.folio = s.path.folio :=
  (ite_folio (by simp)).trans ((ite_folio (by simp)).trans (ite_folio (by simp)))

@[simp] theorem queuePacket_folio (s : State) (x : Packet) (cs : List Copy) (cell : Option (Charge × Ingress)) :
    (s.queuePacket x cs cell).1.path.folio = s.path.folio := by
  unfold State.queuePacket
  dsimp only
  split
  · rfl
  · exact each_folio (fun s c => enterQueue_folio s _ _ c) _ _

@[simp] theorem sendToward_folio (s : State) (x : Packet) (ing : Ingress) (fid : Nat) (cell : Option (Charge × Ingress)) :
    (s.sendToward x ing fid cell).path.folio = s.path.folio := by
  unfold State.sendToward
  cases ing with
  | device => rfl
  | port p =>
    dsimp only
    split
    · simp
    · split
      · split <;> simp
      · split <;> simp

@[simp] theorem dmvLost_path (s : State) (x : Packet) (typ : OrdType) : (s.dmvLost x typ).path = s.path := by
  unfold State.dmvLost
  split
  · split <;> rfl
  · rfl

@[simp] theorem flushCopy_folio (s : State) (p : Nat) (x : Packet) (typ : OrdType) (member : Option Nat) (line : Nat) :
    (s.flushCopy p x typ member line).path.folio = s.path.folio := by
  unfold State.flushCopy
  dsimp only
  split
  · split
    · simp
    · split <;> simp [State.answer]
  · split
    · split <;> simp
    · simp

@[simp] theorem lateFault_path (s : State) (x : Packet) : (s.lateFault x).path = s.path := by
  unfold State.lateFault
  split <;> simp

@[simp] theorem enqueueGood_folio (s : State) (x : Packet) (cs : List Copy) : (s.enqueueGood x cs).path.folio = s.path.folio :=
  (each_folio (fun s c => by simp) _ _).trans (queuePacket_folio s x cs none)

@[simp] theorem enqueue_folio (s : State) (x : Packet) (cs : List Copy) : (s.enqueue x cs).path.folio = s.path.folio := by
  unfold State.enqueue
  split
  · simp
  · dsimp only
    split
    · simp
    · split <;> simp

@[simp] theorem launch_folio (s : State) (x : Packet) (cs : List Copy) : (s.launch x cs).path.folio = s.path.folio := by
  unfold State.launch
  split
  · rfl
  split
  · dsimp only
    split
    · split <;> simp
    · rfl
  · rw [enqueue_folio]
    split
    · split
      · rw [countHier_path]
        rfl
      · rfl
    · rfl

/-- A request of the engine takes a bookmark, is routed, queued or flushed: it never writes the folio table. -/
@[simp] theorem engineSend_folio (s : State) (r : Req) (edge : Option Nat) (tgt : Tgt) (addr : Nat) (p : Purpose) :
    (s.engineSend r edge tgt addr p).path.folio = s.path.folio := by
  have hlaunch (u : State) (x : Packet) (cs : List Copy) (a : Action) :
      (if cs.isEmpty then (u.launch x cs).push a else u.launch x cs).path.folio = u.path.folio :=
    (ite_folio (by simp)).trans (launch_folio u x cs)
  exact (hlaunch _ _ _ _).trans ((takeBookmark_folio _ _).trans ((noteDeads_folio _ r _).trans (checkTgts_folio s _)))

/-! ### Steps of the engine that leave the folio table -/

/-- Discarding prefetched data touches the prefetch memory of the data path alone. -/
theorem pfDiscard_pres {β : Type} (g : DataPath → β) (h : ∀ x l, g { x with prefetch := l } = g x) (s : State) (f : Prefetch → Bool) :
    g (s.pfDiscard f).path = g s.path := by
  unfold State.pfDiscard
  dsimp only
  split
  · rfl
  · exact (each_pres _ (fun s => g s.path) (fun s x => congrArg g (countHier_path s _ _ _)) _ _).trans (h _ _)

@[simp] theorem pfDiscard_folio (s : State) (f : Prefetch → Bool) : (s.pfDiscard f).path.folio = s.path.folio :=
  pfDiscard_pres (·.folio) (fun _ _ => rfl) s f
@[simp] theorem pfDiscard_gen (s : State) (f : Prefetch → Bool) : (s.pfDiscard f).path.gen = s.path.gen :=
  pfDiscard_pres (·.gen) (fun _ _ => rfl) s f

@[simp] theorem advanceGen_folio (s : State) : s.advanceGen.path.folio = s.path.folio := by
  unfold State.advanceGen
  dsimp only
  split <;> simp

/-- With a free slot or none, the generation is one higher (R97, R102). -/
@[simp] theorem advanceGen_gen (s : State) : s.advanceGen.path.gen = s.path.gen + 1 := by
  unfold State.advanceGen
  dsimp only
  split <;> simp

@[simp] theorem migRelease_folio (s : State) (c : Nat) : (s.migRelease c).path.folio = s.path.folio := rfl

@[simp] theorem putGWord_folio (s : State) (g k : Nat) (w : Quad) : (s.putGWord g k w).path.folio = s.path.folio := rfl

theorem setFolio_gen (s : State) (i : Nat) (e : BitVec 128) : (s.setFolio i e).path.gen = s.path.gen := by
  rw [State.setFolio, modPath_path]

@[simp] theorem checkGather_folio (s : State) (g : Nat) : (s.checkGather g).path.folio = s.path.folio := by
  unfold State.checkGather
  dsimp only
  split
  · rfl
  · split
    · simp
    · split
      · rfl
      · simp [State.setGEntry, State.putGEntry]

@[simp] theorem checkGather_mig (s : State) (g : Nat) : (s.checkGather g).mig = s.mig := by
  unfold State.checkGather
  dsimp only
  split
  · rfl
  · split
    · exact raise_mig _ _
    · split
      · rfl
      · exact (count_mig _ _ _).trans (modPath_mig s _)

@[simp] theorem holdMeasure_mig (s : State) (c : Nat) : (s.holdMeasure c).mig = s.mig := by
  unfold State.holdMeasure
  split <;> rfl

@[simp] theorem migFinish_folio (s : State) (c : Nat) (e : MigEnd) : (s.migFinish c e).path.folio = s.path.folio := by
  unfold State.migFinish
  dsimp only
  split <;> simp

/-- A pass finds its source: it looks up the gathering of a RESYNC, and writes its context alone. -/
@[simp] theorem passSource_folio (s : State) (c : Nat) : (s.passSource c).2.path.folio = s.path.folio := by
  unfold State.passSource
  dsimp only
  split
  · split <;> simp
  · rfl

/-- A pass that finds no source has not changed its context. -/
theorem passSource_mig_of_none (s : State) (c : Nat) (h : (s.passSource c).1 = false) : (s.passSource c).2.mig = s.mig := by
  unfold State.passSource at h ⊢
  dsimp only at h ⊢
  split at h
  · rw [if_pos ‹_›]
    split at h
    · cases h
    · simp
  · cases h

/-- Asking whether the copies are confirmed may send the confirmation read, no more. -/
@[simp] theorem confirmed_folio (s : State) (c : Nat) : (s.confirmed c).2.path.folio = s.path.folio := by
  unfold State.confirmed
  dsimp only
  split
  · rfl
  · split
    · rfl
    · split
      · rfl
      · rw [engineSend_folio, modCtx_path]

theorem confirmed_state_of_true (s : State) (c : Nat) (h : (s.confirmed c).1 = true) : (s.confirmed c).2 = s := by
  unfold State.confirmed at h ⊢
  dsimp only at h ⊢
  split
  · rfl
  · split
    · rfl
    · rw [if_neg ‹_›, if_neg ‹_›] at h
      split at h <;> cases h

/-! ### The entry of a context (R166, R175, R176) -/

/-- A lookup reads the stored table alone. -/
theorem folio_congr {s t : State} (h : t.path.folio = s.path.folio) (j : Nat) : t.folio j = s.folio j := by
  unfold State.folio State.folioStored
  rw [h]

/-- A context that stays active is found as it was changed, in canonical form or not. -/
theorem ctx_modCtx_of_active (s : State) (c : Nat) (f : MigCtx → MigCtx) (h : (f (s.ctx c)).phase ≠ .idle) :
    (s.modCtx c f).ctx c = f (s.ctx c) := by
  have hne : f (s.ctx c) ≠ migCtx0 := fun hf => h (congrArg MigCtx.phase hf)
  show tget migCtx0 (tput migCtx0 s.mig.ctxs c (f (s.ctx c))) c = f (s.ctx c)
  rw [tput, if_neg hne, tget, tfind_tins_same]
  rfl

/-- The end of a context restores its own entry alone (R176). -/
theorem migStop_folio_other (s : State) (c j : Nat) (e : MigEnd) (h : twf 0 s.path.folio = true) (hj : j ≠ (s.ctx c).folio) :
    (s.migStop c e).folio j = s.folio j := by
  unfold State.migStop
  dsimp only
  split
  · refine (folio_congr (migFinish_folio _ c e) j).trans ?_
    have hmeasure : (s.holdMeasure c).path.folio = s.path.folio := congrArg DataPath.folio (holdMeasure_path s c)
    split
    · refine (folio_congr (advanceGen_folio _) j).trans ?_
      exact (setFolio_folio_other _ _ j _ (hmeasure ▸ h) hj).trans (folio_congr hmeasure j)
    · exact folio_congr hmeasure j
  · rfl

/-- The next pass writes an entry only where it finds no source and the migration ends. -/
theorem nextPass_folio_other (s : State) (c j : Nat) (phase : MigPhase) (extra : Nat) (h : twf 0 s.path.folio = true)
    (hj : j ≠ (s.ctx c).folio) : (s.nextPass c phase extra).folio j = s.folio j := by
  have hfolio := passSource_folio s c
  have hmig := passSource_mig_of_none s c
  unfold State.nextPass
  generalize s.passSource c = r at hfolio hmig
  obtain ⟨found, u⟩ := r
  cases found with
  | false =>
    have hctx : u.ctx c = s.ctx c := congrArg (fun m : Mig => tget migCtx0 m.ctxs c) (hmig rfl)
    exact (migStop_folio_other u c j _ (hfolio ▸ h) (hctx ▸ hj)).trans (folio_congr hfolio j)
  | true => exact folio_congr hfolio j

/-! ### Passes, the hold and the flip, case by case -/

/-- A pass that is copying asks whether all is confirmed, and then goes to FINAL, to another pass, or ends (R170, R171). -/
theorem passComplete_eq (s : State) (c : Nat) : s.passComplete c =
    (let x := s.ctx c
    if x.phase = .copy ∧ x.step = .copying then
      let r := s.confirmed c
      if !r.1 then r.2
      else if x.dirtyCount ≤ fld x.ctl 11 0 then
        ((r.2.modCtx c (fun y => { y with ctl := r.2.act 0x901000, finalAt := r.2.cclkNow })).nextPass c .final 0).modCtx c
          (fun y => { y with pass := x.pass })
      else if x.pass < fld x.ctl 31 24 then r.2.nextPass c .copy 0
      else r.2.migStop c .noConverge
    else s) := by
  unfold State.passComplete
  rcases s.confirmed c with ⟨_ | _, u⟩ <;> rfl

/-- A hold that expires in FINAL begins the next pass, or ends the migration (R174). -/
theorem holdExpire_eq (s : State) (c : Nat) : s.holdExpire c =
    (let s1 := s.modCtx c (fun y => { y with abandons := y.abandons + 1 })
    if (s.ctx c).phase ≠ .final then s
    else if fld (s.ctx c).ctl 15 12 ≤ (s.ctx c).abandons + 1 then s1.migStop c .holdExpired
    else
      let t := (s1.holdMeasure c).modCtx c (fun y => { y with ctl := (s1.holdMeasure c).act 0x901000 })
      ((t.migRelease c).nextPass c .copy ((s.ctx c).todo ||| (s.ctx c).unconfirmed)).retryHeld) := by
  unfold State.holdExpire
  dsimp only
  by_cases hphase : (s.ctx c).phase = .final
  · rw [if_pos hphase, if_neg (not_not_intro hphase)]
    by_cases hlast : fld (s.ctx c).ctl 15 12 ≤ (s.ctx c).abandons + 1
    · rw [if_pos hlast, if_neg (Nat.not_lt_of_le hlast)]
    · rw [if_neg hlast, if_pos (Nat.lt_of_not_le hlast)]
  · rw [if_neg hphase, if_pos hphase]

/-- What a confirmed flip of a RESYNC writes: the entry without MIGRATING, MARK, and the member that is whole (R159, R179). -/
def State.flipResync (s : State) (x : MigCtx) : State :=
  let e := s.gEntry x.gather
  let s := if x.marked then s.setFolio x.folio (setMigrating x.entry false) else s
  let s := s.putGWord x.gather 1 (e.setMark (e.mark + 1)).w1
  if e.count ≤ e.mark + 1 then s.putGWord x.gather (2 + x.member) ((e.setMState x.member 1).memberWord x.member) else s

/-- The end of a confirmed flip: the generation advances, and the context waits for its fence (R175). -/
def State.flipEnd (s : State) (c : Nat) : State :=
  let s := s.advanceGen
  (s.modCtx c (fun y =>
    { y with phase := .fence, step := .waitFence, marked := false, fenceGen := s.path.gen, fenceSince := s.spine.ticks })).retryHeld.push
      .fenceCheck

/-- A flip in FINAL asks whether all is confirmed; then a RESYNC whose gathering cannot be read ends, and else the entries are written. -/
theorem flip_eq (s : State) (c : Nat) : s.flip c =
    if (s.ctx c).phase = .final ∧ (s.ctx c).step = .copying then
      if !(s.confirmed c).1 then (s.confirmed c).2
      else if (s.ctx c).resync then
        if (s.checkGather (s.ctx c).gather).gBad (s.ctx c).gather then (s.checkGather (s.ctx c).gather).migStop c .sourceError
        else ((((s.checkGather (s.ctx c).gather).holdMeasure c).flipResync (s.ctx c))).flipEnd c
      else ((s.holdMeasure c).setFolio (s.ctx c).folio (setMigrating (retarget (s.ctx c).entry (s.ctx c).dst) false)).flipEnd c
    else s := by
  have hstate := confirmed_state_of_true s c
  unfold State.flip
  generalize s.confirmed c = r at hstate
  obtain ⟨yes, u⟩ := r
  cases yes with
  | false => rfl
  | true =>
    obtain rfl : u = s := hstate rfl
    cases hresync : (u.ctx c).resync with
    | false => simp only [hresync, Bool.false_eq_true, false_and, if_false]; rfl
    | true => simp only [hresync, true_and, if_true]; rfl

@[simp] theorem flipEnd_folio (s : State) (c : Nat) : (s.flipEnd c).path.folio = s.path.folio := by
  simp [State.flipEnd]

@[simp] theorem flipEnd_gen (s : State) (c : Nat) : (s.flipEnd c).path.gen = s.path.gen + 1 := by
  simp [State.flipEnd]

theorem flipResync_folio_other (s : State) (x : MigCtx) (j : Nat) (h : twf 0 s.path.folio = true) (hj : j ≠ x.folio) :
    (s.flipResync x).folio j = s.folio j := by
  have hmark : (if x.marked then s.setFolio x.folio (setMigrating x.entry false) else s).folio j = s.folio j := by
    split
    · exact setFolio_folio_other s x.folio j _ h hj
    · rfl
  unfold State.flipResync
  dsimp only
  split <;> exact hmark

/-! ### No other entry is written -/

theorem passComplete_folio_other (s : State) (c j : Nat) (h : twf 0 s.path.folio = true) (hj : j ≠ (s.ctx c).folio) :
    (s.passComplete c).folio j = s.folio j := by
  rw [passComplete_eq]
  dsimp only
  split
  case isFalse => rfl
  case isTrue hphase =>
    split
    · exact folio_congr (confirmed_folio s c) j
    next hconf =>
      rw [confirmed_state_of_true s c (by simpa using hconf)]
      split
      · have hactive : (s.ctx c).phase ≠ .idle := by rw [hphase.1]; decide
        have hctx := ctx_modCtx_of_active s c (fun y => { y with ctl := s.act 0x901000, finalAt := s.cclkNow }) hactive
        exact (folio_congr (congrArg DataPath.folio (modCtx_path _ c _)) j).trans
          (nextPass_folio_other (s.modCtx c _) c j .final 0 h (by rw [hctx]; exact hj))
      split
      · exact nextPass_folio_other s c j .copy 0 h hj
      · exact migStop_folio_other s c j .noConverge h hj

theorem holdExpire_folio_other (s : State) (c j : Nat) (h : twf 0 s.path.folio = true) (hj : j ≠ (s.ctx c).folio) :
    (s.holdExpire c).folio j = s.folio j := by
  rw [holdExpire_eq]
  dsimp only
  split
  case isTrue => rfl
  case isFalse hphase =>
    have hactive : (s.ctx c).phase ≠ .idle := by rw [Decidable.not_not.1 hphase]; decide
    have hctx := ctx_modCtx_of_active s c (fun y => { y with abandons := y.abandons + 1 }) hactive
    have hpath := modCtx_path s c (fun y => { y with abandons := y.abandons + 1 })
    generalize s.modCtx c (fun y => { y with abandons := y.abandons + 1 }) = s1 at hctx hpath
    have hj1 : j ≠ (s1.ctx c).folio := by rw [hctx]; exact hj
    have hsame : s1.folio j = s.folio j := folio_congr (congrArg DataPath.folio hpath) j
    split
    · exact (migStop_folio_other s1 c j .holdExpired (hpath ▸ h) hj1).trans hsame
    · have hmeasured : (s1.holdMeasure c).ctx c = s1.ctx c := congrArg (fun m : Mig => tget migCtx0 m.ctxs c) (holdMeasure_mig s1 c)
      have hactive1 : ((s1.holdMeasure c).ctx c).phase ≠ .idle := by rw [hmeasured, hctx]; exact hactive
      have htaken := ctx_modCtx_of_active (s1.holdMeasure c) c (fun y => { y with ctl := (s1.holdMeasure c).act 0x901000 }) hactive1
      have hfolio : (((s1.holdMeasure c).modCtx c fun y => { y with ctl := (s1.holdMeasure c).act 0x901000 }).migRelease c).path.folio
          = s.path.folio := by
        rw [migRelease_folio, modCtx_path, holdMeasure_path, hpath]
      refine (folio_congr (congrArg DataPath.folio (retryHeld_path _)) j).trans ?_
      refine (nextPass_folio_other _ c j .copy _ (hfolio ▸ h) ?_).trans (folio_congr hfolio j)
      show j ≠ (((s1.holdMeasure c).modCtx c fun y => { y with ctl := (s1.holdMeasure c).act 0x901000 }).ctx c).folio
      rw [htaken, hmeasured]
      exact hj1

theorem flip_folio_other (s : State) (c j : Nat) (h : twf 0 s.path.folio = true) (hj : j ≠ (s.ctx c).folio) :
    (s.flip c).folio j = s.folio j := by
  have hgather := checkGather_folio s (s.ctx c).gather
  rw [flip_eq]
  split
  case isFalse => rfl
  case isTrue =>
    split
    · exact folio_congr (confirmed_folio s c) j
    split
    · have hctx : (s.checkGather (s.ctx c).gather).ctx c = s.ctx c :=
        congrArg (fun m : Mig => tget migCtx0 m.ctxs c) (checkGather_mig s _)
      split
      · exact (migStop_folio_other _ c j .sourceError (hgather ▸ h) (by rw [hctx]; exact hj)).trans (folio_congr hgather j)
      · have hfolio : ((s.checkGather (s.ctx c).gather).holdMeasure c).path.folio = s.path.folio := by
          rw [holdMeasure_path, hgather]
        exact (folio_congr (flipEnd_folio _ c) j).trans
          ((flipResync_folio_other _ _ j (hfolio ▸ h) hj).trans (folio_congr hfolio j))
    · have hfolio : (s.holdMeasure c).path.folio = s.path.folio := by rw [holdMeasure_path]
      exact (folio_congr (flipEnd_folio _ c) j).trans
        ((setFolio_folio_other _ _ j _ (hfolio ▸ h) hj).trans (folio_congr hfolio j))

theorem migAbort_folio_other (s : State) (o : Origin) (c j : Nat) (h : twf 0 s.path.folio = true) (hj : j ≠ (s.ctx c).folio) :
    (s.migAbort o c).folio j = s.folio j := by
  unfold State.migAbort
  dsimp only
  split
  · exact migStop_folio_other s c j .aborted h hj
  · rfl

/-! ### The flip of a FOLIO migration -/

/-- A confirmed flip in FOLIO mode leaves the entry retargeted and not MIGRATING, under the next generation (R175). -/
theorem flip_folio_mode (s : State) (c : Nat) (hphase : (s.ctx c).phase = .final) (hstep : (s.ctx c).step = .copying)
    (hresync : (s.ctx c).resync = false) (hconf : (s.confirmed c).1 = true) : s.flip c =
      ((s.holdMeasure c).setFolio (s.ctx c).folio (setMigrating (retarget (s.ctx c).entry (s.ctx c).dst) false)).flipEnd c := by
  rw [flip_eq]
  simp [hphase, hstep, hresync, hconf]

/-- Settles O44: every step writes through the entry of its context, and a flip writes it retargeted. -/
theorem migrationWritesItsEntryAlone : Obligations.MigrationWritesItsEntryAlone := by
  intro s c j o h
  refine ⟨fun hj => ⟨flip_folio_other s c j h hj, holdExpire_folio_other s c j h hj, passComplete_folio_other s c j h hj,
    migAbort_folio_other s o c j h hj⟩, fun hphase hstep hresync hconf hkind hport hld hfid hdpa => ?_⟩
  have hmeasure : (s.holdMeasure c).path = s.path := holdMeasure_path s c
  have hwritten : ∀ hi lo, hi < 120 → efld ((s.flip c).folio (s.ctx c).folio) hi lo =
      efld (setMigrating (retarget (s.ctx c).entry (s.ctx c).dst) false) hi lo := by
    intro hi lo hhi
    rw [flip_folio_mode s c hphase hstep hresync hconf, folio_congr (flipEnd_folio _ c)]
    exact efld_setFolio_folio _ _ _ hi lo (by rw [hmeasure]; exact h) hhi
  have hretarget (hi lo : Nat) (hhi : hi < 120) (hapart : hi < 28 ∨ 28 < lo) :
      efld ((s.flip c).folio (s.ctx c).folio) hi lo = efld (retarget (s.ctx c).entry (s.ctx c).dst) hi lo := by
    rw [hwritten hi lo hhi, efld_setMigrating _ _ _ _ (by omega) hapart]
  have hkept (hi lo : Nat) (hhi : hi < 20 ∨ 23 < lo ∧ hi < 28) :
      efld ((s.flip c).folio (s.ctx c).folio) hi lo = efld (s.ctx c).entry hi lo := by
    rw [hretarget hi lo (by omega) (by omega), efld_retarget _ _ _ _ (by omega)]
  refine ⟨?target, ?migrating, hkept 15 0 (by decide), hkept 27 25 (by decide), ?gen⟩
  case target =>
    rw [targetOf_eq, hretarget 23 20 (by decide) (by decide), hretarget 83 78 (by decide) (by decide),
      hretarget 87 84 (by decide) (by decide), hretarget 99 88 (by decide) (by decide), hretarget 29 29 (by decide) (by decide),
      hretarget 75 40 (by decide) (by decide), ← targetOf_eq]
    exact targetOf_retarget _ _ hkind hport hld hfid hdpa
  case migrating =>
    rw [folioMigrating, bitOf_toNat_eq_efld, hwritten 28 28 (by decide), ← bitOf_toNat_eq_efld]
    exact folioMigrating_setMigrating _ false
  case gen => rw [flip_folio_mode s c hphase hstep hresync hconf, flipEnd_gen, setFolio_gen, hmeasure]

end Sys2Proof.Machine
end

section
/-!
PROOF. Migration commands at their effect stages, and the events of the migration and heat engines (R165 to R185).
-/
namespace Sys2Proof.Machine

/-! ### Commands (R165, R166, R170, R179) -/

theorem cmdEffect_migrateStart (t : State) (cmd : Cmd) (h : opIs 0x30 cmd = true) :
    t.cmdEffect cmd = t.migStartCmd cmd.origin cmd.q := by
  obtain ⟨hlocal, hop⟩ := (opIs_iff _ _).1 h
  simp [State.cmdEffect, hlocal, hop]

theorem cmdEffect_migrateAbort (t : State) (cmd : Cmd) (h : opIs 0x31 cmd = true) :
    t.cmdEffect cmd = t.migAbort cmd.origin (qfld (cq cmd.q 3) 5 0) := by
  obtain ⟨hlocal, hop⟩ := (opIs_iff _ _).1 h
  simp [State.cmdEffect, hlocal, hop]

/-- Settles O42: each row is the effect stage of its opcode, and both forms of MIGRATE_START look at the mode first. -/
theorem migrationCommands : Obligations.MigrationCommands := by
  refine fun s => ⟨next_runCmd s _ _ fun u cmd h => ?start, next_runCmd s _ _ fun t cmd h => cmdEffect_migrateAbort t cmd h⟩
  refine (cmdEffect_migrateStart u cmd h).trans ?_
  unfold State.migStartCmd State.migStartFolio State.migStartResync State.migMode MigCtx.begun
  dsimp only
  cases u.glb.mode == .standalone || u.glb.mode == .member || u.glb.mode == .anchor with
  | true => simp only [Bool.not_true, Bool.false_eq_true, if_false]
  | false => simp only [Bool.not_false, if_true, ite_self]

/-! ### Events of a migration (R171 to R175) -/

/-- A copying context with a granule to do, within the limits on reads and bookmarks, reads its lowest one (R172). -/
theorem copyGranule_eq (s : State) (c : Nat) : s.copyGranule c =
    (let s1 := s.useWords [9] none none
    let x := s1.ctx c
    if (x.phase = .copy ∨ x.phase = .final) ∧ x.step = .copying ∧ x.todo ≠ 0
        ∧ s1.copyReads + s1.granuleReads x.src ≤ s1.actF 0x901004 27 16 ∧ s1.bmShared + s1.granuleReads x.src ≤ 47104 then
      let g := lowestBit x.todo
      let a := x.src.dpa * 2 ^ 28 + 4096 * g
      let t := s1.modCtx c (fun y =>
        { y with todo := y.todo - 2 ^ g, todoCount := y.todoCount - 1, unconfirmed := y.unconfirmed ||| 2 ^ g,
                 unconfirmedCount := y.unconfirmedCount + 1, granules := wrapInc 32 y.granules })
      if t.tgtMem x.src then
        t.each (List.range 64) (fun u j => u.engineSend
          (u.engineReq { tlp0 with op := .cMemRd, addr := BitVec.ofNat 64 (a + 64 * j), len := 64 }) u.internalFid x.src.tgt
          (a + 64 * j) (.migRead c g))
      else t.engineSend (t.engineReq { tlp0 with op := .memRead, addr := BitVec.ofNat 64 a, len := 4096 }) t.internalFid
        x.src.tgt a (.migRead c g)
    else s1) := by
  unfold State.copyGranule State.enginePool
  simp only [decide_eq_true_eq]

/-- Copying begins once the settle that was looked at is over (R169). -/
theorem settleDone_eq (s : State) (c : Nat) : s.settleDone c =
    (let t := s.migCheckSettle c
    if ((t.ctx c).phase = .copy ∨ (t.ctx c).phase = .final) ∧ (t.ctx c).step = .settle ∧ (t.ctx c).settleIssued
        ∧ !t.unsettled c (!(t.ctx c).parity) ∧ (t.ctx c).settleTodo.isEmpty ∧ !t.anyPurpose (fun p => p == .migSettle c) then
      t.modCtx c (fun y => { y with step := .copying }) else t) := by
  unfold State.settleDone State.settling
  simp only [Bool.and_eq_true, Bool.or_eq_true, beq_iff_eq, and_assoc]

/-- A flip that is not confirmed asks for what is missing. -/
theorem flip_eq_of_confirmed (s : State) (c : Nat) : s.flip c =
    if (s.ctx c).phase = .final ∧ (s.ctx c).step = .copying then (if !(s.confirmed c).1 then (s.confirmed c).2 else s.flip c)
    else s := by
  rw [flip_eq]
  split
  · split <;> rfl
  · rfl

/-! ### Heat (R181, R184) -/

theorem heatWrite_zero (s : State) (d : List Byte) : s.heatWrite 0 d = (s.mepWrite s.mig.heat.hier s.mig.heat.base d).2 := rfl

/-- A report begins with its header, at the buffer and toward the hierarchy that it keeps (R184). -/
theorem heatBegin_eq (u : State) (hh : Nat) (bank : HeatBank) : u.heatBegin hh bank =
    ((u.modHeat (fun x =>
      { x with writing := true, closed := bank, hier := hh, base := u.heatBase bank.seq, left := heatParts.drop 1 })).mepWrite
        hh (u.heatBase bank.seq) (heatBytes bank (0, 64))).2 := heatWrite_zero _ _

/-- At a boundary with the previous report still being written the epoch goes on, counted missed (R184). -/
theorem heatClose_of_writing (t : State) (hopen : t.mig.heat.isOpen = true) (hwriting : t.mig.heat.writing = true) :
    t.heatClose true = t.modHeat (fun x =>
      { x with missed := wrapInc 8 x.missed, cur := { x.cur with extended := true }, boundary := t.nextBoundary }) := by
  have hcounting : ¬ (!t.mig.heat.isOpen) = true := by simp [hopen]
  exact (if_neg hcounting).trans (if_pos ⟨hwriting, rfl⟩)

/-- Else counting moves to a fresh bank, and the report of the closed one begins where it may be written (R181, R184). -/
theorem heatClose_of_not_writing (t : State) (hopen : t.mig.heat.isOpen = true) (hwriting : t.mig.heat.writing = false) :
    t.heatClose true =
      (let hh := t.actF 0x901010 25 20
      let seq := wrapInc 32 t.mig.heat.seq
      let bank := { t.mig.heat.cur with fin := t.ns, seq := seq }
      let u := t.modHeat (fun x => { x with seq := seq, cur := t.freshBank, isOpen := true, boundary := t.nextBoundary })
      if u.mepOn hh then u.heatBegin hh bank else u.modHeat (fun x => { x with fault := wrapInc 8 x.fault })) := by
  have hcounting : ¬ (!t.mig.heat.isOpen) = true := by simp [hopen]
  have hbusy : ¬ (t.mig.heat.writing = true ∧ true = true) := by simp [hwriting]
  refine (if_neg hcounting).trans ((if_neg hbusy).trans ?_)
  refine ite_congr (propext ?_) (fun _ => rfl) fun _ => rfl
  simp only [hwriting, Bool.not_false, and_true, if_true]

/-- CCLK edges pass until the boundary of an open epoch, which closes there (R181). -/
theorem heatEdge_eq (s : State) : s.heatEdge =
    (let t := s.advanceToNs s.mig.heat.boundary
    if !(s.coreRuns && s.mig.heat.isOpen) then s
    else if !(t.mig.heat.isOpen && decide (t.mig.heat.boundary ≤ t.ns)) then t
    else if t.mig.heat.writing then t.modHeat (fun x =>
      { x with missed := wrapInc 8 x.missed, cur := { x.cur with extended := true }, boundary := t.nextBoundary })
    else
      let hh := t.actF 0x901010 25 20
      let seq := wrapInc 32 t.mig.heat.seq
      let bank := { t.mig.heat.cur with fin := t.ns, seq := seq }
      let u := t.modHeat (fun x => { x with seq := seq, cur := t.freshBank, isOpen := true, boundary := t.nextBoundary })
      if u.mepOn hh then
        let v := u.modHeat (fun x =>
          { x with writing := true, closed := bank, hier := hh, base := u.heatBase seq, left := heatParts.drop 1 })
        (v.mepWrite hh (u.heatBase seq) (heatBytes bank (0, 64))).2
      else u.modHeat (fun x => { x with fault := wrapInc 8 x.fault })) := by
  unfold State.heatEdge State.heatBoundary
  dsimp only
  generalize s.advanceToNs s.mig.heat.boundary = t
  cases hrun : s.coreRuns && s.mig.heat.isOpen with
  | false => exact if_neg fun h => Bool.eq_false_iff.1 hrun (Bool.and_eq_true_iff.2 h)
  | true =>
    refine (if_pos (Bool.and_eq_true_iff.1 hrun)).trans ?_
    cases hdue : t.mig.heat.isOpen && decide (t.mig.heat.boundary ≤ t.ns) with
    | false => exact if_neg fun h => Bool.eq_false_iff.1 hdue (Bool.and_eq_true_iff.2 ⟨h.1, decide_eq_true h.2⟩)
    | true =>
      obtain ⟨hopen, hpast⟩ := Bool.and_eq_true_iff.1 hdue
      refine (if_pos ⟨hopen, of_decide_eq_true hpast⟩).trans ?_
      cases hwriting : t.mig.heat.writing with
      | true => exact heatClose_of_writing t hopen hwriting
      | false =>
        refine (heatClose_of_not_writing t hopen hwriting).trans ?_
        dsimp only
        rw [heatBegin_eq]
        rfl

/-- A report whose every stretch has gone out ends with Q0 written again (R184). -/
theorem heatComplete_eq (s : State) : s.heatComplete =
    (if s.mig.heat.writing ∧ s.mig.heat.left = [] then
      (s.mepWrite s.mig.heat.hier s.mig.heat.base (leBytes 8 (heatQ0 s.mig.heat.closed true))).2.modHeat
        (fun x => { x with writing := false, closed := bank0 })
    else s) := by
  unfold State.heatComplete
  rw [heatWrite_zero]
  simp only [List.isEmpty_iff]

/-- Settles O43: each row has the effect that its equation states. -/
theorem migrationEvents : Obligations.MigrationEvents := by
  refine ⟨fun s k => ⟨?pass, ?copy, ?settle, ?flip, ?hold⟩, fun s => ⟨?heat, ?report⟩⟩
  case pass => exact next_finish_congr s (passComplete_eq s k.val)
  case copy => exact next_finish_congr s (copyGranule_eq s k.val)
  case settle => exact next_finish_congr s (settleDone_eq s k.val)
  case flip => exact next_finish_congr s (flip_eq_of_confirmed s k.val)
  case hold => exact next_finish_congr s (holdExpire_eq s k.val)
  case heat => exact next_finish_congr s (heatEdge_eq s)
  case report => exact next_finish_congr s (heatComplete_eq s)

end Sys2Proof.Machine
end

section
/-!
PROOF. Fabric management packets, lapses, the settled election and reports (R190 to R206).
-/
namespace Sys2Proof.Machine

/-! ### Reception by the packet's type (R190 to R194) -/

/-- What a device does with a packet that it may act on: one whose fabric does not run leaves it, and another version is dropped and
counted (R191). -/
def State.fmpHeard (u : State) (f : Fmp) (e : State) : State :=
  if !u.fabricRuns then u else if f.version ≠ 1 then u.fmpDrop else e

/-- The way of a source-routed packet, and what it does (`act`) where it arrives with its RETURN entry recorded (R193). -/
def State.fmpRouted (u : State) (p : Nat) (f : Fmp) (act : Fmp → State) : State :=
  if f.hopPtr.val = 0 ∨ f.hopCount.val < f.hopPtr.val ∨ 8 < f.hopCount.val then u.fmpDrop
  else
    let g := { f with ret := setPath f.ret (f.hopPtr.val - 1) p }
    if g.hopPtr.val < g.hopCount.val then u.fmpForward g
    else if g.dest ≠ u.serial then u.fmpDrop else act g

/-- What a packet does by its TYPE (R192). -/
def State.fmpEffect (u : State) (p : Nat) (f : Fmp) (typ : Nat) : State :=
  match typ with
  | 1 => u.helloReceive p f.source (helloOf f.body)
  | 2 => u.upTree p f
  | 3 => u.fmpRouted p f (fun g => u.reportAck g.seq.val)
  | 4 => u.fmpRouted p f (fun g => u.reportBusy g.seq.val)
  | 5 => u.fmpRouted p f (fun g => u.cmdReceive p g)
  | 6 => u.fmpRouted p f (fun g => u.rspReceive g)
  | 7 => u.upTree p f
  | _ => u.fmpDrop

/-- A packet received is heard, and acts by its TYPE. -/
theorem fmpReceive_eq (s : State) (p : Nat) (f : Fmp) : s.fmpReceive p f =
    (let u := s.useWords [4, 0xA] (some p) none
    u.fmpHeard f (u.fmpEffect p f f.typ.val)) := by
  obtain ⟨version, ⟨typ, hlt⟩, hopPtr, hopCount, seq, path, ret, source, dest, body⟩ := f
  unfold State.fmpReceive State.fmpHeard
  refine ite_congr rfl (fun _ => rfl) fun _ => ite_congr rfl (fun _ => rfl) fun _ => ?_
  -- each TYPE selects its own effect, the reserved ones (0, and 8 and above) the drop (R192)
  match typ, hlt with
  | 1, _ | 2, _ | 3, _ | 4, _ | 5, _ | 6, _ | 7, _ => rfl
  | 0, _ | _ + 8, _ => rfl

/-- A row of one TYPE: a packet of that TYPE on an active link is heard and acts (R190). -/
theorem fmpOfType_eq (s : State) (p typ : Nat) (f : Fmp) : s.fmpOfType p typ f =
    (let u := s.useWords [4, 0xA] (some p) none
    if f.typ.val = typ ∧ (s.bfl p).phase = .active then u.fmpHeard f (u.fmpEffect p f typ) else s) := by
  unfold State.fmpOfType State.whenActive
  by_cases htyp : f.typ.val = typ
  · subst htyp
    simp only [fmpReceive_eq, if_true, true_and]
  · rw [if_neg htyp]
    exact (if_neg fun h => htyp h.1).symm

/-- Settles O54: a packet's row is its TYPE's effect on the link, and the events of the election and of reports are their rules. -/
theorem fabricManagement : Obligations.FabricManagement := by
  intro s
  refine ⟨fun p f => ?packets, fun p anchor => rfl, rfl, rfl, rfl⟩
  have hrow (typ : Nat) := next_finish_congr s (fmpOfType_eq s p.val typ f)
  exact ⟨hrow 1, hrow 2, hrow 7, hrow 3, hrow 4, hrow 5, hrow 6⟩

end Sys2Proof.Machine
end

section
/-!
PROOF. The replay window of a Brodoth link (R216, R229, R232, R233): what an acknowledgement removes, and what a flit boundary adds.
-/
namespace Sys2Proof.Machine

/-! ### Flits outstanding (R229, R232) -/

/-- Where links are listed canonically, what is changed of a link is read back. -/
theorem bfl_modBfl_same (s : State) (p : Nat) (f : BflPort → BflPort) (h : twf bfl0 s.fabric.links = true) :
    (s.modBfl p f).bfl p = f (s.bfl p) := tget_tmod_same bfl0 s.fabric.links p f h

/-- The links are listed canonically, and the flits that port `p` has outstanding are `l`, the oldest first. -/
structure State.Outstanding (s : State) (p : Nat) (l : List SeqFlit) : Prop where
  links : twf bfl0 s.fabric.links = true
  replay : (s.bfl p).replay = l

section outstanding
variable {s : State} {p : Nat} {l : List SeqFlit} (h : s.Outstanding p l)
include h

/-- A change of the port's link leaves outstanding what it leaves in the replay buffer. -/
theorem outstanding_modBfl_of {l' : List SeqFlit} {f : BflPort → BflPort} (hf : (f (s.bfl p)).replay = l') :
    (s.modBfl p f).Outstanding p l' where
  links := twf_tmod bfl0 _ p f h.links
  replay := (congrArg BflPort.replay (bfl_modBfl_same s p f h.links)).trans hf

/-- A change that keeps the replay buffer keeps the flits outstanding. -/
theorem outstanding_modBfl {f : BflPort → BflPort} (hf : ∀ b, (f b).replay = b.replay := by exact fun _ => rfl) :
    (s.modBfl p f).Outstanding p l :=
  outstanding_modBfl_of h ((hf _).trans h.replay)

theorem outstanding_countPort (e n : Nat) : (s.countPort p e n).Outstanding p l := by
  unfold State.countPort
  split
  · exact ⟨h.links, h.replay⟩
  · exact h

theorem outstanding_told (c : Nat) : (s.told p c).Outstanding p l := outstanding_modBfl h

/-- A link slot tells of the receive direction, and keeps what this one sent (R216). -/
theorem outstanding_linkSlot : (s.linkSlot p).2.Outstanding p l := by
  unfold State.linkSlot
  dsimp only
  split
  · exact h
  split
  · exact outstanding_modBfl (outstanding_modBfl h)
  · refine outstanding_modBfl (outstanding_told ?_ _)
    split
    · exact outstanding_modBfl (outstanding_told (outstanding_modBfl h) _)
    · exact outstanding_modBfl h

/-- What is given to the outside with a link slot leaves the flits outstanding. -/
theorem outstanding_linkSlot_out (o : Output) : ((s.linkSlot p).2.out o).Outstanding p l :=
  ⟨(outstanding_linkSlot h).links, (outstanding_linkSlot h).replay⟩

/-- A new sequenced flit is the newest outstanding (R229, R233). -/
theorem outstanding_sendSeq (f : Nat → SeqFlit) : ∃ x, (s.sendSeq p f).Outstanding p (l ++ [x]) := by
  refine ⟨f (s.bfl p).seq, ?_⟩
  unfold State.sendSeq
  refine outstanding_linkSlot_out (outstanding_countPort (outstanding_modBfl_of h ?_) 17 1) _
  dsimp only
  rw [h.replay]

theorem outstanding_fillMgmt (n : Nat) : (s.fillMgmt p n).Outstanding p l := by
  induction n generalizing s with
  | zero => exact h
  | succ n ih =>
    unfold State.fillMgmt
    split
    · exact h
    · split
      · exact ih (outstanding_modBfl h)
      · exact h

/-- A new MGMT flit is one more outstanding. -/
theorem outstanding_sendMgmt : ∃ x, (s.sendMgmt p).Outstanding p (l ++ [x]) := by
  unfold State.sendMgmt
  exact outstanding_sendSeq (outstanding_modBfl (outstanding_fillMgmt h _)) _

/-- A new DATA flit is one more outstanding. -/
theorem outstanding_sendData : ∃ x, (s.sendData p).Outstanding p (l ++ [x]) := by
  unfold State.sendData
  refine outstanding_sendSeq (each_inv _ (State.Outstanding · p l) (fun t x ht => ?_) _ _ (outstanding_modBfl h)) _
  split
  · exact outstanding_modBfl ht
  · exact ht

/-- An IDLE flit is none to be acknowledged (R214). -/
theorem outstanding_sendIdle : (s.sendIdle p).Outstanding p l := outstanding_linkSlot_out h _

/-- A flit sent again stays outstanding (R232). -/
theorem outstanding_sendReplay (k : Nat) (f : SeqFlit) : (s.sendReplay p k f).Outstanding p l :=
  outstanding_linkSlot_out (outstanding_modBfl h) _

/-- What a flit boundary does to the flits outstanding: none leaves, and a new one comes only while there are fewer than 2,047
(R233, R234). -/
theorem outstanding_boundary {t : State} (hb : s.boundary p = some t) :
    t.Outstanding p l ∨ (l.length < 2047 ∧ ∃ x, t.Outstanding p (l ++ [x])) := by
  unfold State.boundary at hb
  simp only [h.replay] at hb
  -- the cases of R234: a link that is not active, a replay, a new MGMT flit, a new DATA flit, an IDLE flit with news, none
  split at hb
  · cases hb
  split at hb
  · obtain rfl := Option.some.inj hb
    exact .inl (outstanding_sendReplay h _ _)
  split at hb
  case isTrue hmgmt =>
    obtain rfl := Option.some.inj hb
    obtain ⟨hroom, -⟩ := Bool.and_eq_true_iff.1 hmgmt
    exact .inr ⟨of_decide_eq_true hroom, outstanding_sendMgmt h⟩
  split at hb
  case isTrue hdata =>
    obtain rfl := Option.some.inj hb
    obtain ⟨hroom, -⟩ := Bool.and_eq_true_iff.1 (Bool.and_eq_true_iff.1 hdata).1
    exact .inr ⟨of_decide_eq_true hroom, outstanding_sendData h⟩
  split at hb
  · obtain rfl := Option.some.inj hb
    exact .inl (outstanding_sendIdle (outstanding_modBfl h))
  · cases hb

end outstanding

/-! ### Acknowledgements (R216, R232) -/

/-- An acknowledgement counts: it is newer than the one held, and of a flit that was sent. -/
def State.Acks (s : State) (p a : Nat) : Prop :=
  1 ≤ modSub 4096 a (s.bfl p).acked ∧ modSub 4096 a (s.bfl p).acked ≤ (s.bfl p).replay.length

/-- An acknowledgement that does not count changes nothing (R216). -/
theorem bflAck_of_not_acks (s : State) (p a : Nat) (h : ¬ s.Acks p a) : s.bflAck p a = s := if_neg h

/-- One that counts takes the flits up to its number from the replay buffer, and keeps the SEQ of the next one. -/
theorem bflAck_of_acks (s : State) (p a : Nat) (hl : twf bfl0 s.fabric.links = true) (h : s.Acks p a) :
    ((s.bflAck p a).bfl p).seq = (s.bfl p).seq ∧
    (s.bflAck p a).Outstanding p ((s.bfl p).replay.drop (modSub 4096 a (s.bfl p).acked)) := by
  have hmod : s.bflAck p a = s.modBfl p _ := if_pos h
  rw [hmod]
  exact ⟨by rw [bfl_modBfl_same _ _ _ hl], outstanding_modBfl_of ⟨hl, rfl⟩ rfl⟩

/-- Whether it counts or not, no more flits are outstanding after it than before. -/
theorem outstanding_bflAck (s : State) (p a : Nat) (hl : twf bfl0 s.fabric.links = true) :
    ∃ l, (s.bflAck p a).Outstanding p l ∧ l.length ≤ (s.bfl p).replay.length := by
  by_cases h : s.Acks p a
  · exact ⟨_, (bflAck_of_acks s p a hl h).2, by simp⟩
  · rw [bflAck_of_not_acks s p a h]
    exact ⟨_, ⟨hl, rfl⟩, Nat.le_refl _⟩

/-- With the flits up to `a` taken away, `a` is the number before the oldest outstanding flit. -/
theorem acked_of_drop (b c : BflPort) (a : Nat) (ha : a < 4096) (hlen : b.replay.length ≤ 2047)
    (hk : modSub 4096 a b.acked ≤ b.replay.length) (hseq : c.seq = b.seq)
    (hdrop : c.replay = b.replay.drop (modSub 4096 a b.acked)) : c.acked = a := by
  unfold BflPort.acked modSub at *
  rw [hseq, hdrop, List.length_drop]
  omega

/-- Settles O57: what an acknowledgement removes, and that a flit boundary adds one flit only below 2,047. -/
theorem acknowledgementMovesTheWindow : Obligations.AcknowledgementMovesTheWindow := by
  intro s p a hl hlen ha
  refine ⟨?window, fun t ht => ?bound⟩
  case window =>
    intro b k t
    by_cases h : s.Acks p a
    · obtain ⟨hseq, hout⟩ := bflAck_of_acks s p a hl h
      exact (if_pos h).mpr ⟨acked_of_drop b _ a ha hlen h.2 hseq hout.replay, hout.replay⟩
    · exact (if_neg h).mpr (bflAck_of_not_acks s p a h)
  case bound =>
    obtain ⟨l, hout, hle⟩ := outstanding_bflAck s p a hl
    obtain hkept | ⟨hroom, x, hnew⟩ := outstanding_boundary hout ht
    · rw [hkept.replay]; omega
    · rw [hnew.replay, List.length_append, List.length_singleton]; omega

end Sys2Proof.Machine
end

section
/-!
PROOF. Flits received on a Brodoth link (R214 to R222, R230 to R232, R235, R236, R239).
-/
namespace Sys2Proof.Machine

/-! ### Sequenced flits (R219, R221, R230) -/

/-- What a sequenced flit does by the check of its SEQ: the one expected is accepted and has its effect `e`, an older one is counted,
a later one calls for a NAK (R230). -/
def State.bySeq (t : State) (p sq : Nat) (e : State → State) : State :=
  let d := modSub 4096 sq (t.bfl p).next
  if d = 0 then
    e ((t.modBfl p (fun b => { b with next := (b.next + 1) % 4096, nakPending := false, nakDue := false })).countPort p 18)
  else if 2048 ≤ d then t.modBfl p (fun b => { b with duplicates := wrapInc 8 b.duplicates })
  else t.callNak p

theorem seqCheck_bySeq (t : State) (p sq : Nat) (e : State → State) :
    (if (t.seqCheck p sq).1 then e (t.seqCheck p sq).2 else (t.seqCheck p sq).2) = t.bySeq p sq e := by
  unfold State.seqCheck State.bySeq
  dsimp only
  split
  · rfl
  · split <;> rfl

/-- The slots of an accepted MGMT flit, each of two words with its MARK bit (R221). -/
def State.mgmtSlots (p mark : Nat) (ws : List Quad) (t : State) : State :=
  t.each (List.range (ws.length / 2)) (fun u k => u.mgmtSlot p ((ws.drop (2 * k)).take 2) (bitOf mark k))

/-- A sequenced flit: on a link that is active, by now, its link slot acts, and then its SEQ is checked. -/
def State.sequenced (s : State) (p sq : Nat) (l : LinkSlot) (e : State → State) : State :=
  if ((s.bflWake p).bfl p).phase ≠ .active then s.bflWake p else ((s.bflWake p).onSlot p l).bySeq p sq e

theorem dataFlit_eq (s : State) (p sq mark : Nat) (slots : List FlitSlot) (l : LinkSlot) :
    s.dataFlit p sq mark slots l = s.sequenced p sq l (State.bflSlots p (slots.zipIdx.map (fun x => (x.1, bitOf mark x.2)))) :=
  ite_congr rfl (fun _ => rfl) fun _ => seqCheck_bySeq _ p sq _

theorem mgmtFlit_eq (s : State) (p sq mark : Nat) (ws : List Quad) (l : LinkSlot) :
    s.mgmtFlit p sq mark ws l = s.sequenced p sq l (State.mgmtSlots p mark ws) :=
  ite_congr rfl (fun _ => rfl) fun _ => seqCheck_bySeq _ p sq (State.mgmtSlots p mark ws)

/-! ### Link reset by a register write (R239) -/

/-- A row's write of BFL_Pnn_CMD.RESET. -/
theorem writeVia_bflCmd (s : State) (path : Path) (p : Fin 64) :
    s.writeVia path (0x400004 + 0x100 * p.val) 1 = s.written path (0x400004 + 0x100 * p.val) 1
      (if s.role p.val = .fabric then s.push (.bflReset p.val) else s) := by
  obtain ⟨x, hx, he⟩ := Option.map_eq_some_iff.1 (locate_bflCmd p)
  obtain ⟨hn, hi, hb⟩ : x.row.name = .bflCmd ∧ x.i = p.val ∧ badStrobes x 1 = 0 := by simpa using he
  rw [writeVia_written s path _ _ x (by omega) hx]
  simp [State.writePlace, hn, hi, hb, bitOf]

/-- Settles O55: a sequenced flit by its SEQ, a LINK flit by its slot and its SEQ before its message, and each event by its rule. -/
theorem brodothFlits : Obligations.BrodothFlits := by
  intro s p
  refine ⟨fun sq mark slots l => ?data, fun sq mark ws l => ?mgmt, fun sq l => ⟨rfl, ?reserved, ?linkReset⟩, rfl,
    fun a => ⟨rfl, rfl⟩, fun _ => rfl, fun _ => rfl, rfl, rfl, fun path => ?portReset⟩
  case data => exact next_finish_congr s (dataFlit_eq s p.val sq.val mark slots l)
  case mgmt => exact next_finish_congr s (mgmtFlit_eq s p.val sq.val mark ws l)
  case reserved => exact next_linkFlit s p.val sq.val l _ _ rfl
  case linkReset => exact next_linkFlit s p.val sq.val l _ _ rfl
  case portReset => exact next_finish_congr s (writeVia_bflCmd s path p)

end Sys2Proof.Machine
end

section
/-!
PROOF. The invariant that steps keep, and where it fails (R255, R326, R327, R347).
-/
namespace Sys2Proof.Machine

/-! ### The invariant -/

/-- The end of a command's step empties what is left over and holds contained ports OFF, whatever the effect was. -/
theorem finish_inv (s e : State) : (s.finish e).Inv :=
  ⟨finish_actions s e, finish_raises s e, fun p hp => enforce_off _ p hp⟩

/-- CCLK edges touch neither consequences, raises, records nor ports. -/
theorem pass_inv (s : State) (n : Nat) (h : s.Inv) : (s.pass n).Inv := by
  obtain ⟨hactions, hraises, hoff⟩ := h
  refine ⟨(pass_actions s n).trans hactions, (pass_raises s n).trans hraises, fun p hp => ?_⟩
  unfold State.contained State.openOf at hp
  rw [pass_ledger] at hp
  unfold State.port
  rw [pass_links]
  exact hoff p hp

/-- What O5 says holds of every step with a command, and of a step without one while no instant is pending. -/
theorem step_keeps_inv_of_command_or_no_instant (s t : State) (h : s.Inv) (hcase : s.pending ≠ [] ∨ s.obs.instants = [])
    (ht : step s = .next t) : t.Inv := by
  unfold step at ht
  cases hq : s.pending with
  | cons c rest =>
    rw [hq] at ht
    obtain ⟨e, he⟩ := exec_finish c { s with pending := rest }
    obtain rfl := Host.Outcome.next.inj (he.symm.trans ht)
    exact finish_inv _ e
  | nil =>
    have hnone : s.obs.instants = [] := hcase.resolve_left (absurd hq)
    rw [hq] at ht
    obtain rfl := Host.Outcome.next.inj ht
    unfold State.idleTick
    split
    · rw [advance_pass s 1 hnone]
      exact pass_inv s 1 h
    · exact h

/-- One CCLK after the reset, with a FREEZE of a command ring pending for 1 ns, which the second CCLK reaches (R347). -/
def freezePending : State :=
  { Tests.running with
    spine := { spine0 with t40 := nominalInc, cclk := 1 }
    obs := { obs0 with instants := [⟨.freeze, 1, .ring 0 0 0⟩] } }

theorem freezePending_inv : freezePending.Inv := ⟨rfl, rfl, fun _ _ => rfl⟩

/-- The CCLK of a step without a command takes the instant, and leaves the end of its ring command to be carried out. -/
theorem freezePending_idleTick : freezePending.idleTick.actions = [.cmdDone (.ring 0 0 0) 0 0] := by decide

/-- Refutes O5: a step without a command ends without `finish`, so the end of the command whose instant came is left over. Else the
claim holds (`step_keeps_inv_of_command_or_no_instant`). -/
theorem not_stepKeepsInvariant : ¬ Obligations.StepKeepsInvariant := by
  intro h
  obtain ⟨hactions, -, -⟩ := h freezePending freezePending.idleTick freezePending_inv rfl
  exact List.cons_ne_nil _ _ (freezePending_idleTick.symm.trans hactions)

end Sys2Proof.Machine
end

section
/-!
PROOF. What 10_lanes_and_port_links says of stacks, training and lane tests (R245 to R262, R317).
-/
namespace Sys2Proof.Machine

/-! ### Training and link errors (R253 to R257, R317) -/

/-- A row's write of PLK_Pnn_CMD.RETRAIN (R254). -/
theorem writeVia_plkCmd (s : State) (path : Path) (p : Fin 64) :
    s.writeVia path (0x300008 + 0x100 * p.val) 1 = s.written path (0x300008 + 0x100 * p.val) 1 (s.portRetrain p.val) := by
  obtain ⟨x, hx, he⟩ := Option.map_eq_some_iff.1 (locate_plkCmd p)
  obtain ⟨hn, hi, hb⟩ : x.row.name = .plkCmd ∧ x.i = p.val ∧ badStrobes x 1 = 0 := by simpa using he
  rw [writeVia_written s path _ _ x (by omega) hx]
  simp [State.writePlace, hn, hi, hb, bitOf]

/-- Settles O58: the effect of each row is the one stated; RETRAIN is a register write, and the train timer finds a result that settles
as in TRAIN. -/
theorem stacksAndTraining : Obligations.StacksAndTraining := by
  intro s
  refine ⟨fun k => ⟨rfl, rfl, rfl⟩, fun p => ⟨rfl, fun r => rfl, fun o => ?timeout, rfl, fun rate width => rfl,
    fun path => ?retrain, fun width => rfl, rfl, fun c => ⟨rfl, rfl⟩⟩⟩
  case retrain => exact next_finish_congr s (writeVia_plkCmd s path p)
  case timeout =>
    refine next_finish_congr s (ite_congr rfl (fun _ => rfl) fun htrain => ?_)
    cases o with
    | none => rfl
    | some r => exact ite_congr rfl (fun _ => rfl) fun _ => if_neg htrain

/-! ### Lane tests (R258 to R262) -/

/-- Port 3 UP on the 16 lanes of stack S00. -/
def laneUp : State := (Tests.portUp 3).modPort 3 (fun x => { x with prov := some 0 })

/-- A timing margin of 5 steps with DWELL 1 that starts on lane 0 notes the port it measures, so that it ends with the link (R259). -/
theorem laneUp_marginTiming_port :
    ((Tests.after laneUp (.marginTiming (.fw 0) 0 (5 * 2 ^ 22 + 2 ^ 8))).lane 0).marginPort = some 3 := by decide

/-- Refutes O59: a margin command that starts also notes the port whose lane it measures (`laneUp_marginTiming_port`), which the
statement leaves as it was: here none. -/
theorem not_laneTests : ¬ Obligations.LaneTests := by
  intro h
  obtain ⟨hmargin, -⟩ := h laneUp (.fw 0) 0
  obtain ⟨-, htiming, -⟩ := hmargin (5 * 2 ^ 22 + 2 ^ 8)
  have hport := congrArg (fun t => (t.lane 0).marginPort) (Host.Outcome.next.inj htiming)
  exact absurd (laneUp_marginTiming_port.symm.trans hport) (by decide)

end Sys2Proof.Machine
end

section
/-!
PROOF. A command ring enabled and drained: what a write of CMR_Rrr_CTL leaves of the rings (R264, R265, R276, R278).
-/
namespace Sys2Proof.Machine

/-! ### One ring of the table -/

/-- A change of a ring is read back. -/
theorem ring_modRing_same (s : State) (r : Nat) (f : Ring → Ring) (hwf : twf ring0 s.rings.rings = true) :
    (s.modRing r f).ring r = f (s.ring r) := tget_tmod_same ring0 s.rings.rings r f hwf

/-- A change of a ring leaves every other ring. -/
theorem ring_modRing_other (s : State) (r j : Nat) (f : Ring → Ring) (hwf : twf ring0 s.rings.rings = true) (hj : j ≠ r) :
    (s.modRing r f).ring j = s.ring j := tget_tmod_other ring0 s.rings.rings r j f hwf hj

/-- A change of a ring keeps the canonical form of the table. -/
theorem modRing_wf (s : State) (r : Nat) (f : Ring → Ring) (hwf : twf ring0 s.rings.rings = true) :
    twf ring0 (s.modRing r f).rings.rings = true := twf_tmod ring0 s.rings.rings r f hwf

/-- A raise for kept fields does not touch the rings. -/
theorem keptRaise_rings (s : State) (off kept : Nat) : (s.keptRaise off kept).rings = s.rings := by
  unfold State.keptRaise
  split <;> rfl

/-! ### Disabling (R278) -/

/-- Whether a draining ring is disabled now concerns that ring alone. -/
theorem ring_ringDone_other (s : State) (r j : Nat) (hwf : twf ring0 s.rings.rings = true) (hj : j ≠ r) :
    (s.ringDone r).ring j = s.ring j := by
  unfold State.ringDone
  split
  · exact ring_modRing_other s r j _ hwf hj
  · rfl

/-- A draining ring goes on draining, or is disabled when no command of it waits. -/
theorem ring_ringDone_same (s : State) (r : Nat) (hwf : twf ring0 s.rings.rings = true) :
    (s.ringDone r).ring r = s.ring r ∨
      (s.ring r).waits = [] ∧ (s.ringDone r).ring r = { s.ring r with phase := .disabled, discard := false } := by
  unfold State.ringDone
  split
  case isTrue h => exact .inr ⟨List.isEmpty_iff.1 h.2, ring_modRing_same s r _ hwf⟩
  case isFalse => exact .inl rfl

/-- A ring that begins to drain without a reset: nothing staged, no completion held, no fetch. -/
def Ring.drained (x : Ring) : Ring := { x with phase := .draining, held := [], staged := none, fetch := none }

/-- EN = 0 on a ring that is not disabled drains it. -/
theorem ringDisable_of_enabled (s : State) (r : Nat) (h : (s.ring r).phase ≠ .disabled) :
    s.ringDisable r false = (s.modRing r Ring.drained).ringDone r := by
  unfold State.ringDisable
  simp only [h, if_false, Bool.or_false]
  rfl

theorem ring_ringDisable_other (s : State) (r j : Nat) (hwf : twf ring0 s.rings.rings = true) (hj : j ≠ r)
    (h : (s.ring r).phase ≠ .disabled) : (s.ringDisable r false).ring j = s.ring j := by
  rw [ringDisable_of_enabled s r h, ring_ringDone_other _ r j (modRing_wf s r _ hwf) hj, ring_modRing_other s r j _ hwf hj]

theorem ring_ringDisable_same (s : State) (r : Nat) (hwf : twf ring0 s.rings.rings = true) (h : (s.ring r).phase ≠ .disabled) :
    (s.ringDisable r false).ring r = (s.ring r).drained ∨
      (s.ring r).waits = [] ∧
        (s.ringDisable r false).ring r = { (s.ring r).drained with phase := .disabled, discard := false } := by
  have hdone := ring_ringDone_same (s.modRing r Ring.drained) r (modRing_wf s r _ hwf)
  rwa [← ringDisable_of_enabled s r h, ring_modRing_same s r _ hwf] at hdone

/-! ### A write of CMR_Rrr_CTL (R14, R264) -/

set_option maxRecDepth 20000 in
/-- The first field of CMR_Rrr_CTL is EN. -/
theorem locate_ringCtl_en : ∀ r : Fin 64, (locate (offCmr r.val + 0x10)).map (fun x => (x.row.name, x.row.fields.head?)) =
    some (.cmrCtl, some ⟨31, 31, .rwi, 0, true, []⟩) := by decide

/-- The word that a write of CMR_Rrr_CTL would leave on a disabled ring (R14, R263). -/
def ringCtlNew (x : Place) (old w : Nat) : Nat :=
  let merged := (mergePlace (· == .rwi) x old w).1
  if bitOf w 30 && bitOf w 29 then setBits merged 30 29 (bitsOf old 30 29) else merged

theorem ringCtl_eq (s : State) (r : Nat) : s.ringCtl r = (s.dir (0xB40010 + 0x40 * r)).toNat := by
  rw [State.ringCtl, show offCmr r + 0x10 = 0xB40010 + 0x40 * r by unfold offCmr; omega]

/-- A write of CMR_Rrr_CTL leaves EN as it was written. -/
theorem mergePlace_en (x : Place) (old w : Nat) (hn : x.row.name = .cmrCtl)
    (hf : x.row.fields.head? = some ⟨31, 31, .rwi, 0, true, []⟩) :
    bitOf (mergePlace (· == .rwi) x old w).1 31 = bitOf w 31 := by
  obtain ⟨fs, hfs⟩ := List.head?_eq_some_iff.1 hf
  have hen : (bitsOf w 31 31).testBit 0 = w.testBit 31 := testBit_bitsOf w 31 31 0
  simpa [mergePlace, hn, hfs, mergeFields, FieldRow.isBad, bitOf, testBit_setBits] using hen

theorem ringCtlNew_en (x : Place) (old w : Nat) (hn : x.row.name = .cmrCtl)
    (hf : x.row.fields.head? = some ⟨31, 31, .rwi, 0, true, []⟩) : bitOf (ringCtlNew x old w) 31 = bitOf w 31 := by
  rw [← mergePlace_en x old w hn hf]
  unfold ringCtlNew
  dsimp only
  split
  · exact testBit_setBits _ 30 29 _ 31 (by decide)
  · rfl

/-- The word kept of a write of CMR_Rrr_CTL on a ring that is not disabled: EN, IRQ and the vector (R264), and EN = 0 while it drains. -/
def ringCtlKept (old new : Nat) (phase : RingPhase) : Nat :=
  let kept := setBits (setBits (setBits old 31 31 (bitsOf new 31 31)) 18 18 (bitsOf new 18 18)) 6 0 (bitsOf new 6 0)
  if bitOf new 31 && phase == .draining then setBits kept 31 31 0 else kept

theorem ringCtlKept_en (old new : Nat) (phase : RingPhase) :
    bitOf (ringCtlKept old new phase) 31 = (bitOf new 31 && phase != .draining) := by
  unfold ringCtlKept
  dsimp only
  split
  case isTrue hlate =>
    obtain ⟨-, hdraining⟩ := Bool.and_eq_true_iff.1 hlate
    simp [bitOf, testBit_setBits, eq_of_beq hdraining]
  case isFalse hlate =>
    have hen : (bitsOf new 31 31).testBit 0 = bitOf new 31 := testBit_bitsOf new 31 31 0
    rw [bitOf, testBit_setBits _ _ _ _ _ (by decide), if_neg (by decide), testBit_setBits _ _ _ _ _ (by decide), if_neg (by decide),
      testBit_setBits _ _ _ _ _ (by decide), if_pos (by decide), hen]
    cases hbit : bitOf new 31
    · rfl
    · simpa [hbit] using hlate

theorem ring_keptRaise (s : State) (off kept r : Nat) : (s.keptRaise off kept).ring r = s.ring r := by
  rw [State.ring, keptRaise_rings, State.ring]

/-- On a disabled ring, EN = 1 starts it, and EN = 0 leaves the rings. -/
theorem ringCtlWrite_of_disabled (s : State) (r : Fin 64) (w : Nat) (h : (s.ring r.val).phase = .disabled) :
    ∃ t : State, t.rings.rings = s.rings.rings ∧ s.ringCtlWrite r.val w = if bitOf w 31 then t.ringEnable r.val else t := by
  obtain ⟨x, hx, he⟩ := Option.map_eq_some_iff.1 (locate_ringCtl_en r)
  obtain ⟨hn, hf⟩ := Prod.mk.inj he
  have hen := ringCtlNew_en x (s.ringCtl r.val) w hn hf
  unfold State.ringCtlWrite
  simp only [hx, ring_keptRaise, h]
  refine ⟨_, ?_, if_congr (Eq.congr_left hen) rfl rfl⟩
  exact congrArg Rings.rings (keptRaise_rings s _ _)

/-- Counting a dropped write of a set-up register leaves the rings. -/
theorem ite_setupDrop_rings (s : State) (c : Prop) [Decidable c] : (if c then s.setupDrop else s).rings.rings = s.rings.rings := by
  split <;> rfl

/-- On a ring that is not disabled, EN = 0 where it was 1 disables it, and else the rings stay; EN of a draining ring stays 0. -/
theorem ringCtlWrite_of_enabled (s : State) (r : Fin 64) (w : Nat) (h : (s.ring r.val).phase ≠ .disabled) :
    ∃ t : State, t.rings.rings = s.rings.rings ∧ s.ringCtlWrite r.val w =
      if bitOf (s.ringCtl r.val) 31 ∧ !(bitOf w 31 && (s.ring r.val).phase != .draining) then t.ringDisable r.val false else t := by
  obtain ⟨x, hx, he⟩ := Option.map_eq_some_iff.1 (locate_ringCtl_en r)
  obtain ⟨hn, hf⟩ := Prod.mk.inj he
  have hkept := ringCtlKept_en (s.ringCtl r.val) (ringCtlNew x (s.ringCtl r.val) w) (s.ring r.val).phase
  rw [ringCtlNew_en x (s.ringCtl r.val) w hn hf] at hkept
  unfold State.ringCtlWrite
  simp only [hx, ring_keptRaise]
  cases hphase : (s.ring r.val).phase
  case disabled => exact absurd hphase h
  all_goals
    rw [hphase] at hkept
    refine ⟨_, ?_, if_congr (and_congr_right fun _ => Eq.congr_left (congrArg (!·) hkept)) rfl rfl⟩
    exact (ite_setupDrop_rings _ _).trans (congrArg Rings.rings (keptRaise_rings s _ _))

/-! ### EN = 1 and EN = 0 (R265, R276, R278) -/

theorem ring_of_rings_eq {s t : State} (h : t.rings.rings = s.rings.rings) (j : Nat) : t.ring j = s.ring j := by
  rw [State.ring, h, State.ring]

/-- A write of CMR_Rrr_CTL touches no other ring. -/
theorem ring_ringCtlWrite_other (s : State) (r : Fin 64) (w j : Nat) (hwf : twf ring0 s.rings.rings = true) (hj : j ≠ r.val) :
    (s.ringCtlWrite r.val w).ring j = s.ring j := by
  by_cases h : (s.ring r.val).phase = .disabled
  · obtain ⟨t, ht, he⟩ := ringCtlWrite_of_disabled s r w h
    rw [he, ← ring_of_rings_eq ht j]
    split
    · exact ring_modRing_other t r.val j _ (ht ▸ hwf) hj
    · rfl
  · obtain ⟨t, ht, he⟩ := ringCtlWrite_of_enabled s r w h
    rw [he, ← ring_of_rings_eq ht j]
    split
    · exact ring_ringDisable_other t r.val j (ht ▸ hwf) hj (ring_of_rings_eq ht r.val ▸ h)
    · rfl

/-- EN = 1 starts a disabled ring afresh: only what waits for its completion stays. -/
theorem ring_ringCtlWrite_start (s : State) (r : Fin 64) (w : Nat) (hwf : twf ring0 s.rings.rings = true)
    (h : (s.ring r.val).phase = .disabled) (hen : bitOf w 31 = true) :
    (s.ringCtlWrite r.val w).ring r.val = { ring0 with phase := .running, waits := (s.ring r.val).waits } := by
  obtain ⟨t, ht, he⟩ := ringCtlWrite_of_disabled s r w h
  rw [he, if_pos hen, State.ringEnable, ring_modRing_same t r.val _ (ht ▸ hwf), ring_of_rings_eq ht]

/-- EN = 0 drains an enabled ring, which is disabled when no command of it waits. -/
theorem ring_ringCtlWrite_drain (s : State) (r : Fin 64) (w : Nat) (hwf : twf ring0 s.rings.rings = true)
    (h : (s.ring r.val).phase ≠ .disabled) (hold : bitOf (s.ringCtl r.val) 31 = true) (hen : bitOf w 31 = false) :
    (s.ringCtlWrite r.val w).ring r.val = (s.ring r.val).drained ∨
      (s.ring r.val).waits = [] ∧
        (s.ringCtlWrite r.val w).ring r.val = { (s.ring r.val).drained with phase := .disabled, discard := false } := by
  obtain ⟨t, ht, he⟩ := ringCtlWrite_of_enabled s r w h
  have hsame := ring_of_rings_eq ht r.val
  rw [he, if_pos ⟨hold, by simp [hen]⟩, ← hsame]
  exact ring_ringDisable_same t r.val (ht ▸ hwf) (hsame ▸ h)

/-- Settles O36: on a disabled ring the write starts it, on another it drains it, and both change that ring alone. -/
theorem ringEnableAndDrain : Obligations.RingEnableAndDrain := by
  intro s r w j hwf hj
  refine ⟨ring_ringCtlWrite_other s r w j hwf hj, fun _ h hen => ring_ringCtlWrite_start s r w hwf h hen, fun hw h hold => ?_⟩
  obtain hdrained | ⟨hwaits, hdisabled⟩ := ring_ringCtlWrite_drain s r w hwf h (ringCtl_eq s r.val ▸ hold) (Nat.testBit_lt_two_pow hw)
  · rw [hdrained]
    exact ⟨.inl rfl, rfl, rfl⟩
  · rw [hdisabled]
    exact ⟨.inr ⟨rfl, hwaits⟩, rfl, rfl⟩

end Sys2Proof.Machine
end

section
/-!
PROOF. Doorbells of a command ring and the check of a descriptor that has arrived (R264 to R268, R275, R312).
-/
namespace Sys2Proof.Machine

/-! ### Doorbells and EN (R265, R275) -/

/-- A register without reserved encodings refuses no strobe (R14). -/
theorem place_of_no_reserved {off i : Nat} {n : RegName} (w : Nat)
    (h : (locate off).map (fun x => (x.row.name, x.i, x.row.fields.all (fun f => f.bad.isEmpty))) = some (n, i, true)) :
    ∃ x, locate off = some x ∧ x.row.name = n ∧ x.i = i ∧ badStrobes x w = 0 := by
  obtain ⟨x, hx, he⟩ := Option.map_eq_some_iff.1 h
  obtain ⟨hn, hi, hf⟩ : x.row.name = n ∧ x.i = i ∧ x.row.fields.all (fun f => f.bad.isEmpty) = true := by simpa using he
  refine ⟨x, hx, hn, hi, ?_⟩
  unfold badStrobes
  rw [List.length_eq_zero_iff, List.filter_eq_nil_iff]
  intro f hmem
  simp [FieldRow.isBad, List.isEmpty_iff.1 (List.all_eq_true.1 hf f hmem)]

/-- The index that a doorbell writes is the field of 16 bits. -/
theorem bitsOf_doorbell (idx : Fin 65536) : bitsOf idx.val 15 0 = idx.val := Nat.mod_eq_of_lt idx.isLt

/-- A row's write of CMR_Rrr_SQ_DB. -/
theorem writeVia_sqDb (s : State) (path : Path) (r : Fin 64) (idx : Fin 65536) :
    s.writeVia path (0xB00000 + 0x1000 * r.val) idx.val =
      s.written path (0xB00000 + 0x1000 * r.val) idx.val (s.sqDoorbell r.val idx.val) := by
  obtain ⟨x, hx, hn, hi, hb⟩ := place_of_no_reserved idx.val (locate_sqDb r)
  rw [writeVia_written s path _ _ x (by omega) hx]
  simp [State.writePlace, hn, hi, hb, bitsOf_doorbell]

/-- A row's write of CMR_Rrr_CQ_DB. -/
theorem writeVia_cqDb (s : State) (path : Path) (r : Fin 64) (idx : Fin 65536) :
    s.writeVia path (0xB00004 + 0x1000 * r.val) idx.val =
      s.written path (0xB00004 + 0x1000 * r.val) idx.val (s.cqDoorbell r.val idx.val) := by
  obtain ⟨x, hx, hn, hi, hb⟩ := place_of_no_reserved idx.val (locate_cqDb r)
  rw [writeVia_written s path _ _ x (by omega) hx]
  simp [State.writePlace, hn, hi, hb, bitsOf_doorbell]

/-- A row's write of CMR_Rrr_CTL. -/
theorem writeVia_ringCtl (s : State) (path : Path) (r : Fin 64) (w : Nat) :
    s.writeVia path (0xB40010 + 0x40 * r.val) w =
      s.written path (0xB40010 + 0x40 * r.val) w (s.ringCtlWrite r.val w) := by
  obtain ⟨x, hx, he⟩ := Option.map_eq_some_iff.1 (locate_ringCtl r)
  obtain ⟨hn, hi, hf⟩ : x.row.name = .cmrCtl ∧ x.i = r.val ∧ x.row.fields.any (fun f => f.acc == .wos) = false := by simpa using he
  rw [writeVia_written s path _ _ x (by omega) hx]
  simp [State.writePlace, hn, hi, badStrobes_of_no_strobe x _ hf]

/-- Settles O35: each row is the write of its register, whose effect is the doorbell or the write of EN. -/
theorem ringDoorbells : Obligations.RingDoorbells := by
  intro s path r
  exact ⟨fun idx => next_finish_congr s (writeVia_sqDb s path r idx), fun idx => next_finish_congr s (writeVia_cqDb s path r idx),
    fun ctl => next_finish_congr s (writeVia_ringCtl s path r _), next_finish_congr s (writeVia_ringCtl s path r _)⟩

/-! ### Descriptors that have arrived (R265 to R268) -/

/-- What a descriptor that is taken up does: a failed read of it stops its ring (R275), and else its command, in wait from now on, ends
at the check stage or joins the checked ones (R267, R268). -/
def State.takeUp (s : State) (r : Nat) (f : Fetch) : State :=
  let c := (s.ring r).c
  match f.q with
  | none => s.ringStop r 2 c
  | some q =>
    let w : Waiting := ⟨c, cTag q, qfld (cq q 0) 16 16 == 1, cOp q, cHop q != 0, 0, 0, s.cclkNow⟩
    let taken := s.modRing r (fun x => { x with c := wrapInc 16 x.c, waits := x.waits ++ [w], fetch := none })
    match taken.checkCmd (taken.ringGrant r) false q (quadsOf f.got) (!f.failed) with
    | some (st, res) => taken.done (.ring r c (cTag q)) st res
    | none => taken.modRings (fun y => { y with checked := y.checked ++ [⟨.ring r c (cTag q), q, quadsOf f.got⟩] })

theorem descriptorFetched_of_no_fetch (s : State) (r : Nat) (h : (s.ring r).fetch = none) : s.descriptorFetched r = s := by
  unfold State.descriptorFetched
  simp only [h]

/-- A descriptor is taken up when its ring may take it, it is ready, and the turn is its ring's; the turn goes on to the next ring. -/
theorem descriptorFetched_of_fetch (s : State) (r : Nat) (f : Fetch) (h : (s.ring r).fetch = some f) : s.descriptorFetched r =
    if !s.mayTake r || !s.fetchReady r f || !s.turnOf r then s
    else (s.modRings (fun y => { y with turn := (r + 1) % 64 })).takeUp r f := by
  have hready : s.descReady r = (s.mayTake r && s.fetchReady r f) := by rw [State.descReady, h]
  unfold State.descriptorFetched
  simp only [h, hready, Bool.not_and]
  rfl

/-- Settles O37: without a fetch nothing happens; else the descriptor is taken up, unless it is not ready or another ring's turn comes
before. -/
theorem descriptorFetch : Obligations.DescriptorFetch := by
  intro s r x done
  cases hfetch : x.fetch with
  | none => exact next_finish_congr s (descriptorFetched_of_no_fetch s r.val hfetch)
  | some f =>
    refine next_finish_congr s ((descriptorFetched_of_fetch s r.val f hfetch).trans (ite_congr ?turn (fun _ => rfl) fun _ => ?taken))
    case turn => rw [State.turnOf, Bool.not_not]; rfl
    case taken =>
      unfold State.takeUp
      cases hq : f.q with
      | none => rfl
      | some q => rfl

end Sys2Proof.Machine
end

section
/-!
PROOF. The data mover: the function page's doorbells, ring enables and vector masks, descriptors that start, NOP and the scheduler's
next request (R265, R283, R288 to R292, R296, R305).
-/
namespace Sys2Proof.Machine

/-! ### One word of the function page (R283) -/

theorem length_leBytes (n v : Nat) : (leBytes n v).length = n := by
  induction n generalizing v with
  | zero => rfl
  | succ n ih => exact congrArg (· + 1) (ih (v / 256))

/-- The bytes of a number spell it, cut to their length. -/
theorem leNat_leBytes (n v : Nat) : leNat (leBytes n v) = v % 256 ^ n := by
  induction n generalizing v with
  | zero => rw [Nat.pow_zero, Nat.mod_one]; rfl
  | succ n ih =>
    have hbyte : (BitVec.ofNat 8 v).toNat = v % 256 := BitVec.toNat_ofNat v 8
    rw [leBytes, leNat, ih, hbyte, Nat.pow_succ', Nat.mod_mul]

/-- A row's aligned 32-bit write reaches its word while the page answers. -/
theorem pageWord_eq (s : State) (f off w : Nat) (h4 : off % 4 = 0) (hw : w < 2 ^ 32) :
    s.pageWord f off w = if s.pageOn f then s.pageWrite f off w else s := by
  have hword : leNat ((leBytes 4 w).take 4) = w := by
    rw [List.take_of_length_le (length_leBytes 4 w).le, leNat_leBytes]
    exact Nat.mod_eq_of_lt hw
  unfold State.pageWord State.pageStore pageWords
  by_cases hon : s.pageOn f
  · simp [hon, h4, length_leBytes, hword]
  · simp [hon]

/-! ### The words that rows write (R283, R305) -/

theorem pageWrite_sqDb (s : State) (f : Nat) (k : Fin 64) (idx : Fin 65536) :
    s.pageWrite f (8 * k.val) idx.val = s.dmvSqDb f k.val idx.val := by
  have hidx : idx.val % 65536 = idx.val := Nat.mod_eq_of_lt idx.isLt
  unfold State.pageWrite
  rw [if_pos (by omega), if_pos (by omega), hidx, Nat.mul_div_cancel_left _ (by decide)]

theorem pageWrite_cqDb (s : State) (f : Nat) (k : Fin 64) (idx : Fin 65536) :
    s.pageWrite f (8 * k.val + 4) idx.val = s.dmvCqDb f k.val idx.val := by
  have hidx : idx.val % 65536 = idx.val := Nat.mod_eq_of_lt idx.isLt
  unfold State.pageWrite
  rw [if_pos (by omega), if_neg (by omega), hidx, show (8 * k.val + 4) / 8 = k.val by omega]

theorem pageWrite_ctl (s : State) (f : Nat) (k : Fin 64) (v : Nat) : s.pageWrite f (0x1010 + 0x40 * k.val) v = s.dmvRingCtl f k.val v := by
  unfold State.pageWrite
  rw [if_neg (by omega), if_pos (by omega)]
  simp only [show (0x1010 + 0x40 * k.val) % 0x40 = 0x10 by omega, show (0x1010 + 0x40 * k.val - 0x1000) / 0x40 = k.val by omega]

/-- A vector control word takes its mask bit, where the function has the entry. -/
theorem pageWrite_msixMask (s : State) (f : Nat) (e : Fin 256) (masked : Bool) :
    s.pageWrite f (0x8000 + 16 * e.val + 12) (b2n masked) =
      if e.val < (s.dfn f).vecLimit then s.dmvMsixWrite f (4 * e.val + 3) (b2n masked) else s := by
  unfold State.pageWrite
  rw [if_neg (by omega), if_neg (by omega), show (0x8000 + 16 * e.val + 12 - 0x8000) / 4 = 4 * e.val + 3 by omega]
  exact if_congr (by omega) rfl rfl

/-- A mask releases the entry's backing; an unmask backs the entry and releases its messages (R288). -/
theorem dmvMsixWrite_mask (s : State) (f e : Nat) (masked : Bool) :
    s.dmvMsixWrite f (4 * e + 3) (b2n masked) =
      (let t := s.modFn f (fun x => { x with msix := tput (msixReset (4 * e + 3)) x.msix (4 * e + 3) (BitVec.ofNat 32 (b2n masked)) })
      if masked then t.modFn f (fun x => { x with backed := sdel x.backed e }) else (t.backEntry f e).dmvMsixRelease f) := by
  have hword : (4 * e + 3) % 4 = 3 := by omega
  have hentry : (4 * e + 3) / 4 = e := by omega
  unfold State.dmvMsixWrite
  simp only [hword, hentry, b2n_mod_two, if_true]
  cases masked <;> rfl

/-- EN written into a ring's CTL is a word of 32 bits. -/
theorem setBits_en_lt (ctl : Word) (v : Nat) : setBits ctl.toNat 31 31 v < 2 ^ 32 := by
  refine Nat.lt_pow_two_of_testBit _ fun i hi => ?_
  rw [testBit_setBits _ _ _ _ _ (by decide), if_neg (by omega)]
  exact Nat.testBit_lt_two_pow (ctl.isLt.trans_le (Nat.pow_le_pow_right (by decide) hi))

/-- A row's write of a ring's EN, the other fields as they stand. -/
theorem moverRing_eq (s : State) (f : Nat) (k : Fin 64) (en : Bool) : s.moverRing f k.val en =
    if s.pageOn f then s.dmvRingCtl f k.val (setBits (s.dring f k.val).ctl.toNat 31 31 (b2n en)) else s := by
  rw [State.moverRing, pageWord_eq s f _ _ (by omega) (setBits_en_lt _ _), pageWrite_ctl]

/-! ### Doorbells (R265, R291) -/

theorem dmvSqDb_eq (s : State) (f k idx : Nat) : s.dmvSqDb f k idx =
    (let r := s.dring f k
    if r.phase = .disabled ∨ r.phase = .noResource then s
    else if r.size < (idx + 65536 - r.c) % 65536 ∨ r.size < (idx + 65536 - r.h) % 65536 then
      (if r.phase = .running then s.dmvStop f k 1 idx else s)
    else (if idx = r.c then s.dropFetch f k else s).modDring f k (fun x => { x with p := idx })) := by
  unfold State.dmvSqDb
  refine ite_congr rfl (fun _ => rfl) fun _ => ite_congr rfl (fun _ => rfl) fun _ => ?_
  exact (apply_ite (fun t : State => t.modDring f k (fun x => { x with p := idx })) _ _ _).symm

/-! ### The statement -/

/-- A row's write of a word of the page, whose effect is known. -/
theorem next_pageWord (s : State) (f off w : Nat) {e : State} (h4 : off % 4 = 0) (hw : w < 2 ^ 32) (he : s.pageWrite f off w = e) :
    Host.Outcome.next (s.finish (s.pageWord f off w)) =
      (.next (s.finish (if s.pageOn f then e else s)) : Host.Outcome State Fault Refusal) :=
  next_finish_congr s (he ▸ pageWord_eq s f off w h4 hw)

theorem b2n_lt (b : Bool) : b2n b < 2 ^ 32 := by cases b <;> decide

/-- Settles O60: each row of the page is the write of its word; a descriptor's start, NOP and the scheduler's request are the engine's
own steps, which the statement writes out. -/
theorem moverCommands : Obligations.MoverCommands := by
  intro s
  refine ⟨fun fn n => ⟨fun idx => ⟨?sqDb, ?cqDb⟩, ?enable, ?disable, fun entry masked => ?mask, rfl⟩, rfl, rfl, rfl, rfl, rfl, rfl⟩
  case sqDb =>
    exact next_pageWord s fn.val _ _ (by omega) (by omega) ((pageWrite_sqDb s fn.val n idx).trans (dmvSqDb_eq s fn.val n.val idx.val))
  case cqDb => exact next_pageWord s fn.val _ _ (by omega) (by omega) (pageWrite_cqDb s fn.val n idx)
  case enable => exact next_finish_congr s (moverRing_eq s fn.val n true)
  case disable => exact next_finish_congr s (moverRing_eq s fn.val n false)
  case mask =>
    refine next_pageWord s fn.val _ _ (by omega) (b2n_lt masked) ((pageWrite_msixMask s fn.val entry masked).trans ?_)
    rw [dmvMsixWrite_mask]

end Sys2Proof.Machine
end

section
/-!
PROOF. When the end of a step changes nothing (R326, R255), and an upset that it finds (R55, R418).
-/
namespace Sys2Proof.Machine

/-! ### A still state at the end of a step -/

/-- A still state in which no word has a latent upset is where a step ends during which no CCLK passed: the case of O6 that holds. -/
theorem finish_of_still (s0 s : State) (h : s.Still) (ha : s.regs.latActive = []) (hd : s.regs.latDirect = [])
    (hclk : s.cclkNow - s0.cclkNow = 0) : s0.finish s = { s with pending := s0.pending } := by
  obtain ⟨hactions, hraises, hoff⟩ := h.inv
  have hquiet : s.quiet = true := by simp [State.quiet, hactions, hraises]
  unfold State.finish
  simp only [heatPump_eq_self s h.heat, settle_of_still s h, usedSince_eq_self s0 s ha hd, hquiet, if_true, hclk,
    flitPump_zero s (boundary_of_still s h), enforce_of_off s h.ports hoff]
  rw [← hactions, ← hraises]

/-! ### A latent upset in the management complex -/

/-- The running device, with an upset of MGT_TAMPER_CTL that no check has met yet (R55), an instruction in the test access port, and what
was given out. -/
def tapUpset (i : TapInstr) (out : List Output) : State :=
  { Tests.running with
    regs := { Tests.running.regs with latDirect := [0x1200050] }
    mgmt := { Tests.running.mgmt with tap := i }
    outbox := out }

theorem tapUpset_still (i : TapInstr) (out : List Output) : (tapUpset i out).Still where
  inv := ⟨rfl, rfl, fun _ _ => rfl⟩
  ports := rfl
  mover := rfl
  waiting := rfl
  commandSet := rfl
  rings := ⟨rfl, rfl⟩
  heat := rfl
  migrations := ⟨rfl, fun _ h => absurd h List.not_mem_nil⟩
  credits _ h := absurd h List.not_mem_nil
  report h := by rcases h with h | h <;> cases h
  flits _ h := absurd h List.not_mem_nil

/-- BYPASS uses the words of the management complex, and the upset is found. -/
theorem bypass_finds_upset : ((tapUpset .idcode []).finish (tapUpset .bypass [.tdo 0])).regs.latDirect = [] := by decide

/-- Refutes O6: a still state may hold a word with a latent upset, which the end of a step finds where its effect used the word. Else the
claim holds while no CCLK passes (`finish_of_still`). -/
theorem not_quietEffectEndsUnchanged : ¬ Obligations.QuietEffectEndsUnchanged := by
  intro h
  have hsame := congrArg (fun t => t.regs.latDirect) (h (tapUpset .idcode []) _ (tapUpset_still .bypass [.tdo 0]))
  exact List.cons_ne_nil _ _ (hsame.symm.trans bypass_finds_upset)

/-- Refutes O24: the same upset, in a still state before BYPASS, is found at the end of its step, so that a register's parity differs too. -/
theorem not_testPortFrame : ¬ Obligations.TestPortFrame := by
  intro h
  obtain ⟨htap, -⟩ := h (tapUpset .idcode []) ((tapUpset .idcode []).finish (tapUpset .bypass [.tdo 0])) (tapUpset_still .idcode [])
  have hsame := congrArg (fun t => t.regs.latDirect) (htap .bypass (.inl (by decide)) rfl)
  exact List.cons_ne_nil _ _ (hsame.symm.trans bypass_finds_upset)

end Sys2Proof.Machine
end

section
/-!
PROOF. What 16_power_entry_and_slots says of a slot channel: trips, lost cards, EN and REARM, timers (R358 to R365, R371).
-/
namespace Sys2Proof.Machine

/-! ### A slot channel after a change -/

theorem slotCh_modSlotCh_same (s : State) (k : Nat) (f : SlotChan → SlotChan) (h : twf slot0 s.power.slots = true) :
    (s.modSlotCh k f).slotCh k = f (s.slotCh k) := tget_tmod_same slot0 _ _ _ h

theorem slotCh_modSlotCh_other (s : State) (k j : Nat) (f : SlotChan → SlotChan) (h : twf slot0 s.power.slots = true) (hj : j ≠ k) :
    (s.modSlotCh k f).slotCh j = s.slotCh j := tget_tmod_other slot0 _ _ _ _ h hj

/-- A channel that is not left as an unlisted one reads as what it was made. -/
theorem slotCh_modSlotCh_of_ne (s : State) (k : Nat) (f : SlotChan → SlotChan) (h : f (s.slotCh k) ≠ slot0) :
    (s.modSlotCh k f).slotCh k = f (s.slotCh k) := by
  have htab : (s.modSlotCh k f).power.slots = tins s.power.slots k (f (s.slotCh k)) := if_neg h
  unfold State.slotCh tget at *
  rw [htab, tfind_tins_same]
  rfl

/-! ### Trips and lost cards (R358, R361, R362) -/

/-- What a trip with a cause does to a channel (R358, R361). -/
def SlotChan.tripped (c : SlotChan) (retryMax cause : Nat) : SlotChan :=
  { c.down with cause := cause, trips := wrapInc 8 c.trips, age := 0, phase := if c.retries < retryMax then .faultWait else .latched }

theorem tripped_phase_ne_off (c : SlotChan) (n cause : Nat) : (c.tripped n cause).phase ≠ .off := by
  unfold SlotChan.tripped
  split <;> exact SlotPhase.noConfusion

/-- A trip takes its channel down, to FAULTWAIT or LATCHED. -/
theorem slotCh_slotTrip (s : State) (k cause : Nat) : (s.slotTrip k cause).slotCh k = (s.slotCh k).tripped s.retryMax cause :=
  slotCh_modSlotCh_of_ne s k _ fun he => tripped_phase_ne_off _ _ _ (congrArg SlotChan.phase he)

theorem slotCh_slotTrip_other (s : State) (k j cause : Nat) (h : twf slot0 s.power.slots = true) (hj : j ≠ k) :
    (s.slotTrip k cause).slotCh j = s.slotCh j := slotCh_modSlotCh_other s k j _ h hj

theorem slotPort_of_ne_off (s : State) (k : Nat) (h : (s.slotCh k).phase ≠ .off) :
    s.slotPort k = if bitOf (s.slotCh k).cfg.toNat 25 then some (fld (s.slotCh k).cfg 31 26) else none := by
  unfold State.slotPort
  simp only [if_neg h]

/-- A channel that is not OFF serves the same port after a trip as before. -/
theorem slotTrip_eq (s : State) (k cause : Nat) (h : (s.slotCh k).phase ≠ .off) : s.slotTrip k cause =
    (s.modSlotCh k (fun c => c.tripped s.retryMax cause)).raise { raise0 with src := 1504 + k, aux := cause, port := s.slotPort k } := by
  have hch : (s.modSlotCh k (fun c => c.tripped s.retryMax cause)).slotCh k = _ := slotCh_slotTrip s k cause
  have hport : (s.modSlotCh k (fun c => c.tripped s.retryMax cause)).slotPort k = s.slotPort k := by
    rw [slotPort_of_ne_off _ k (by rw [hch]; exact tripped_phase_ne_off _ _ _), slotPort_of_ne_off s k h, hch]
    rfl
  rw [← hport]
  rfl

/-- A card lost in a powering or pending state takes the channel down to EMPTY (R362). -/
theorem slotCh_slotLost (s : State) (k : Nat) (h : twf slot0 s.power.slots = true) (hp : (s.slotCh k).present = true)
    (hphase : (s.slotCh k).phase ∈ [SlotPhase.pending, .precharge, .ramp, .on]) : (s.slotLost k).slotCh k =
      { (s.slotCh k).down with present := false, held := 0, absent := some 0, phase := .empty, age := 0 } := by
  have hlost : s.slotLost k = s.modSlotCh k _ := if_neg (by simp [hp])
  rw [hlost, slotCh_modSlotCh_same s k _ h]
  simp only [List.mem_cons, List.not_mem_nil, or_false] at hphase
  rcases hphase with hphase | hphase | hphase | hphase <;> simp only [hphase] <;> rfl

theorem slotCh_slotLost_other (s : State) (k j : Nat) (h : twf slot0 s.power.slots = true) (hj : j ≠ k) :
    (s.slotLost k).slotCh j = s.slotCh j := by
  unfold State.slotLost
  split
  · rfl
  · exact slotCh_modSlotCh_other s k j _ h hj

/-- Settles O26: both events take their channel down, and change no other. -/
theorem slotFaultTurnsOff : Obligations.SlotFaultTurnsOff := by
  intro s k j cause h
  refine ⟨?trip, fun hp hphase => ?lost⟩
  case trip =>
    intro t
    have hk : t.slotCh k = _ := slotCh_slotTrip s k cause
    rw [hk]
    exact ⟨rfl, rfl, rfl, rfl, rfl, rfl, rfl, ite_eq_or_eq _ _ _, slotCh_slotTrip_other s k j cause h⟩
  case lost =>
    intro t
    have hk : t.slotCh k = _ := slotCh_slotLost s k h hp hphase
    rw [hk]
    exact ⟨rfl, rfl, rfl, rfl, rfl, slotCh_slotLost_other s k j h⟩

/-! ### EN, REARM and the rows of a channel (R358, R371) -/

theorem powering_iff (p : SlotPhase) : p.powering = true ↔ p = .precharge ∨ p = .ramp ∨ p = .on := by
  cases p <;> simp [SlotPhase.powering]

theorem not_slotsStill_iff (s : State) : (!s.slotsStill) = true ↔ s.glb.mode ≠ .quiesced := by
  simp [State.slotsStill]

/-- A row's write of PWR_SLOTss_CTL sets EN and REARM (R358). -/
theorem writeVia_slotCtl (s : State) (path : Path) (k : Fin 16) (w : Nat) (hw : w ∈ [0, 2 ^ 30, 2 ^ 31, 2 ^ 31 + 2 ^ 30]) :
    s.writeVia path (0x1100000 + 0x40 * k.val) w = s.written path (0x1100000 + 0x40 * k.val) w (s.slotCtlWrite k.val w) := by
  obtain ⟨x, hx, he⟩ := Option.map_eq_some_iff.1 (locate_slotCtl k)
  obtain ⟨hn, hi, hb⟩ : x.row.name = .pwrSlotCtl ∧ x.i = k.val ∧ _ = true := by simpa only [Prod.mk.injEq] using he
  have hb : badStrobes x w = 0 := eq_of_beq (List.all_eq_true.1 hb w hw)
  rw [writeVia_written s path _ _ x (by omega) hx]
  simp [State.writePlace, hn, hi, hb]

theorem slotCtlWrite_en (s : State) (k : Nat) : s.slotCtlWrite k (2 ^ 31) = s.slotEnable k := by
  unfold State.slotCtlWrite
  rw [if_neg (by decide), if_pos (by decide)]

theorem slotCtlWrite_zero (s : State) (k : Nat) : s.slotCtlWrite k 0 = if s.slotEn k then s.slotDisable k else s.setDir (offSlot k) 0 := by
  unfold State.slotCtlWrite
  rw [if_neg (by decide), if_neg (by decide)]

/-- REARM with EN as it stands. -/
theorem slotCtlWrite_rearm (s : State) (k : Nat) : s.slotCtlWrite k (2 ^ 31 * b2n (s.slotEn k) + 2 ^ 30) =
    (if s.slotEn k then s.slotEnable k else s.setDir (offSlot k) 0).slotRearm k := by
  unfold State.slotCtlWrite
  cases h : s.slotEn k
  · rw [if_pos (by decide), if_neg (by decide)]; rfl
  · rw [if_pos (by decide), if_pos (by decide)]; rfl

theorem rearm_word_mem (b : Bool) : 2 ^ 31 * b2n b + 2 ^ 30 ∈ [0, 2 ^ 30, 2 ^ 31, 2 ^ 31 + 2 ^ 30] := by cases b <;> decide

theorem slotRearm_eq (s : State) (k : Nat) : s.slotRearm k =
    (if (s.slotCh k).phase = .latched ∧ s.glb.mode ≠ .quiesced then
        let r := s.modSlotCh k (fun c => { c with retries := 0 })
        if (r.slotCh k).present then r.toPending k else r.modSlotCh k (fun c => { c with phase := .empty, age := 0 })
      else s) := by
  unfold State.slotRearm
  simp only [not_slotsStill_iff]

theorem slotEnable_glb (s : State) (k : Nat) : (s.slotEnable k).glb = s.glb := by
  unfold State.slotEnable
  exact (apply_ite State.glb _ _ _).trans (ite_self _)

/-- Settles O25: EN and REARM are writes of the register, a trip finds its channel not OFF, and each other effect is the one stated. -/
theorem slotChannel : Obligations.SlotChannel := by
  refine ⟨fun s path k => ⟨?enable, ?disable, ?rearm⟩, fun s k => ⟨rfl, rfl, rfl, rfl, rfl, ?good, ?retry⟩,
    fun s k => ⟨?short, ?fault, ?pchg, ?ramp, rfl, ?uv⟩⟩
  case enable => exact next_finish_congr s ((writeVia_slotCtl s path k _ (by decide)).trans (congrArg _ (slotCtlWrite_en s k.val)))
  case disable => exact next_finish_congr s ((writeVia_slotCtl s path k _ (by decide)).trans (congrArg _ (slotCtlWrite_zero s k.val)))
  case rearm =>
    refine next_finish_congr s ((writeVia_slotCtl s path k _ (rearm_word_mem _)).trans
      (congrArg _ ((slotCtlWrite_rearm s k.val).trans ((slotRearm_eq _ _).trans ?_))))
    have hglb : (if s.slotEn k.val then s.slotEnable k.val else s.setDir (offSlot k.val) 0).glb = s.glb := by
      split
      · exact slotEnable_glb s k.val
      · rfl
    rw [hglb]
    rfl
  case good => exact next_finish_congr s (if_congr (and_congr_left' (not_slotsStill_iff s)) rfl rfl)
  case retry => exact next_finish_congr s (if_congr (and_congr_left' (not_slotsStill_iff s)) rfl rfl)
  case short =>
    refine next_finish_congr s (ite_congr (propext (powering_iff _)) (fun h => slotTrip_eq s _ _ fun hoff => ?_) fun _ => rfl)
    rw [hoff] at h
    simp at h
  case fault =>
    refine next_finish_congr s ((?_ : s.slotOvercurrent k.val = _))
    unfold State.slotOvercurrent
    cases (s.slotCh k.val).fault with
    | none => rfl
    | some a =>
      refine ite_congr rfl (fun h => slotTrip_eq s _ _ fun hoff => ?_) fun _ => rfl
      rw [hoff] at h
      simp at h
  case pchg =>
    exact next_finish_congr s (ite_congr rfl (fun h => slotTrip_eq s _ _ (by rw [h.1]; exact SlotPhase.noConfusion)) fun _ => rfl)
  case ramp =>
    exact next_finish_congr s (ite_congr rfl (fun h => slotTrip_eq s _ _ (by rw [h.1]; exact SlotPhase.noConfusion)) fun _ => rfl)
  case uv =>
    refine next_finish_congr s (congrArg (State.each _ _) (funext fun u => funext fun j => ?_))
    exact if_congr (and_congr_right' (not_slotsStill_iff u)) rfl rfl

end Sys2Proof.Machine
end

section
/-!
PROOF. What 16_power_entry_and_slots says of the reach of the power manager, and of the feed controller (R358, R366 to R370).
-/
namespace Sys2Proof.Machine

/-! ### What the commands of the power manager touch (R358, R366) -/

/-- Power entry and the list of raises alone differ. -/
def State.OnlyPower (s t : State) : Prop := t = { s with power := t.power, raises := t.raises }

namespace State.OnlyPower

theorem refl (s : State) : s.OnlyPower s := rfl

theorem trans {s t u : State} (h : s.OnlyPower t) (h' : t.OnlyPower u) : s.OnlyPower u := by
  unfold State.OnlyPower at *
  rw [h] at h'
  exact h'

variable {s t : State}

theorem modPow (h : s.OnlyPower t) (f : Power → Power) : s.OnlyPower (t.modPow f) := h.trans rfl
theorem modSlotCh (h : s.OnlyPower t) (k : Nat) (f : SlotChan → SlotChan) : s.OnlyPower (t.modSlotCh k f) := h.trans rfl
theorem modFeed (h : s.OnlyPower t) (b : Bool) (f : Feed → Feed) : s.OnlyPower (t.modFeed b f) := h.trans rfl
theorem raise (h : s.OnlyPower t) (i : RaiseInfo) : s.OnlyPower (t.raise i) := h.trans rfl
theorem raiseDev (h : s.OnlyPower t) (n : Nat) : s.OnlyPower (t.raiseDev n) := h.trans rfl

theorem ite {p : Prop} [Decidable p] {u : State} (h : s.OnlyPower t) (h' : s.OnlyPower u) : s.OnlyPower (if p then t else u) := by
  split
  · exact h
  · exact h'

theorem toPending (h : s.OnlyPower t) (k : Nat) : s.OnlyPower (t.toPending k) :=
  ite ((h.modSlotCh k _).modSlotCh k _) (h.modSlotCh k _)

theorem slotTrip (h : s.OnlyPower t) (k cause : Nat) : s.OnlyPower (t.slotTrip k cause) := (h.modSlotCh k _).raise _

theorem warnOn (h : s.OnlyPower t) : s.OnlyPower t.warnOn := ite h ((h.modPow _).raiseDev _)

theorem setFeed (h : s.OnlyPower t) (f : FeedPhase) : s.OnlyPower (t.setFeed f) := ite (h.modPow _).warnOn (h.modPow _)

theorem feedPick (h : s.OnlyPower t) : s.OnlyPower t.feedPick := ite h (ite (h.setFeed _) (ite (h.setFeed _) h))

theorem feedBreak (h : s.OnlyPower t) : s.OnlyPower t.feedBreak := by
  unfold State.feedBreak
  cases t.activeFeed with
  | none => exact h
  | some f => exact ite (h.setFeed _) h

theorem slotAbsent (h : s.OnlyPower t) (k : Nat) : s.OnlyPower (t.slotAbsent k) := by
  unfold State.slotAbsent
  cases (t.slotCh k).absent with
  | none => exact h
  | some a => exact ite h (h.modSlotCh k _)

theorem slotOvercurrent (h : s.OnlyPower t) (k : Nat) : s.OnlyPower (t.slotOvercurrent k) := by
  unfold State.slotOvercurrent
  cases (t.slotCh k).fault with
  | none => exact h
  | some a => exact ite (h.slotTrip k 2) h

theorem slotRelease (h : s.OnlyPower t) (k : Nat) : s.OnlyPower (t.slotRelease k) := by
  unfold State.slotRelease
  cases (t.slotCh k).release with
  | none => exact h
  | some a => exact ite (h.modSlotCh k _) h

theorem slotUv (h : s.OnlyPower t) : s.OnlyPower t.slotUv :=
  each_inv _ s.OnlyPower (fun _ k hu => ite ((hu.modSlotCh k _).toPending k) hu) _ _ (ite h ((h.modPow _).raiseDev _))

theorem feedGood (h : s.OnlyPower t) (b : Bool) : s.OnlyPower (t.feedGood b) :=
  have turn {u : State} (b : Bool) (h : s.OnlyPower u) : s.OnlyPower (if 8 ≤ (u.feedOf b).inWindow ∧ !(u.feedOf b).good then
      u.modFeed b (fun x => { x with good := true, goodFor := 0 }) else u) := ite (h.modFeed b _) h
  ite h (turn _ (turn _ h)).feedPick.feedBreak

theorem feedRampTimeout (h : s.OnlyPower t) : s.OnlyPower t.feedRampTimeout := by
  unfold State.feedRampTimeout
  cases t.power.feed with
  | ramp b fresh => exact ite h (((h.setFeed _).modFeed b _).raiseDev _).feedPick
  | none | brk _ | on _ => exact h

theorem feedBarEnd (h : s.OnlyPower t) (b : Bool) : s.OnlyPower (t.feedBarEnd b) := by
  unfold State.feedBarEnd
  cases (t.feedOf b).barred with
  | none => exact h
  | some a => exact ite h (h.modFeed b _).feedPick.feedBreak

theorem breakEnd (h : s.OnlyPower t) : s.OnlyPower t.breakEnd := by
  unfold State.breakEnd
  cases t.power.feed with
  | brk b => exact ((h.setFeed _).modPow _).raiseDev _
  | none | ramp _ _ | on _ => exact h

theorem feedRevert (h : s.OnlyPower t) : s.OnlyPower t.feedRevert := by
  unfold State.feedRevert
  cases t.power.feed with
  | on b => exact ite (h.setFeed _) h
  | none | ramp _ _ | brk _ => exact h

theorem feedBelowWarn (h : s.OnlyPower t) : s.OnlyPower t.feedBelowWarn := by
  unfold State.feedBelowWarn
  cases t.activeFeed with
  | none => exact h
  | some b => exact (h.modPow _).warnOn

end State.OnlyPower

open State.OnlyPower in
/-- Settles O28: each effect is made of changes of power entry and raises. -/
theorem powerFrame : Obligations.PowerFrame := by
  intro s k b
  have hs : s.OnlyPower s := .refl s
  suffices h : ∀ t ∈ _, s.OnlyPower t from h
  simp only [List.forall_mem_cons, List.not_mem_nil, false_imp_iff, implies_true, and_true]
  exact ⟨ite hs (hs.modSlotCh k _), ite hs (hs.modSlotCh k _), ite (hs.toPending k) hs, hs.slotAbsent k, ite (hs.slotTrip k 4) hs,
    ite (hs.slotTrip k 5) hs, hs.slotOvercurrent k, ite (hs.slotTrip k 1) hs, ite hs (ite (hs.modSlotCh k _) (hs.modSlotCh k _)), hs.slotUv,
    ite ((hs.modSlotCh k _).toPending k) hs, hs.slotRelease k, ite (hs.modSlotCh k _) hs, hs.feedGood b,
    ite (hs.modFeed b _) ((hs.modFeed b _).raiseDev _).feedBreak, hs.feedRampTimeout, hs.feedBarEnd b, hs.breakEnd, hs.feedRevert,
    hs.feedBelowWarn, ite (hs.modPow _) hs⟩

/-! ### The feed controller (R366, R368) -/

theorem feedFree_iff (s : State) (b : Bool) : s.feedFree b = true ↔ (s.feedOf b).good = true ∧ (s.feedOf b).barred = none := by
  simp [State.feedFree]

theorem feedBreak_eq (s : State) : s.feedBreak =
    (match s.activeFeed with
      | some f => if !(s.feedOf f).good ∧ (s.feedOf (!f)).good ∧ (s.feedOf (!f)).barred = none then s.setFeed (.brk f) else s
      | none => s) := by
  unfold State.feedBreak
  cases s.activeFeed with
  | none => rfl
  | some f => simp only [feedFree_iff]

theorem feedGood_eq (s : State) (b : Bool) : s.feedGood b =
    (if (s.feedOf b).inWindow < 8 ∨ (s.feedOf b).good then s
      else
        let one := s.modFeed b (fun x => { x with good := true, goodFor := 0 })
        let both := if 8 ≤ (one.feedOf (!b)).inWindow ∧ !(one.feedOf (!b)).good then
          one.modFeed (!b) (fun x => { x with good := true, goodFor := 0 }) else one
        both.feedPick.feedBreak) := by
  unfold State.feedGood
  refine ite_congr rfl (fun _ => rfl) fun h => ?_
  obtain ⟨hin, hgood⟩ := not_or.1 h
  simp only
  rw [if_pos (c := 8 ≤ (s.feedOf b).inWindow ∧ (!(s.feedOf b).good) = true) ⟨Nat.not_lt.1 hin, by simpa using hgood⟩]

theorem feedRevert_eq (s : State) : s.feedRevert =
      (match s.power.feed with
      | .on f => if f ≠ s.primary ∧ bitOf (s.dir 0x1100800).toNat 30 ∧ ((s.feedOf s.primary).good ∧ (s.feedOf s.primary).barred = none)
          ∧ 160 * s.dirF 0x1100800 23 16 ≤ (s.feedOf s.primary).goodFor
          ∧ 160 * s.dirF 0x1100800 23 16 ≤ s.power.primaryFor then s.setFeed (.brk f) else s
      | _ => s) := by
  unfold State.feedRevert
  cases s.power.feed with
  | on f => simp only [feedFree_iff, le_min_iff]
  | none | ramp _ _ | brk _ => rfl

/-- Settles O27: each effect with its picks and breaks written out. -/
theorem feedSelection : Obligations.FeedSelection := by
  intro s b
  refine ⟨?good, ?bad, rfl, ?bar, rfl, ?revert, rfl, rfl⟩
  case good =>
    exact next_finish_congr s ((feedGood_eq s b).trans (ite_congr rfl (fun _ => rfl) fun _ => feedBreak_eq _))
  case bad => exact next_finish_congr s (ite_congr rfl (fun _ => rfl) fun _ => feedBreak_eq _)
  case bar =>
    refine next_finish_congr s ?_
    unfold State.feedBarEnd
    cases (s.feedOf b).barred with
    | none => rfl
    | some a => exact ite_congr rfl (fun _ => rfl) fun _ => feedBreak_eq _
  case revert => exact next_finish_congr s (feedRevert_eq s)

end Sys2Proof.Machine
end

section
/-!
PROOF. What 17_management_complex says of images, the colophon and flash (R378 to R387, R399).
-/
namespace Sys2Proof.Machine

/-! ### Verification of an image (R379, R380, R382) -/

/-- A usable key slot with the digest of the keys (R379, R380, R390). -/
theorem holdsKeys_iff (o : Otp) (keys : List Byte) : o.holdsKeys keys = true ↔
    ∃ k, k < 4 ∧ (tget keySlot0 o.slots k).revoked = false ∧ (tget keySlot0 o.slots k).digest = some (Config.sha384 keys) := by
  unfold Otp.holdsKeys Otp.usable
  rw [List.any_eq_true]
  refine exists_congr fun k => ?_
  simp only [List.mem_range, Bool.and_eq_true, Bool.not_eq_true', beq_iff_eq]
  refine and_congr_right fun _ => ⟨fun ⟨⟨_, hr⟩, hd⟩ => ⟨hr, hd⟩, fun ⟨hr, hd⟩ => ⟨⟨by rw [hd]; rfl, hr⟩, hd⟩⟩

/-- An image verifies exactly when each check of R379 and R380 holds. -/
theorem verifies_iff (m : Mgmt) (b ed pq : Bool) :
    (let len := m.imgNum b 0x10 4
    let plan := m.imgNum b 0x18 4
    let mode := m.codeByte b plan
    m.verifies b ed pq = true ↔
      m.imgNum b 0 4 = 0x445A4331 ∧ m.imgNum b 4 4 = 1 ∧ len % 4 = 0 ∧ len ≤ 524288 ∧ m.imgNum b 0x14 4 < len ∧
      1 ≤ m.imgNum b 0x1C 4 ∧ plan + m.imgNum b 0x1C 4 ≤ len ∧ (1 ≤ mode ∧ mode ≤ 3) ∧
      (∃ k, k < 4 ∧ (tget keySlot0 m.otp.slots k).revoked = false ∧
        (tget keySlot0 m.otp.slots k).digest = some (Config.sha384 (m.flashRead (slotBaseOf b + 0x20) 0x7C0))) ∧
      m.otp.floor ≤ m.imgNum b 0xC 2 ∧ ed = true ∧ pq = true) := by
  unfold Mgmt.verifies
  simp only [Bool.and_eq_true, beq_iff_eq, decide_eq_true_eq, holdsKeys_iff, and_assoc]

/-- Settles O11: the row ends a verification as the model does, and an image verifies when its conjunction of checks does. -/
theorem imageVerification : Obligations.ImageVerification := ⟨fun _ _ _ _ => rfl, verifies_iff⟩

/-! ### The preferred image and the colophon (R383, R386) -/

/-- A row's write of MGT_START_CTL.ACT (R383). -/
theorem writeVia_startCtl (s : State) (path : Path) (act : Nat) (h : act ∈ [1, 2, 3, 4, 5]) :
    s.writeVia path 0x1200008 act = s.written path 0x1200008 act (s.startCtl act) := by
  have hloc : (locate 0x1200008).map (fun x => (x.row.name, badStrobes x act)) = some (.mgtStartCtl, 0) := by
    revert act; decide
  have hact : bitsOf act 3 0 = act := by revert act; decide
  obtain ⟨x, hn, hb, hw⟩ := writeVia_named s path 0x1200008 act .mgtStartCtl rfl hloc
  rw [hw]
  simp [State.writePlace, hn, hb, hact]

/-- PREFER and TRIAL of a slot begin its verification unless one runs (R383). -/
theorem startCtl_prefer (s : State) (b trial : Bool) : s.startCtl ((if trial then 3 else 1) + b2n b) =
    if s.mgmt.verifying.isSome then s.startRefuse else s.modMgt (fun m => { m with verifying := some (b, trial) }) := by
  cases trial <;> cases b <;> rfl

set_option maxRecDepth 20000 in
/-- Where MGT_COLO_IDX lies (R399). -/
theorem locate_coloIdx : (locate 0x1200020).map (fun x => (x.row.name, x.i, x.row.fields.all (fun f => f.bad.isEmpty))) =
    some (.mgtColoIdx, 0, true) := by decide

/-- A row's write of MGT_COLO_IDX.BACK. -/
theorem writeVia_coloIdx (s : State) (path : Path) (back : Fin 1024) :
    s.writeVia path 0x1200020 back.val = s.written path 0x1200020 back.val (s.coloSelect back.val) := by
  obtain ⟨x, hx, hn, -, hb⟩ := place_of_no_reserved back.val locate_coloIdx
  have hback : bitsOf back.val 9 0 = back.val := Nat.mod_eq_of_lt back.isLt
  rw [writeVia_written s path _ _ x rfl hx]
  simp [State.writePlace, hn, hb, hback]

theorem coloSelect_eq (s : State) (back : Fin 1024) : s.coloSelect back.val =
    (s.setDir 0x1200020 (BitVec.ofNat 32 back.val)).modMgt (fun m => { m with coloReady := false }) := by
  unfold State.coloSelect
  rw [Nat.mod_eq_of_lt back.isLt]

/-- Settles O15: the rows of MGT_START_CTL and MGT_COLO_IDX are writes of their registers; the rest is by the record or the operation that
is there. -/
theorem imagesAndColophon : Obligations.ImagesAndColophon := by
  refine ⟨fun s path b => ⟨?pref, ?trial, ?clear, fun ed pq => ?verified⟩, fun s path back => ⟨?append, ?select, rfl⟩⟩
  case pref =>
    refine next_finish_congr s ((writeVia_startCtl s path _ (by cases b <;> decide)).trans (congrArg _ ?_))
    exact startCtl_prefer s b false
  case trial =>
    refine next_finish_congr s ((writeVia_startCtl s path _ (by cases b <;> decide)).trans (congrArg _ ?_))
    exact startCtl_prefer s b true
  case clear => exact next_finish_congr s (writeVia_startCtl s path 5 (by decide))
  case verified =>
    refine next_finish_congr s ?_
    unfold State.prefVerified
    rcases s.mgmt.verifying with _ | ⟨slotB, trial⟩ <;> rfl
  case append =>
    refine next_finish_congr s ?_
    unfold State.coloAppend
    rcases s.mgmt.coloQueue with _ | ⟨r, rest⟩ <;> rcases s.mgmt.flashOp with _ | o <;> rfl
  case select => exact next_finish_congr s ((writeVia_coloIdx s path back).trans (congrArg _ (coloSelect_eq s back)))

/-! ### Bytes of flash (R378) -/

/-- What stands at a key after values are put at `a`, `a + 1`, … : the value put there, and elsewhere what stood there. -/
theorem tget_tputs_zipIdx {α β : Type} [DecidableEq β] (d : β) (f : α → β) (z : α) (a b : Nat) :
    ∀ (l : List α) (i : Nat) (t : Tbl β), twf d t = true →
    tget d (tputs d t ((l.zipIdx i).map (fun x => (a + x.2, f x.1)))) b =
      if a + i ≤ b ∧ b < a + i + l.length then f (l.getD (b - (a + i)) z) else tget d t b
  | [], i, t, _ => by rw [List.length_nil, if_neg (by omega)]; rfl
  | x :: l, i, t, h => by
    have hstep : tputs d t (((x :: l).zipIdx i).map (fun x => (a + x.2, f x.1))) =
        tputs d (tput d t (a + i) (f x)) ((l.zipIdx (i + 1)).map (fun x => (a + x.2, f x.1))) := rfl
    rw [hstep, tget_tputs_zipIdx d f z a b l (i + 1) _ (twf_tput d t _ _ h), List.length_cons]
    by_cases hb : b = a + i
    · subst hb
      rw [if_neg (by omega), if_pos (by omega), tget_tput_same d t _ _ h, Nat.sub_self, List.getD_cons_zero]
    · rw [tget_tput_other d t _ _ _ h hb]
      by_cases hin : a + (i + 1) ≤ b ∧ b < a + (i + 1) + l.length
      · obtain ⟨k, hk⟩ : ∃ k, b = a + i + 1 + k := ⟨b - (a + i + 1), by omega⟩
        rw [if_pos hin, if_pos (by omega), show b - (a + i) = k + 1 by omega, show b - (a + (i + 1)) = k by omega, List.getD_cons_succ]
      · rw [if_neg hin, if_neg (by omega)]

/-- A byte of flash after bytes are put: the byte put there, or what stood there (R378). -/
theorem flashByte_flashPut (m : Mgmt) (a b : Nat) (l : List Byte) (h : Memory.wf 0 m.flash = true) :
    (m.flashPut a l).flashByte b = if a ≤ b ∧ b < a + l.length then l.getD (b - a) 0 else m.flashByte b := by
  have hget := tget_tputs_zipIdx (0 : Byte) (fun x : Byte => 255 - x) 0 a b l 0 m.flash h
  unfold Mgmt.flashByte Mgmt.flashPut
  refine (congrArg (255 - ·) hget).trans ?_
  rw [apply_ite (255 - ·), sub_sub_cancel]
  rfl

/-- Outside the colophon area bytes read are those of flash. -/
theorem flashRead_getD (m : Mgmt) (a n k : Nat) (hk : k < n) (ha : 0x10000 ≤ a) : (m.flashRead a n).getD k 0 = m.flashByte (a + k) := by
  simp [Mgmt.flashRead, hk, show ¬ a + k < 0x10000 by omega]

theorem length_flashRead (m : Mgmt) (a n : Nat) : (m.flashRead a n).length = n := by simp [Mgmt.flashRead]

/-- Settles O17: the page holds what was put, which is the bytewise AND, and every other byte what it held. -/
theorem flashMemoryFrame : Obligations.FlashMemoryFrame := by
  intro m a buf h hlen ha
  have hzip : ((buf.zip (m.flashRead a 256)).map (fun x => x.1 &&& x.2)).length = 256 := by simp [length_flashRead, hlen]
  refine ⟨wf_flashPut m a _ h, fun b hb => ?_, fun k hk => ?_⟩
  · rw [flashByte_flashPut m a b _ h, hzip, if_neg (by omega)]
  · rw [flashByte_flashPut m a _ _ h, hzip, if_pos (by omega), Nat.add_sub_cancel_left, ← flashRead_getD m a 256 k hk ha]
    simp [length_flashRead, hlen, hk, List.getD_eq_getElem?_getD]

/-! ### Flash operations (R384) -/

set_option maxRecDepth 20000 in
/-- Where MGT_FLASH_CMD lies, and its fields: OP takes 0 to 3 (R384, R399). -/
theorem locate_flashCmd : (locate 0x1200010).map (fun x => (x.row.name, x.row.fields)) =
    some (.mgtFlashCmd, [fr 31 28 .wos 0 [(4, 15)], rz 27 24 .wos, fr 23 0 .wos 0 []]) := by decide

/-- A write of MGT_FLASH_CMD with one of its four operations. -/
theorem writeVia_flashCmd (s : State) (path : Path) (w : Nat) (hop : bitsOf w 31 28 < 4) :
    s.writeVia path 0x1200010 w = s.written path 0x1200010 w (s.flashCmd (bitsOf w 31 28) (bitsOf w 23 0)) := by
  obtain ⟨x, hx, he⟩ := Option.map_eq_some_iff.1 locate_flashCmd
  obtain ⟨hn, hf⟩ := Prod.mk.inj he
  have hb : badStrobes x w = 0 := by simp [badStrobes, hf, FieldRow.isBad, fr, rz, hop]
  rw [writeVia_written s path _ _ x rfl hx]
  simp [State.writePlace, hn, hb]

/-- A row's write of MGT_FLASH_CMD (R384). -/
theorem flashWrite_eq (s : State) (path : Path) (op : Nat) (a : Fin 16777216) (hop : op < 4) :
    s.flashWrite path op a.val = s.written path 0x1200010 (2 ^ 28 * op + a.val) (s.flashCmd op a.val) := by
  have ha := a.isLt
  have hopf : bitsOf (2 ^ 28 * op + a.val) 31 28 = op := by
    unfold bitsOf
    rw [Nat.shiftRight_eq_div_pow]
    omega
  have haf : bitsOf (2 ^ 28 * op + a.val) 23 0 = a.val := by
    unfold bitsOf
    rw [Nat.shiftRight_zero]
    omega
  unfold State.flashWrite
  rw [writeVia_flashCmd s path _ (by rw [hopf]; exact hop), hopf, haf]

/-- A change of the management complex is what it makes of the complex that stands. -/
theorem modMgt_congr {s : State} {f g : Mgmt → Mgmt} (h : f s.mgmt = g s.mgmt) : s.modMgt f = s.modMgt g := by
  unfold State.modMgt
  rw [h]

/-- Settles O16: a row of MGT_FLASH_CMD is a write of its register, and the end of an operation is by its kind and whether it failed. -/
theorem flashOperations : Obligations.FlashOperations := by
  intro s path a
  refine ⟨next_finish_congr s (flashWrite_eq s path 1 a (by decide)), next_finish_congr s (flashWrite_eq s path 2 a (by decide)),
    next_finish_congr s (flashWrite_eq s path 3 a (by decide)), ?_⟩
  intro ended
  have hended (err : Bool) : s.flashEnd err = ended err := by
    unfold State.flashEnd
    dsimp only [ended]
    rcases s.mgmt.flashOp with _ | ⟨op, x⟩
    · rfl
    · cases op <;> cases err
      case read.false | read.true => exact congrArg₂ State.setFlashBuf rfl rfl
      case program.false => exact modMgt_congr rfl
      case erase.false => rfl
      case program.true | erase.true => exact congrArg₂ State.modMgt rfl rfl
  exact ⟨fun err => next_finish_congr s (hended err), next_finish_congr s (hended true)⟩

end Sys2Proof.Machine
end

section
/-!
PROOF. What 17_management_complex says of fuses, the life cycle and command sets (R389, R390).
-/
namespace Sys2Proof.Machine

/-! ### What a command leaves of the fuses (R389, R390) -/

/-- The key slots with all four revoked (R389: the entry into RETURN). -/
def revokeAll (t : Tbl KeySlot) : Tbl KeySlot :=
  (List.range 4).foldl (fun l k => tmod keySlot0 l k (fun x => { x with revoked := true })) t

/-- What a command that the fuses accept leaves of them (R389, R390): a new life cycle, a digest, a revoked slot, a higher floor, or what stood. -/
theorem otpApply_cases {o n : Otp} {c : CsetCmd} {last : Bool} (h : o.apply c last = some n) :
    (∃ t, o.mayAdvance t = true ∧ n = { o with lc := t, slots := if t = .returned then revokeAll o.slots else o.slots }) ∨
    (∃ k d, n = { o with slots := tmod keySlot0 o.slots k (fun x => { x with digest := some d }) }) ∨
    (∃ k, n = { o with slots := tmod keySlot0 o.slots k (fun x => { x with revoked := true }) }) ∨
    (∃ f, o.floor ≤ f ∧ n = { o with floor := f }) ∨ n = o := by
  unfold Otp.apply at h
  split at h
  case h_1 =>
    cases hlc : lcOf c.arg with
    | none => simp [hlc] at h
    | some t =>
      simp only [hlc, Option.ite_none_right_eq_some, Bool.and_eq_true, Option.some.injEq] at h
      exact .inl ⟨t, h.1.1, h.2.symm⟩
  case h_2 =>
    simp only [Option.ite_none_right_eq_some, Option.some.injEq] at h
    exact .inr (.inl ⟨_, _, h.2.symm⟩)
  case h_3 =>
    simp only [Option.ite_none_right_eq_some, Option.some.injEq] at h
    exact .inr (.inr (.inl ⟨_, h.2.2.symm⟩))
  case h_4 =>
    simp only [Option.ite_none_right_eq_some, Option.some.injEq] at h
    exact .inr (.inr (.inr (.inl ⟨_, h.1.2, h.2.symm⟩)))
  case h_5 =>
    simp only [Option.ite_none_right_eq_some, Option.some.injEq] at h
    exact .inr (.inr (.inr (.inr h.2.symm)))
  case h_6 => cases h

/-- A change of a key slot that takes back no revocation takes back none in any slot. -/
theorem revoked_tmod (t : Tbl KeySlot) (j k : Nat) (f : KeySlot → KeySlot) (hf : ∀ x, x.revoked = true → (f x).revoked = true)
    (hw : twf keySlot0 t = true) (hk : (tget keySlot0 t k).revoked = true) : (tget keySlot0 (tmod keySlot0 t j f) k).revoked = true := by
  by_cases h : k = j
  · subst h; rw [tget_tmod_same _ _ _ _ hw]; exact hf _ hk
  · rw [tget_tmod_other _ _ _ _ _ hw h]; exact hk

theorem revoked_foldl_revoke (k : Nat) (l : List Nat) : ∀ t : Tbl KeySlot, twf keySlot0 t = true → (tget keySlot0 t k).revoked = true →
    (tget keySlot0 (l.foldl (fun t j => tmod keySlot0 t j (fun x => { x with revoked := true })) t) k).revoked = true := by
  induction l with
  | nil => exact fun _ _ h => h
  | cons j l ih => exact fun t hw h => ih _ (twf_tmod _ _ _ _ hw) (revoked_tmod t j k _ (fun _ _ => rfl) hw h)

theorem revoked_revokeAll (t : Tbl KeySlot) (k : Nat) (hw : twf keySlot0 t = true) (hk : (tget keySlot0 t k).revoked = true) :
    (tget keySlot0 (revokeAll t) k).revoked = true := revoked_foldl_revoke k _ t hw hk

/-- R389's table. -/
theorem mayAdvance_mem {o : Otp} {t : LifeCycle} (h : o.mayAdvance t = true) : (o.lc, t) ∈
    [(.blank, .provision), (.provision, .deployed), (.deployed, .returned), (.provision, .retired), (.deployed, .retired),
     (LifeCycle.returned, LifeCycle.retired)] := by
  unfold Otp.mayAdvance at h
  split at h <;> simp_all

theorem lcCode_le_of_mem : ∀ x ∈ [(LifeCycle.blank, LifeCycle.provision), (.provision, .deployed), (.deployed, .returned), (.provision, .retired),
    (.deployed, .retired), (.returned, .retired)], lcCode x.1 ≤ lcCode x.2 := by decide

/-- Settles O19: R389's table, and the four other commands, each of which keeps the life cycle. -/
theorem lifeCycleOrder : Obligations.LifeCycleOrder := by
  intro o n c last h
  rcases otpApply_cases h with ⟨t, ht, rfl⟩ | ⟨j, d, rfl⟩ | ⟨j, rfl⟩ | ⟨f, hf, rfl⟩ | rfl
  case inl =>
    have hmem := mayAdvance_mem ht
    refine ⟨.inr hmem, lcCode_le_of_mem _ hmem, le_rfl, fun k _ hw hk => ?_⟩
    show (tget keySlot0 (if t = .returned then revokeAll o.slots else o.slots) k).revoked = true
    split
    · exact revoked_revokeAll _ _ hw hk
    · exact hk
  case inr.inl => exact ⟨.inl rfl, le_rfl, le_rfl, fun k _ hw hk =>
    revoked_tmod o.slots j k (fun x => { x with digest := some d }) (fun _ h => h) hw hk⟩
  case inr.inr.inl => exact ⟨.inl rfl, le_rfl, le_rfl, fun k _ hw hk =>
    revoked_tmod o.slots j k (fun x => { x with revoked := true }) (fun _ _ => rfl) hw hk⟩
  case inr.inr.inr.inl => exact ⟨.inl rfl, le_rfl, hf, fun k _ _ hk => hk⟩
  case inr.inr.inr.inr => exact ⟨.inl rfl, le_rfl, le_rfl, fun k _ _ hk => hk⟩

/-! ### The end of a submission (R390) -/

/-- A submission that is not accepted: RESULT, a new nonce, and source 1,534. -/
theorem csetEnd_of_refused (s : State) (result : Nat) (h : result ≠ 1) : s.csetEnd result =
    ({ s with
        mgmt := { s.mgmt with nonce := Config.freeNat s.freeCtr % 2 ^ 64, csetResult := result, csetBusy := false, csetQ := [] }
        freeCtr := s.freeCtr + 1 } : State).raiseDev 1534 := by
  unfold State.csetEnd
  simp only [if_neg h]
  rfl

/-- The end of the reading of a set (R390). -/
def State.csetReadEnd (s : State) : State := s.modMgt (fun m => { m with csetBusy := false, csetRead := none })

theorem csetRun_of_none (s : State) (ed pq : Bool) (h : s.mgmt.csetRead = none) : s.csetRun ed pq = s := by
  unfold State.csetRun
  rw [h]

theorem csetRun_of_unread (s : State) (ed pq : Bool) (r : CsetRead) (h : s.mgmt.csetRead = some r) (hr : r.ready = false) :
    s.csetRun ed pq = s := by
  unfold State.csetRun
  rw [h]
  simp [hr]

theorem csetRun_of_read (s : State) (ed pq : Bool) (r : CsetRead) (h : s.mgmt.csetRead = some r) (hr : r.ready = true) :
    s.csetRun ed pq = s.csetReadEnd.csetSubmit (if r.failed then none else some r.got) ed pq := by
  unfold State.csetRun
  rw [h]
  simp [hr, State.csetReadEnd]

/-- A set is checked by the fuses, the nonce, the serial number and the mode, which its reading leaves. -/
theorem csetCheck_csetReadEnd (s : State) (l : List Byte) (ed pq : Bool) : s.csetReadEnd.csetCheck l ed pq = s.csetCheck l ed pq := rfl

theorem csetSubmit_none (s : State) (ed pq : Bool) (h : s.mgmt.csetBusy = false) : s.csetSubmit none ed pq = s.csetEnd 9 := by
  unfold State.csetSubmit
  simp [h]

theorem csetSubmit_of_refused (s : State) (l : List Byte) (ed pq : Bool) (h : s.mgmt.csetBusy = false) (hc : s.csetCheck l ed pq ≠ 1) :
    s.csetSubmit (some l) ed pq = s.csetEnd (s.csetCheck l ed pq) := by
  unfold State.csetSubmit
  simp only [h, Bool.false_eq_true, if_false]

theorem csetSubmit_of_accepted (s : State) (l : List Byte) (ed pq : Bool) (h : s.mgmt.csetBusy = false) (hc : s.csetCheck l ed pq = 1) :
    s.csetSubmit (some l) ed pq = s.modMgt (fun m => { m with csetBusy := true, csetQ := setCmds l (setNum l 6 2) }) := by
  unfold State.csetSubmit
  simp only [h, Bool.false_eq_true, if_false, hc]

/-! ### The rows of a set (R389, R390) -/

theorem not_mayAdvance_iff (m : Mode) : (!m.mayAdvance) = true ↔ m ≠ .quiesced ∧ m ≠ .test ∧ m ≠ .endpaper := by
  cases m <;> simp [Mode.mayAdvance]

/-- What follows when the fuses took a command (R389, R390). -/
def State.csetTaken (t : State) (op : Nat) : State :=
  if op = 1 then
    (((if t.mgmt.otp.lc = .retired then
        { t with mgmt := { t.mgmt with flash := t.mgmt.flash.filter (fun x => !decide (0x10000 ≤ x.1 ∧ x.1 < 0x1F0000)) } }
      else t).wipe.colophon 11 0 0xFFFF).csetEnd 1).restart
  else if t.mgmt.csetQ.isEmpty then t.csetEnd 1 else t

theorem csetTaken_one (t : State) : t.csetTaken 1 =
    (((if t.mgmt.otp.lc = .retired then
        { t with mgmt := { t.mgmt with flash := t.mgmt.flash.filter (fun x => !decide (0x10000 ≤ x.1 ∧ x.1 < 0x1F0000)) } }
      else t).wipe.colophon 11 0 0xFFFF).csetEnd 1).restart := by
  unfold State.csetTaken
  rw [if_pos rfl]

theorem csetTaken_of_ne (t : State) (op : Nat) (h : op ≠ 1) : t.csetTaken op = if t.mgmt.csetQ.isEmpty then t.csetEnd 1 else t := by
  unfold State.csetTaken
  rw [if_neg h]

/-- Settles O18: a set by how far it was read and what its check finds, a row by the first waiting command. -/
theorem commandSets : Obligations.CommandSets := by
  refine ⟨fun s ed pq => ⟨?none, fun r h hread => ?unread, fun r h hf => ?failed, fun r h hf hread hc => ?refused,
    fun r h hf hread hc => ?accepted, fun path len => ⟨?busy, ?go⟩⟩, fun s => ?rows⟩
  case none => exact fun h => next_finish_congr s (csetRun_of_none s ed pq h)
  case unread => exact next_finish_congr s (csetRun_of_unread s ed pq r h hread)
  case failed =>
    have hready : r.ready = true := by simp [CsetRead.ready, hf]
    refine next_finish_congr s ((csetRun_of_read s ed pq r h hready).trans ?_)
    rw [hf, if_pos rfl, csetSubmit_none _ _ _ rfl, csetEnd_of_refused _ _ (by decide)]
    rfl
  case refused =>
    refine next_finish_congr s ((csetRun_of_read s ed pq r h hread).trans ?_)
    rw [hf, if_neg Bool.false_ne_true, csetSubmit_of_refused s.csetReadEnd _ _ _ rfl hc, csetCheck_csetReadEnd, csetEnd_of_refused _ _ hc]
    rfl
  case accepted =>
    refine next_finish_congr s ((csetRun_of_read s ed pq r h hread).trans ?_)
    rw [hf, if_neg Bool.false_ne_true, csetSubmit_of_accepted s.csetReadEnd _ _ _ rfl hc]
    rfl
  case busy => exact fun h => if_pos h
  case go =>
    intro h
    refine (if_neg (by simp [h])).trans ?_
    cases path <;> rfl
  case rows =>
    intro row last
    have hrow (op : Nat) (done : State → State) (hdone : ∀ t : State, t.csetTaken op = done t) : s.csetApply op = row op done := by
      unfold State.csetApply
      dsimp only [row]
      rcases s.mgmt.csetQ with _ | ⟨c, rest⟩
      · rfl
      · refine ite_congr rfl (fun _ => rfl) fun _ => ite_congr (propext (and_congr_right' (not_mayAdvance_iff _))) (fun _ => rfl) fun _ => ?_
        cases s.mgmt.otp.apply c rest.isEmpty with
        | none => rfl
        | some o =>
          refine Eq.trans ?_ (hdone (s.modMgt (fun m => { m with otp := o, csetQ := rest, debugOn := m.debugOn || op == 5 })))
          exact ite_congr rfl (fun _ => congrArg (fun t : State => ((t.wipe.colophon 11 0 0xFFFF).csetEnd 1).restart) rfl) fun _ => rfl
    clear_value row
    have hlast (op : Nat) (hop : op ≠ 1) : s.csetApply op = row op last := hrow op last fun t => csetTaken_of_ne t op hop
    exact ⟨next_finish_congr s (hrow 1 _ csetTaken_one), next_finish_congr s (hlast 2 (by decide)),
      next_finish_congr s (hlast 3 (by decide)), next_finish_congr s (hlast 4 (by decide)), next_finish_congr s (hlast 5 (by decide))⟩

end Sys2Proof.Machine
end

section
/-!
PROOF. What 17_management_complex and 18_pins_and_test say of sensors, the bridge, debug accesses, SPDM and the outer ports (R372 to
R377, R385, R391 to R397, R418).
-/
namespace Sys2Proof.Machine

/-! ### Debug accesses and the bridge (R372, R374, R392) -/

/-- A read timeout drops the oldest waiting read of the management side. -/
theorem bridgeTimeout_eq (s : State) : s.bridgeTimeout =
      ({ s with mgmt := { s.mgmt with
          waiting := match s.mgmt.waiting.find? (fun (a : WaitAcc) => match a with | .read (.fw _) _ | .debug _ none => true | _ => false) with
            | some a => s.mgmt.waiting.erase a | none => s.mgmt.waiting } }.raiseDev 1533).out (.value none) := rfl

/-- Addresses below the views name no register (R372). -/
theorem viewOff_of_lt (a : Nat) (h : a < 0x40000000) : viewOff a = none := by
  unfold viewOff
  rw [if_neg (by omega), if_neg (by omega)]

theorem debugAccess_of_served (s : State) (a : Nat) (w : Option Nat) (hm : s.glb.mode ≠ .off) (ht : s.mgmt.tap = .dbgSelect)
    (hd : s.debugDenied a = false) : s.debugAccess a w = s.debugServe a w := by
  unfold State.debugAccess
  rw [if_neg (by simp [hm, ht]), hd, if_neg Bool.false_ne_true]

/-- What the debug master may do in the code SRAM and the scratchpad (R372). -/
theorem localAllows_debug (rom w : Bool) (a : Nat) (h : (0x10000000 ≤ a ∧ a < 0x10080000) ∨ (0x20000000 ≤ a ∧ a < 0x20040000)) :
    localAllows rom .debug (if w then .write else .read) a = true := by
  have hle : (0x10000000 ≤ a ∧ a ≤ 0x1007FFFF) ∨ (0x20000000 ≤ a ∧ a ≤ 0x2003FFFF) := by omega
  cases w <;> rcases hle with hle | hle <;> simp [localAllows, hle]

/-- An aligned access of the debug master to code SRAM. -/
theorem debugServe_sram (s : State) (a : Nat) (w : Option Nat) (h4 : a % 4 = 0) (hlo : 0x10000000 ≤ a) (hhi : a < 0x10080000) :
    s.debugServe a w = (match w with
      | none => s.out (.value (some (memWord 0xFF s.mgmt.sram (a - 0x10000000))))
      | some v => s.modMgt (fun m => { m with sram := putMemWord 0xFF m.sram (a - 0x10000000) v })) := by
  unfold State.debugServe
  rw [viewOff_of_lt a (by omega)]
  have hallow : ¬ (a % 4 ≠ 0 ∨ (!localAllows s.inRom .debug (if w.isSome then .write else .read) a) = true) := by
    rw [localAllows_debug _ _ a (.inl ⟨hlo, hhi⟩)]
    simp [h4]
  simp only [if_neg hallow]
  cases w with
  | none => rw [if_neg (by omega), if_pos (by omega)]
  | some v => exact if_pos (by omega)

/-- An aligned access of the debug master to the scratchpad. -/
theorem debugServe_spad (s : State) (a : Nat) (w : Option Nat) (h4 : a % 4 = 0) (hlo : 0x20000000 ≤ a) (hhi : a < 0x20040000) :
    s.debugServe a w = (match w with
      | none => s.out (.value (some (memWord 0 s.mgmt.spad a)))
      | some v => s.modMgt (fun m => { m with spad := putMemWord 0 m.spad a v })) := by
  unfold State.debugServe
  rw [viewOff_of_lt a (by omega)]
  have hallow : ¬ (a % 4 ≠ 0 ∨ (!localAllows s.inRom .debug (if w.isSome then .write else .read) a) = true) := by
    rw [localAllows_debug _ _ a (.inr ⟨hlo, hhi⟩)]
    simp [h4]
  simp only [if_neg hallow]
  cases w with
  | none => rw [if_neg (by omega), if_neg (by omega), if_pos (by omega)]
  | some v => exact (if_neg (by omega)).trans (if_pos (by omega))

/-- Settles O20: sensors, bridge and counts are as stated; a debug access by the port's instruction, R392 and the memory it names. -/
theorem securityCommands : Obligations.SecurityCommands := by
  refine ⟨fun s => ⟨fun k => rfl, rfl, rfl, rfl, rfl⟩,
    fun s => ⟨fun a w => ⟨?off, ?denied, ?sram, ?spad⟩, fun p => ⟨rfl, rfl⟩, rfl, ?timeout, rfl⟩⟩
  case off => exact fun h => next_finish_congr s (if_pos h)
  case denied =>
    intro hm ht hd
    exact next_finish_congr s ((if_neg (by simp [hm, ht])).trans (if_pos hd))
  case sram =>
    intro hm ht hd h4 hlo hhi
    refine next_finish_congr s ((debugAccess_of_served s _ _ hm ht hd).trans ((debugServe_sram s _ _ h4 hlo hhi).trans ?_))
    cases w <;> rfl
  case spad =>
    intro hm ht hd h4 hlo hhi
    refine next_finish_congr s ((debugAccess_of_served s _ _ hm ht hd).trans ((debugServe_spad s _ _ h4 hlo hhi).trans ?_))
    cases w <;> rfl
  case timeout => exact next_finish_congr s (bridgeTimeout_eq s)

/-! ### SPDM (R393 to R395) -/

/-- GET_PQ_SIG answers once, with the signature asked for or an error. -/
theorem spdmPqSig_eq (s : State) (t : Transport) (secured : Bool) : s.spdmPqSig t secured =
    s.out (.spdm t (if s.mgmt.keysGone then .error 5
        else match (if secured then (s.spdmOf t).signedIn else (s.spdmOf t).signed) with | some d => .pqSig d | none => .error 4)) := by
  unfold State.spdmPqSig
  cases s.mgmt.keysGone with
  | true => rfl
  | false => cases (if secured then (s.spdmOf t).signedIn else (s.spdmOf t).signed) <;> rfl

theorem spdmSigned_of_keysGone (s : State) (t : Transport) (secured : Bool) (f : Nat → SpdmRsp) (h : s.mgmt.keysGone = true) :
    s.spdmSigned t secured f = s.out (.spdm t (.error 5)) := if_pos h

theorem spdmSigned_of_keys (s : State) (t : Transport) (secured : Bool) (f : Nat → SpdmRsp) (h : s.mgmt.keysGone = false) :
    s.spdmSigned t secured f = ({ s with freeCtr := s.freeCtr + 1 }.modSpdm t (fun x =>
      if secured then { x with signedIn := some (Config.freeNat s.freeCtr) } else { x with signed := some (Config.freeNat s.freeCtr) })).out
        (.spdm t (f (Config.freeNat s.freeCtr))) := by
  unfold State.spdmSigned
  rw [h, if_neg Bool.false_ne_true]
  rfl

/-- A choice of two answers is one answer. -/
theorem ite_spdmSay (s : State) (t : Transport) (p : Prop) [Decidable p] (a b : SpdmRsp) :
    (if p then s.spdmSay t a else s.spdmSay t b) = s.out (.spdm t (if p then a else b)) :=
  (apply_ite (s.spdmSay t) p a b).symm

/-- Settles O22: each request as its order has it, a signed response by the keys, and the measurements by index and mode. -/
theorem spdmRequests : Obligations.SpdmRequests := by
  refine ⟨fun s t => ⟨rfl, rfl, rfl, ?digests, ?certificate, rfl, fun secured k sign => rfl, rfl, rfl, ?heartbeat, rfl, rfl, ?signature, rfl⟩,
    fun s t f => ⟨fun secured => spdmSigned_of_keysGone s t secured f, spdmSigned_of_keys s t false f, spdmSigned_of_keys s t true f,
      ?endpaper, ?running, ?beyond⟩⟩
  case digests => exact next_finish_congr s (ite_congr rfl (fun _ => ite_spdmSay s t _ _ _) fun _ => rfl)
  case heartbeat => exact next_finish_congr s (ite_congr rfl (fun _ => ite_spdmSay s t _ _ _) fun _ => rfl)
  case certificate =>
    intro slot off len
    refine next_finish_congr s (ite_congr rfl (fun _ => ?_) fun _ => rfl)
    exact (ite_spdmSay s t _ _ _).trans (congrArg (fun r => s.out (.spdm t r))
      (ite_congr rfl (fun _ => ite_congr rfl (fun h => by rw [h]) fun _ => rfl) fun _ => rfl))
  case signature =>
    intro secured
    exact next_finish_congr s (ite_congr rfl (fun _ => ite_congr rfl (fun _ => rfl) fun _ => spdmPqSig_eq s t secured) fun _ => rfl)
  case endpaper =>
    intro h
    exact ⟨if_pos ⟨h, .inl rfl⟩, if_pos ⟨h, .inr rfl⟩⟩
  case running =>
    intro h
    exact if_neg fun h' => h h'.1
  case beyond =>
    intro k hk
    refine (if_neg fun h => ?_).trans ?_
    · omega
    · rcases hk with rfl | hk
      · rfl
      · obtain ⟨n, rfl⟩ : ∃ n, k = n + 5 := ⟨k - 5, by omega⟩
        rfl

/-! ### The out-of-band port and the test access port (R396, R397, R418) -/

/-- SAMPLE/PRELOAD loads its instruction and takes the cells, while the port runs. -/
theorem tapSample_eq (s : State) (cells : List (Pin × Bool)) : s.tapSample cells =
    if s.glb.vddAuxOk then { s with mgmt := { s.mgmt with tap := .sample, cells := cells } } else s := by
  unfold State.tapSample State.tapLoad
  refine ite_congr rfl (fun h => ?_) fun _ => rfl
  have hruns : s.tapRuns = true := h
  rw [if_pos hruns]
  rfl

/-- Settles O23: each answer is the one stated; SAMPLE/PRELOAD loads its instruction while the port runs. -/
theorem externalPorts : Obligations.ExternalPorts := by
  refine ⟨fun s => ⟨rfl, fun back => rfl, fun r => rfl, fun n => rfl, fun piece last ed pq => rfl, fun secured req => rfl,
      ⟨fun a => rfl, rfl⟩, fun cmd => rfl⟩,
    fun s => ⟨rfl, rfl, rfl, fun cells => ?sample, rfl, rfl, rfl, rfl, rfl, rfl⟩⟩
  case sample => exact next_finish_congr s (tapSample_eq s cells)

end Sys2Proof.Machine
end

section
/-!
PROOF. What 15_observation_and_counters says of instants, captures, mirrors and the reads of wide values (R262, R335 to R349).
-/
namespace Sys2Proof.Machine

/-! ### Effect stages (R337, R347 to R349) -/

/-- SNAPSHOT, FREEZE and THAW are one opcode, refused with MASTER_OFF (R278, R347). -/
theorem cmdEffect_snapshot (t : State) (c : Cmd) (h : opIs 0x40 c = true) : t.cmdEffect c =
    if t.masterOff c.origin then t.done c.origin 0x26 else t.snapshotCmd c.origin c.q := by
  obtain ⟨hlocal, hop⟩ := (opIs_iff _ _).1 h
  simp only [State.cmdEffect, hlocal, hop]
  rfl

/-- CAPTURE_CTL starts or stops (R337). -/
theorem cmdEffect_capture (t : State) (c : Cmd) (h : opIs 0x43 c = true) : t.cmdEffect c =
    if qfld (cq c.q 3) 9 8 = 1 then
      t.captureStart c.origin (qfld (cq c.q 3) 5 0) (t.cmdMem c.origin) (cq c.q 4) (cq c.q 5) (cq c.q 6) (cq c.q 7)
    else t.captureStop c.origin (qfld (cq c.q 3) 5 0) := by
  obtain ⟨hlocal, hop⟩ := (opIs_iff _ _).1 h
  simp only [State.cmdEffect, hlocal, hop]
  rfl

theorem cmdEffect_isFreeze (t : State) (c : Cmd) (h : isFreeze c = true) : t.cmdEffect c =
    if t.masterOff c.origin then t.done c.origin 0x26 else t.instantRequest ⟨.freeze, (cq c.q 3).toNat, c.origin⟩ := by
  obtain ⟨hop, hact⟩ := Bool.and_eq_true_iff.1 h
  rw [cmdEffect_snapshot t c hop]
  unfold State.snapshotCmd
  simp only [beq_iff_eq.1 hact]

theorem cmdEffect_isThaw (t : State) (c : Cmd) (h : isThaw c = true) : t.cmdEffect c =
    if t.masterOff c.origin then t.done c.origin 0x26 else t.instantRequest ⟨.thaw, (cq c.q 3).toNat, c.origin⟩ := by
  obtain ⟨hop, hact⟩ := Bool.and_eq_true_iff.1 h
  rw [cmdEffect_snapshot t c hop]
  unfold State.snapshotCmd
  simp only [beq_iff_eq.1 hact]

/-- What a SNAPSHOT asks for (R349). -/
def State.snapshotAsked (t : State) (c : Cmd) : Instant :=
  ⟨.snapshot (qfld (cq c.q 5) 44 32) (qfld (cq c.q 5) 61 48) (t.cmdMem c.origin) (if cInline c.q then none else some (cq c.q 4).toNat),
    (cq c.q 3).toNat, c.origin⟩

/-- A SNAPSHOT of a restricted ring is held to its grants (R314). -/
theorem cmdEffect_isSnapshot (t : State) (c : Cmd) (h : isSnapshot c = true) : t.cmdEffect c =
    if t.masterOff c.origin then t.done c.origin 0x26
    else match t.cmdGrant c.origin with
      | none => t.instantRequest (t.snapshotAsked c)
      | some g =>
        if !t.countersGranted g (qfld (cq c.q 5) 44 32) (qfld (cq c.q 5) 61 48) then t.restrictedFault c.origin g
        else if cInline c.q then t.instantRequest (t.snapshotAsked c)
        else
          let r := t.guardRange g (cq c.q 4).toNat (64 + 8 * qfld (cq c.q 5) 61 48)
          if r.1 then r.2.done c.origin 0x23 else r.2.instantRequest (t.snapshotAsked c) := by
  obtain ⟨hrest, hthaw⟩ := Bool.and_eq_true_iff.1 h
  obtain ⟨hop, hfreeze⟩ := Bool.and_eq_true_iff.1 hrest
  have h1 : qfld (cq c.q 5) 1 0 ≠ 1 := fun he => by simp [isFreeze, hop, he] at hfreeze
  have h2 : qfld (cq c.q 5) 1 0 ≠ 2 := fun he => by simp [isThaw, hop, he] at hthaw
  rw [cmdEffect_snapshot t c hop]
  refine ite_congr rfl (fun _ => rfl) fun _ => ?_
  unfold State.snapshotCmd
  simp only
  cases t.cmdGrant c.origin <;> rfl

theorem cmdEffect_isCapStart (t : State) (c : Cmd) (h : isCapStart c = true) : t.cmdEffect c =
    t.captureStart c.origin (qfld (cq c.q 3) 5 0) (t.cmdMem c.origin) (cq c.q 4) (cq c.q 5) (cq c.q 6) (cq c.q 7) := by
  obtain ⟨hop, hact⟩ := Bool.and_eq_true_iff.1 h
  rw [cmdEffect_capture t c hop, if_pos (beq_iff_eq.1 hact)]

theorem cmdEffect_isCapStop (t : State) (c : Cmd) (h : isCapStop c = true) : t.cmdEffect c =
    t.captureStop c.origin (qfld (cq c.q 3) 5 0) := by
  obtain ⟨hop, hstart⟩ := Bool.and_eq_true_iff.1 h
  rw [cmdEffect_capture t c hop, if_neg fun he => by simp [isCapStart, hop, he] at hstart]

/-! ### Reads of wide values (R262, R346) -/

/-- The LO word of a counter, a threshold value or a bin: read only, one field of 32 bits, and its live value and latch are PMC's. -/
theorem pmcPlace_located (s : State) (path : Path) (x : PmcPlace) : ∃ y, locate x.off = some y ∧
    y.row.fields.map (fun f => (f.hi, f.lo, f.held, f.acc)) = [(31, 0, true, .ro)] ∧
    s.liveWord path y = s.pmcAt x.off % 2 ^ 32 ∧ s.readLatch path y = s.pmcLatch path x.off := by
  cases x with
  | counter n =>
    obtain ⟨y, hy, hn, ho, hf⟩ := locate_counter n
    exact ⟨y, hy, hf, by simp [State.liveWord, hn, ho, PmcPlace.off], by simp [State.readLatch, hn, ho, PmcPlace.off]⟩
  | threshold n =>
    obtain ⟨y, hy, hn, ho, hf⟩ := locate_threshold n
    exact ⟨y, hy, hf, by simp [State.liveWord, hn, ho, PmcPlace.off], by simp [State.readLatch, hn, ho, PmcPlace.off]⟩
  | bin h b =>
    obtain ⟨y, hy, hn, ho, hf⟩ := locate_bin h b
    exact ⟨y, hy, hf, by simp [State.liveWord, hn, ho, PmcPlace.off], by simp [State.readLatch, hn, ho, PmcPlace.off]⟩

theorem pmcPlace_off_aligned (x : PmcPlace) : x.off % 4 = 0 := by
  cases x <;> simp only [PmcPlace.off] <;> omega

/-- A row's read of the LO word of a counter, threshold value or bin. -/
theorem readVia_pmc (s : State) (path : Path) (x : PmcPlace) :
    s.readVia path x.off = s.readOut path x.off (s.pmcAt x.off % 2 ^ 32) (s.pmcLatch path x.off) := by
  obtain ⟨y, hy, hf, hlive, hlatch⟩ := pmcPlace_located s path x
  rw [readVia_whole s path _ y (pmcPlace_off_aligned x) hy hf, hlive, hlatch, Nat.mod_mod]

/-- A row's read of LNC_Lnnn_BITCNT_LO. -/
theorem readVia_bitcnt (s : State) (path : Path) (l : Fin 256) : s.readVia path (0x210018 + 0x40 * l.val) =
    s.readOut path (0x210018 + 0x40 * l.val) ((s.lane l.val).bitCnt % 2 ^ 32) (s.latchBits path l.val) := by
  obtain ⟨y, hy, hn, hi, hf⟩ := locate_bitcnt l
  have hlive : s.liveWord path y = (s.lane l.val).bitCnt % 2 ^ 32 := by simp [State.liveWord, hn, hi]
  have hlatch : s.readLatch path y = s.latchBits path l.val := by simp [State.readLatch, hn, hi]
  rw [readVia_whole s path _ y (by omega) hy hf, hlive, hlatch, Nat.mod_mod]

/-- Settles O41: an instant is asked for in the effect stage of its command, a read latches the high bits, and the record or copy whose turn
it is leaves. -/
theorem observationCommands : Obligations.ObservationCommands := by
  refine ⟨fun s => ?commands, fun s path => ⟨fun x => next_finish_congr s (readVia_pmc s path x),
    fun l => next_finish_congr s (readVia_bitcnt s path l), ?record, fun p cred => ?copy⟩⟩
  case commands =>
    intro request off
    have hrequest (t : State) (x : Instant) : t.instantRequest x = request t x := rfl
    clear_value request
    refine ⟨?freeze, ?thaw, ?snapshot, fun _ => rfl, fun _ _ => rfl, next_runCmd s _ _ cmdEffect_isCapStart,
      next_runCmd s _ _ cmdEffect_isCapStop⟩
    case freeze =>
      refine next_runCmd s _ _ fun t c h => (cmdEffect_isFreeze t c h).trans ?_
      rw [hrequest]
      rfl
    case thaw =>
      refine next_runCmd s _ _ fun t c h => (cmdEffect_isThaw t c h).trans ?_
      rw [hrequest]
      rfl
    case snapshot =>
      refine next_runCmd s _ _ fun t c h => (cmdEffect_isSnapshot t c h).trans (ite_congr rfl (fun _ => rfl) fun _ => ?_)
      simp only [hrequest]
      cases t.cmdGrant c.origin <;> rfl
  case record =>
    refine next_finish_congr s ?_
    unfold State.captureWrite
    cases s.obs.queue.find? (fun r => s.memOn (s.recordTo r).1) <;> rfl
  case copy =>
    refine next_finish_congr s (ite_congr rfl (fun _ => rfl) fun _ => ?_)
    cases s.mirrorTurn p.val with
    | none => rfl
    | some a => cases (s.session a).queue.find? (fun c => c.out == p.val) <;> rfl

end Sys2Proof.Machine
end
